-- ==== Sys2Proof/Word.lean ====
section
/-! DEFINITION. The plain words of the model: a byte, a line number, a time. -/

namespace Sys2Proof

/-- One byte of the host link, of a buffer area or of the DRAM. -/
abbrev Byte := BitVec 8

/-- A line number, 0 to 3 (00_scope.md, "Lines, channels and the part as a whole"). -/
abbrev LineId := Fin 4

/-- A moment or a length in milliseconds (00_scope.md, "Numbers and quantities"). -/
abbrev Ms := Nat

/-- A timer: stopped, or running until the moment held. -/
abbrev Timer := Option Ms

/-- A byte from a number, modulo 256. -/
abbrev byte (n : Nat) : Byte := BitVec.ofNat 8 n

end Sys2Proof
end

