-- ==== Sys2Proof/Syntax.lean ====
section
/-! DEFINITION. The commands the LP-440 takes: one constructor of `Instr` for each row of spec/opcode_table.json,
with the data the rule of that row says it carries (notes/assumptions/1.md). -/

namespace Sys2Proof

/-- A directive as the Decoder holds it but for its code: line value, tag and argument bytes (R171, R175). -/
structure Directive where
  line : Byte
  tag  : Byte
  args : List Byte
  deriving DecidableEq, Repr

/-- What the incoming host line gives the parser: a byte, or one received with a framing error (R173). -/
inductive RxByte where
  | good (b : Byte)
  | framingError
  deriving DecidableEq, Repr

/-- The three kinds of host frame on a line channel that carry bytes (R171). -/
inductive DataKind where
  | data | page | voice
  deriving DecidableEq, Repr

/-- The sixteen DTMF digits (R29), in the order R14 names them. -/
inductive Digit where
  | d0 | d1 | d2 | d3 | d4 | d5 | d6 | d7 | d8 | d9 | star | hash | la | lb | lc | ld
  deriving DecidableEq, Repr

/-- One measurement record of a Datapump (R73). -/
structure MeasRecord where
  es    : Nat
  ee    : Nat
  hits  : Nat
  valid : Bool
  deriving DecidableEq, Repr

/-- A capability record (R99). -/
structure Capability where
  rate   : Nat
  window : Nat
  blockCorrection : Bool
  deriving DecidableEq, Repr

/-- One frequency of what a line receives: in millihertz, and its power in hundredths of a dBm
(notes/assumptions/18.md). -/
structure HeardTone where
  mHz  : Nat
  cdBm : Int
  deriving DecidableEq, Repr

/-- The two ends of a fax call (R117). -/
inductive FaxRole where
  | sender | receiver
  deriving DecidableEq, Repr

/-- The receiver's answer to a page (R119). -/
inductive Verdict where
  | good | goodRetrain | bad
  deriving DecidableEq, Repr

/-- The two resolutions (R117). -/
inductive Resolution where
  | normal | fine
  deriving DecidableEq, Repr

/-- Every operation and event of spec/opcode_table.json. -/
inductive Instr where
  -- the host link
  | powerOn
  | partReset (d : Directive)
  | lineBreak
  | breakEnd
  | hostDirectiveFrame (payload : List Byte)
  | hostLineDataFrame (i : LineId) (k : DataKind) (payload : List Byte)
  | hostPageEndFrame (i : LineId) (payload : List Byte)
  | hostStoreDataFrame (payload : List Byte)
  | hostStoreEndFrame (payload : List Byte)
  | hostFrameBad (wire : List RxByte)
  | interByteGapExpiry
  | unknownDirective (code : Byte) (d : Directive)
  | outboundFrameChoice
  | outboundFrameSent
  -- directives
  | lineEnable (d : Directive)
  | lineDisable (d : Directive)
  | lineReset (d : Directive)
  | setProfile (d : Directive)
  | loadRingPatterns (d : Directive)
  | dial (d : Directive)
  | hangUp (d : Directive)
  | loopbackEnter (d : Directive)
  | loopbackLeave (d : Directive)
  | loopSignals (d : Directive)
  | loadTones (d : Directive)
  | sendDigits (d : Directive)
  | routePut (d : Directive)
  | routeDrop (d : Directive)
  | routeClear (d : Directive)
  | routeRead (d : Directive)
  | routeTest (d : Directive)
  | answer (d : Directive)
  | reject (d : Directive)
  | setClock (d : Directive)
  | areaDefine (d : Directive)
  | areaJoin (d : Directive)
  | areaUnjoin (d : Directive)
  | areaFlush (d : Directive)
  | areaRead (d : Directive)
  | loadLadder (d : Directive)
  | rateRequestTrial (d : Directive)
  | rateRequest (d : Directive)
  | qualityRead (d : Directive)
  | faxDocument (d : Directive)
  | storeFormat (d : Directive)
  | storeStatus (d : Directive)
  | msgList (d : Directive)
  | msgInfo (d : Directive)
  | msgMark (d : Directive)
  | msgDelete (d : Directive)
  | msgUpload (d : Directive)
  | msgDownload (d : Directive)
  | transferStop (d : Directive)
  | record (d : Directive)
  | play (d : Directive)
  | voiceStop (d : Directive)
  | lineStatus (d : Directive)
  -- the line's inputs and the call's timings
  | ringInputChange (i : LineId) (active : Bool)
  | ringQualified (i : LineId)
  | burstTrailingEdge (i : LineId)
  | ringGapExpiry (i : LineId)
  | ringAbandonExpiry (i : LineId)
  | loopInputChange (i : LineId) (present : Bool)
  | loopDrop (i : LineId)
  | releaseGuardExpiry (i : LineId)
  | dialToneWaitExpiry (i : LineId)
  | awaitToneExpiry (i : LineId)
  | dtmfDigitOnEnd (i : LineId)
  | dtmfDigitOffEnd (i : LineId)
  | pulseBreakEnd (i : LineId)
  | pulseMakeEnd (i : LineId)
  | pulseInterdigitEnd (i : LineId)
  | dialPauseEnd (i : LineId)
  | flashEnd (i : LineId)
  | answerWaitExpiry (i : LineId)
  -- the Tone Engine
  | toneDetectorChange (i : LineId) (id : Nat) (heard : List HeardTone) (already : Bool)
  | cadencePeriodExpiry (i : LineId) (id : Nat)
  | continuousToneConfirm (i : LineId) (id : Nat)
  | generatedToneEnd (i : LineId)
  | powerFrameEnd (i : LineId) (power : Int)
  | dtmfPairChange (i : LineId) (heard : List HeardTone)
  | dtmfPresenceExpiry (i : LineId)
  | dtmfAbsenceExpiry (i : LineId)
  | cidMessageEnd (i : LineId) (heard : List HeardTone)
  | cidWaitExpiry (i : LineId)
  | classifyTimeExpiry (i : LineId)
  | answerDropExpiry (i : LineId)
  | clockMinuteAdvance
  -- quality and rate
  | measurementRecord (i : LineId) (r : MeasRecord)
  | trainingRecord (i : LineId) (r : MeasRecord)
  | trainingOutcome (i : LineId) (locked : Bool)
  | rateOkWaitExpiry (i : LineId)
  | linkRateReceived (i : LineId) (step : Nat)
  | linkRateOkReceived (i : LineId) (step : Nat)
  | carrierChange (i : LineId) (on : Bool)
  | carrierLossExpiry (i : LineId)
  -- the data link
  | frameCheckFail (i : LineId)
  | capsReceived (i : LineId) (c : Capability)
  | capsRepeatExpiry (i : LineId)
  | exchangeTimerExpiry (i : LineId)
  | dataAnswerToneEnd (i : LineId)
  | linkDataReceived (i : LineId) (seq ack : Fin 64) (payload : List Byte)
  | linkAckReceived (i : LineId) (n : Fin 64)
  | linkResendReceived (i : LineId) (seq : Fin 64)
  | linkPauseReceived (i : LineId)
  | linkResumeReceived (i : LineId)
  | linkEndReceived (i : LineId)
  | linkEndOkReceived (i : LineId)
  | linkFrameFormed (i : LineId)
  | linkFrameTransmitted (i : LineId)
  | resendTimerExpiry (i : LineId)
  | pauseTimerExpiry (i : LineId)
  | ackSpacingExpiry (i : LineId)
  | drainTimerExpiry (i : LineId)
  | endOkWaitExpiry (i : LineId)
  -- the fax
  | faxAnswerToneEnd (i : LineId)
  | faxCallToneExpiry (i : LineId)
  | faxOfferReceived (i : LineId) (rate : Nat) (resolutions : List Resolution) (blockCorrection : Bool)
  | faxChooseReceived (i : LineId) (step : Nat) (res : Resolution) (blockCorrection : Bool)
  | faxCheckEnd (i : LineId) (locked : Bool) (errors : Nat)
  | faxTrainLockTimeout (i : LineId)
  | faxTrainOkReceived (i : LineId)
  | faxTrainRetryReceived (i : LineId)
  | faxPageBegin (i : LineId)
  | faxSenderPageEnd (i : LineId)
  | faxFillExpiry (i : LineId)
  | faxErrorBurst (i : LineId)
  | faxPageCloseReceived (i : LineId) (last : Bool) (again : Bool)
  | faxVerdictReceived (i : LineId) (v : Verdict) (stop : Bool) (q : Nat)
  | faxBlockFrameReceived (i : LineId) (seq : Fin 32) (payload : List Byte)
  | faxBlockEndReceived (i : LineId) (number : Nat) (count : Nat)
  | faxBlockMapReceived (i : LineId) (number : Nat) (missing : List Nat)
  | faxEndReceived (i : LineId) (role : FaxRole)
  | faxEndTransmitted (i : LineId) (role : FaxRole)
  | faxResponseWaitExpiry (i : LineId) (role : FaxRole)
  | faxReceiveWaitExpiry (i : LineId)
  -- the store and voice
  | storeBlockRequest
  | storeStageWrite (i : LineId)
  | storeStageFill (i : LineId)
  | greetingEnd (i : LineId)
  | recordToneEnd (i : LineId)
  | recordMaxLength (i : LineId)
  | recordingComplete (i : LineId)
  | faxWatchExpiry (i : LineId)
  | playEntryEnd (i : LineId)
  | cidSynchronised (i : LineId) (heard : List HeardTone)
  | faxPageDataReceived (i : LineId) (bytes : List Byte)
  | faxPageDataSent (i : LineId) (n : Nat)
  | voiceBytesCoded (i : LineId) (bytes : List Byte)
  | voiceBytesDecoded (i : LineId) (n : Nat)
  deriving DecidableEq, Repr

end Sys2Proof
end

