-- ==== Sys2Proof/Decode.lean ====
section
/-! DEFINITION. The command a word of bits spells. No row of spec/opcode_table.json gives bits: its rows are operations
and events, and the host link's frames are read byte by byte by the receive parser of the model (R171, R173). -/

namespace Sys2Proof

/-- No word of bits spells a command of the LP-440. -/
def decodeTableWord (_nbits _w : Nat) : Option Instr := none

end Sys2Proof
end

