-- ==== Sys2Proof/Config.lean ====
section
/-! DEFINITION. What one LP-440 fixes: the numbers the rules state once and every block uses. -/

namespace Sys2Proof.Config

/-- READY's revision code (R182). -/
def revision : Nat := 0x11

/-- Entries a notice queue holds at most (R178). -/
def noticeQueueMax : Nat := 16

/-- Replies the reply list holds at most (R176). -/
def replyListMax : Nat := 16

/-- Directives the input list holds at most (R175). -/
def inputListMax : Nat := 4

/-- Units of the buffer RAM, and bytes of one unit (R60). -/
def bufferUnits : Nat := 96
def unitBytes : Nat := 256

/-- Page marks an area holds at most (R60, R66). -/
def pageMarksMax : Nat := 8

/-- Bytes of one store block, and DRAM blocks of the directory (R140). -/
def blockBytes : Nat := 1024
def directoryBlocks : Nat := 16

/-- Entries the store's directory holds at most (R145). -/
def directoryMax : Nat := 256

/-- Page records of a FAX entry at most (R133). -/
def pageListMax : Nat := 24

/-- Entries of the routing table, the tone table and the ring pattern table at most (R45, R23, R11). -/
def routesMax : Nat := 24
def tonesMax : Nat := 16
def patternsMax : Nat := 4

/-- Steps of the data ladder and of the fax ladder at most (R78). -/
def dataStepsMax : Nat := 8
def faxStepsMax : Nat := 6

/-- The total level of a table tone, and the levels of the two frequencies of a digit, in dBm (R28, R29). -/
def toneLevel : Int := -10
def lowGroupLevel : Int := -9
def highGroupLevel : Int := -7

/-- The frequency sent for RECORD_TONE where the table has no entry of the class, in Hz (R28). -/
def recordToneHz : Nat := 1000

/-- Least levels in dBm: of each frequency of a received digit, and of a received caller identity signal (R35, R39). -/
def dtmfLevel : Int := -30
def cidLevel : Int := -40

/-- The greatest difference of the two levels of a received digit, in dB (R35). -/
def dtmfTwist : Int := 8

/-- The frequencies of a mark and of a space of a caller identity signal, in Hz (R39). -/
def markHz : Nat := 1200
def spaceHz : Nat := 2200

/-- Milliseconds between two measurement records (R73). -/
def recordMs : Nat := 125

/-- What a DRAM byte that nothing has written reads as. DESIGN CHOICE (notes/assumptions/2.md). -/
def dramBlank : Byte := 0

end Sys2Proof.Config
end

