-- ==== Sys2Proof/Machine/State.lean ====
section
/-! DEFINITION. Everything the LP-440 keeps, as plain data, and its state right after power-on. Each field's
docstring names the rule of spec/ that gives it. -/

namespace Sys2Proof.Machine

/-! ## Names of the lines and calls -/

/-- The line state (R1). -/
inductive LineState where
  | offline | idle | alerting | seizing | dialling | progress | classify | data | fax | voice | release | loopback
  deriving DecidableEq, Repr

/-- The job of a call (R1). -/
inductive Job where
  | none | data | fax | voice
  deriving DecidableEq, Repr

/-- The direction of a call (R1). -/
inductive Direction where
  | none | incoming | outgoing
  deriving DecidableEq, Repr

/-- Where the pages of a sent fax come from (R1). -/
inductive FaxSource where
  | host
  | store (id : Nat)
  deriving DecidableEq, Repr

/-- The cadence class of ringing (R12); `pattern n` has n in 1 to 4. -/
inductive CadenceClass where
  | pending
  | pattern (n : Nat)
  | unmatched
  deriving DecidableEq, Repr

/-- A set of jobs out of DATA, FAX and VOICE: an allowed mask (00_scope.md, R45). -/
structure JobSet where
  data  : Bool
  fax   : Bool
  voice : Bool
  deriving DecidableEq, Repr

/-- One element of a dial list (R14). -/
inductive DialElement where
  | digit (d : Digit)
  | pause (tenths : Nat)
  | awaitTone
  | flash
  deriving DecidableEq, Repr

/-- Why a call ended, in the order of the table of R57. -/
inductive EndReason where
  | locally | remote | noLine | noDialTone | busy | noAnswer | abandoned | rejected | noCarrier | trainFail
  | linkFail | lineQuality | faxProtocol | hostUnderrun | done | reset
  deriving DecidableEq, Repr

/-- What a classification rests on (R42, R43). -/
inductive Basis where
  | only | timeout | greetingEnd | tone | speech | digit
  deriving DecidableEq, Repr

/-- Why a number or a name was withheld: P or U (R40). -/
inductive Withheld where
  | priv | unavailable
  deriving DecidableEq, Repr

/-- The status of a caller identity record (R40). -/
inductive CidStatus where
  | complete | damaged | none
  deriving DecidableEq, Repr

/-- The date and time of a caller identity message (R40). -/
structure CidDate where
  month  : Nat
  day    : Nat
  hour   : Nat
  minute : Nat
  deriving DecidableEq, Repr

/-- The caller identity record of a call (R40). -/
structure CidRecord where
  status : CidStatus
  date   : Option CidDate := none
  number : Option (List Byte) := none
  name   : Option (List Byte) := none
  numberWithheld : Option Withheld := none
  nameWithheld   : Option Withheld := none
  deriving DecidableEq, Repr

/-- What is done with an incoming call (R45). -/
inductive Action where
  | answer | reject | answerDrop
  deriving DecidableEq, Repr

/-- The override of a routing copy (R56). -/
inductive Override where
  | none | answer | reject
  deriving DecidableEq, Repr

/-- The routing copy of a call record (R56); position none is DEFAULT. -/
structure RoutingCopy where
  position : Option Nat
  action   : Action
  rings    : Option Nat
  mask     : JobSet
  mailbox  : Nat
  greeting : Option Nat
  override : Override
  deriving DecidableEq, Repr

/-- A timestamp: (day, minute), or none for unset (R58). -/
abbrev Stamp := Option (Nat × Nat)

/-- The call record (R56). -/
structure CallRecord where
  direction      : Direction
  ringCount      : Nat
  cadence        : Option CadenceClass
  cid            : Option CidRecord
  routing        : Option RoutingCopy := none
  classification : Option (Job × Basis) := none
  job            : Job
  ringback       : Nat := 0
  start          : Stamp
  endReason      : Option EndReason := none
  finalStep      : Option Nat := none
  pages          : Option Nat := none
  messageId      : Option Nat := none
  deriving DecidableEq, Repr

/-! ## Tables the host loads -/

/-- The nine tone classes (R23). -/
inductive ToneClass where
  | dial | busy | ringback | congestion | dataCall | dataAnswer | faxCall | faxAnswer | recordTone
  deriving DecidableEq, Repr

/-- One segment of a tone's cadence (R23). -/
structure Segment where
  onMin  : Ms
  onMax  : Ms
  offMin : Ms
  offMax : Ms
  deriving DecidableEq, Repr

/-- One entry of the tone table (R23). -/
structure ToneEntry where
  id      : Nat
  cls     : ToneClass
  f1      : Nat
  f2      : Option Nat
  level   : Int
  cadence : List Segment
  confirm : Nat
  deriving DecidableEq, Repr

/-- The ring match of a routing entry (R45). -/
inductive RingMatch where
  | any
  | pattern (n : Nat)
  | unmatched
  deriving DecidableEq, Repr

/-- The number match of a routing entry (R45). -/
inductive NumberMatch where
  | any | withheld | none
  | digits (d : List Byte)
  deriving DecidableEq, Repr

/-- One entry of the routing table (R45). -/
structure RouteEntry where
  lines    : Vector Bool 4
  ring     : RingMatch
  number   : NumberMatch
  window   : Option (Nat × Nat)
  action   : Action
  rings    : Option Nat
  mask     : JobSet
  mailbox  : Nat
  greeting : Option Nat
  deriving DecidableEq, Repr

/-- One step of a ladder (R78); the data ladder's steps hold train_limit 0 and never use it. -/
structure LadderStep where
  rate : Nat
  d    : Nat
  u    : Nat
  trainLimit : Nat := 0
  deriving DecidableEq, Repr

/-- The minute-of-day clock (R58). -/
structure Clock where
  minute  : Nat
  day     : Nat
  isSet   : Bool
  elapsed : Ms
  deriving DecidableEq, Repr

/-! ## The profile -/

inductive DialMethod where
  | tone | pulse
  deriving DecidableEq, Repr

inductive FaxTo where
  | host | store
  deriving DecidableEq, Repr

/-- The profile of a line with its defaults (R5). `noticeMask` has bit k set for the kind at place k of R178. -/
structure Profile where
  dialMethod       : DialMethod := .tone
  toneOnMs         : Nat := 80
  toneOffMs        : Nat := 80
  pulseBreakMs     : Nat := 60
  pulseMakeMs      : Nat := 40
  pulseInterdigitMs : Nat := 700
  flashMs          : Nat := 600
  dialToneWaitMs   : Nat := 5000
  blindDial        : Bool := false
  answerWaitS      : Nat := 60
  ringQualifyMs    : Nat := 150
  ringGapMs        : Nat := 1500
  ringAbandonMs    : Nat := 8000
  cidWaitMs        : Nat := 3000
  cidSetsClock     : Bool := false
  answerEnable     : Bool := true
  defaultRings     : Nat := 4
  defaultMask      : JobSet := ⟨false, false, true⟩
  defaultMailbox   : Nat := 0
  classifyMs       : Nat := 8000
  speechMarginDb   : Nat := 12
  silenceMarginDb  : Nat := 6
  loopDropMs       : Nat := 300
  carrierLossMs    : Nat := 1400
  dataFloor        : Nat := 0
  dataStart        : Nat := 4
  dataCeiling      : Nat := 6
  faxFloor         : Nat := 0
  faxCeiling       : Nat := 5
  windowMax        : Nat := 7
  resendMs         : Nat := 1500
  retryLimit       : Nat := 6
  pauseLimitS      : Nat := 30
  impulsePenalty   : Nat := 6
  fbPersist        : Nat := 4
  ffPersist        : Nat := 80
  dropPersist      : Nat := 40
  errLimit         : Nat := 6
  blockCorrection  : Bool := true
  goodPct          : Nat := 5
  acceptPct        : Nat := 15
  runLimit         : Nat := 16
  faxTo            : FaxTo := .store
  voiceBits        : Nat := 4
  silenceEndS      : Nat := 5
  maxRecordS       : Nat := 120
  minRecordMs      : Nat := 1000
  faxWatchS        : Nat := 5
  bargeIn          : Bool := true
  voiceHold        : Bool := false
  recordToneMs     : Nat := 500
  noticeMask       : BitVec 18 := BitVec.allOnes 18
  deriving DecidableEq, Repr

/-- The call-start copies of profile fields (R6). -/
structure CallCopies where
  dataFloor   : Nat := 0
  dataStart   : Nat := 0
  dataCeiling : Nat := 0
  faxFloor    : Nat := 0
  faxCeiling  : Nat := 0
  windowMax   : Nat := 0
  blockCorrection : Bool := false
  faxTo       : FaxTo := .store
  deriving DecidableEq, Repr

/-! ## The Line Interface and the Line Controller -/

/-- Ring measurement (R9, R10). -/
structure RingMeter where
  /-- the input active and not yet qualified: when it became active, and when it qualifies -/
  qual    : Option (Ms × Ms) := none
  /-- the burst in progress: the moment its input became active -/
  burst   : Option Ms := none
  /-- the moment the input last went inactive inside a burst -/
  quiet   : Timer := none
  /-- a ring cycle is open -/
  cycle   : Bool := false
  /-- durations of the bursts of the first cycle, in order -/
  durs    : List Ms := []
  /-- ring cycles closed -/
  closed  : Nat := 0
  gap     : Timer := none
  abandon : Timer := none
  deriving DecidableEq, Repr

/-- The signal record (R20): four values, their change flags, and the ring trailing-edge flag. -/
structure Signals where
  ring    : Bool := false
  loop    : Bool := false
  carrier : Bool := false
  hook    : Bool := false
  fRing    : Bool := false
  fLoop    : Bool := false
  fCarrier : Bool := false
  fHook    : Bool := false
  trailing : Bool := false
  deriving DecidableEq, Repr

/-- A host override taken for the call in ALERTING (R54, R55). -/
inductive HostOverride where
  | none
  | answer (mask : JobSet)
  | reject
  deriving DecidableEq, Repr

/-- How far the dial element in hand is (R16). -/
inductive DialStep where
  | idle
  | tone
  | pulseBreak (left : Nat) (until_ : Ms)
  | pulseMake (left : Nat) (until_ : Ms)
  | interdigit (until_ : Ms)
  | pause (until_ : Ms)
  | await (until_ : Ms)
  | flash (until_ : Ms)
  deriving DecidableEq, Repr

/-! ## The Tone Engine -/

/-- What a cadence matcher is timing (R26, R27). -/
inductive MatchPhase where
  | waiting
  | on (since : Ms)
  | off (since : Ms) (reached : Bool)
  | confirmed
  deriving DecidableEq, Repr

/-- One entry's detector and cadence matcher (R25, R26). `first` is the coded count at the onset that began
segment 0 of the first cadence being counted (R162). -/
structure Matcher where
  id    : Nat
  det   : Bool := false
  phase : MatchPhase := .waiting
  seg   : Nat := 0
  reps  : Nat := 0
  first : Nat := 0
  deriving DecidableEq, Repr

/-- A tone being generated (R28): the entry as taken, when the requested time ends, and its place in the cadence. -/
structure ToneGen where
  cls     : ToneClass
  f1      : Nat
  f2      : Option Nat
  /-- on and off lengths of the segments; empty for a continuous tone -/
  cadence : List (Ms × Ms)
  stopAt  : Ms
  seg     : Nat
  isOn    : Bool
  segEnd  : Timer
  deriving DecidableEq, Repr

/-- A DTMF digit being sent (R29). -/
structure DigitTx where
  digit : Digit
  isOn  : Bool
  until_ : Ms
  offMs : Ms
  deriving DecidableEq, Repr

/-- The DTMF detector (R35). -/
inductive DtmfState where
  | idle
  | presence (d : Digit) (since : Ms)
  | held (d : Digit) (absent : Timer)
  deriving DecidableEq, Repr

/-- The caller identity window of a call (R38). -/
inductive CidWindow where
  | notOpened | open_ | closed
  deriving DecidableEq, Repr

/-- The conditions of the caller identity receiver (R39); `inByte` holds the data bits received, first bit first. -/
inductive CidCond where
  | hunting (marks : Nat)
  | synchronised
  | inByte (bits : List Bool)
  | between (marks : Nat)
  deriving DecidableEq, Repr

/-- The caller identity receiver: window, condition, bytes of the message in hand, and the wait (R38, R39). -/
structure CidRx where
  window : CidWindow := .notOpened
  cond   : CidCond := .hunting 0
  bytes  : List Byte := []
  record : CidRecord := { status := .none }
  /-- cid_wait_ms as read at the window's start (R5) -/
  waitMs : Ms := 0
  wait   : Timer := none
  deriving DecidableEq, Repr

/-- A line's Tone Engine (R22 to R37). -/
structure ToneEngine where
  matchers  : List Matcher := []
  gen       : Option ToneGen := none
  /-- the tone of the receiving half of a fax job in LOOPBACK (R28, R138) -/
  echoGen   : Option ToneGen := none
  digitTx   : Option DigitTx := none
  sendQueue : List Digit := []
  dtmf      : DtmfState := .idle
  pairOn    : Bool := false
  /-- a detector was on or a pair present at some moment of the frame in progress (R30) -/
  frameBusy : Bool := false
  frameStart : Ms := 0
  /-- consecutive speech frames, up to 3 (R31) -/
  speechRun : Nat := 0
  nf16      : Int := -960
  cid       : CidRx := {}
  deriving DecidableEq, Repr

/-! ## Quality and rate -/

inductive RateState where
  | off | retraining | steady | renegotiating
  deriving DecidableEq, Repr

inductive TryKind where
  | short | full
  deriving DecidableEq, Repr

inductive RateCause where
  | quality | errors | host | peer
  deriving DecidableEq, Repr

/-- The quality state of a line (R74). Q is `a / 8` and is not stored twice. -/
structure Quality where
  lastQi  : Nat := 0
  lastS   : Nat := 0
  a       : Nat := 0
  lowRun  : Nat := 0
  highRun : Nat := 0
  rc      : RateState := .off
  step    : Option Nat := none
  target  : Option Nat := none
  tries   : Nat := 0
  tryKind : TryKind := .full
  oldStep : Option Nat := none
  cause   : Option RateCause := none
  floor   : Option Nat := none
  ceiling : Option Nat := none
  /-- score of the last valid training record of the try in hand (R82) -/
  tryQt   : Option Nat := none
  /-- the RATE_OK wait (R87) -/
  rateOkWait : Timer := none
  /-- the end of the training time of the try in hand (R73) -/
  tryEnd  : Timer := none
  /-- the earliest end of the next 125 ms of training signal, and of the next 125 ms interval of records (R73) -/
  nextTraining : Timer := none
  nextRecord : Timer := none
  deriving DecidableEq, Repr

/-! ## The data link -/

/-- A link frame (R101). -/
inductive LinkFrame where
  | data (seq ack : Nat) (payload : List Byte)
  | ack (n : Nat)
  | resend (s : Nat)
  | pause
  | resume
  | rate (step : Nat)
  | rateOk (step : Nat)
  | fin
  | finOk
  deriving DecidableEq, Repr

/-- The Link Engine's phase (R96). -/
inductive LinkPhase where
  | off | answerTone | exchange | training | linked | draining | closing
  deriving DecidableEq, Repr

inductive LinkRole where
  | originate | answer
  deriving DecidableEq, Repr

/-- One entry of the send queue (R103, R105); `lastTx` is its most recent transmission. -/
structure SendEntry where
  seq     : Nat
  payload : List Byte
  retries : Nat := 0
  retx    : Bool := false
  lastTx  : Timer := none
  deriving DecidableEq, Repr

/-- The resend timer (R106). -/
inductive ResendTimer where
  | stopped
  | running (until_ : Ms)
  | frozen (left : Ms)
  deriving DecidableEq, Repr

inductive TryOutcome where
  | firstTry | retransmitted
  deriving DecidableEq, Repr

/-- The link record (R95) with the frames waiting for the transmitter (R102). The oldest byte time of R95 is the
arrival time of the TX area's oldest byte (R103) and is not stored twice: `State.oldestByteTime`. -/
structure Link where
  phase    : LinkPhase := .off
  role     : Option LinkRole := none
  own      : Option Capability := none
  peer     : Option Capability := none
  window   : Option Nat := none
  exchangeTimer : Timer := none
  n        : Nat := 0
  sendQueue : List SendEntry := []
  resendTimer : ResendTimer := .stopped
  peerPaused : Bool := false
  pauseTimer : Timer := none
  e        : Nat := 0
  hold     : List (Nat × List Byte) := []
  requested : List Nat := []
  ackDue   : Bool := false
  ackSpacing : Timer := none
  localPaused : Bool := false
  history  : List TryOutcome := []
  drainTimer : Timer := none
  endOkWait : Timer := none
  carrierSeen : Bool := false
  carrierLoss : Timer := none
  /-- end of the 3000 ms of DATA_ANSWER (R97) -/
  toneEnd  : Timer := none
  /-- CAPS messages sent, and when the next is due (R97) -/
  capsSent : Nat := 0
  capsRepeat : Timer := none
  /-- the frame in transmission, and the frames waiting in the classes of R102; a DATA frame waits as its seq and
  payload, so that it can be sent after its entry has left the send queue (R105) -/
  txNow    : Option LinkFrame := none
  rateWait : List LinkFrame := []
  endWait  : List LinkFrame := []
  pauseWait : List LinkFrame := []
  ackWait  : Bool := false
  requestWait : List Nat := []
  resendWait : List (Nat × List Byte) := []
  newWait  : List (Nat × List Byte) := []
  /-- END_OK is being sent; its transmission releases the call with this reason (R114) -/
  farEnd   : Option EndReason := none
  /-- END of a quality drop is being sent; its transmission releases the call (R84) -/
  dropEnd  : Bool := false
  /-- a drain wait ended in RETRAINING: END goes when STEADY returns (R113) -/
  endOnSteady : Bool := false
  deriving DecidableEq, Repr

/-! ## The fax -/

inductive FaxPhase where
  | off | establish | negotiate | train | page | afterPage | close
  deriving DecidableEq, Repr

/-- A page mark (R60). -/
inductive PageMark where
  | more | last
  deriving DecidableEq, Repr

/-- A control message of the low-speed exchange (R119). -/
inductive FaxMsg where
  | offer (rate : Nat) (resolutions : List Resolution) (blockCorrection : Bool)
  | choose (step : Nat) (res : Resolution) (blockCorrection : Bool)
  | trainOk
  | trainRetry
  | morePages
  | lastPage
  | verdict (v : Verdict) (stop : Bool) (q : Nat)
  | blockEnd (number count : Nat)
  | blockMap (number : Nat) (missing : List Nat)
  | fin
  deriving DecidableEq, Repr

/-- The terms of a fax call (R121). -/
structure FaxTerms where
  step : Nat
  res  : Resolution
  blockCorrection : Bool
  deriving DecidableEq, Repr

/-- The page tally (R126); `zeros` counts the 0x00 bytes that end what has been received of a line-end pattern, up to
2. -/
structure PageTally where
  lines : Nat := 0
  bad   : Nat := 0
  run   : Nat := 0
  longest : Nat := 0
  lineBad : Bool := false
  truncated : Bool := false
  zeros : Nat := 0
  deriving DecidableEq, Repr

/-- What follows a training of a sender (R122, R128, R131). -/
inductive AfterTrain where
  | page
  | resend (missing : List Nat) (round : Nat)
  deriving DecidableEq, Repr

/-- The control message awaiting a response (R119): the message, its sends and its wait. -/
structure Awaited where
  msg   : FaxMsg
  sends : Nat
  until_ : Ms
  deriving DecidableEq, Repr

/-- Block correction's state (R117, R129 to R131). A sender's `bytes` are the block in hand; a receiver's `got` holds
the frames received, by seq. -/
structure BlockState where
  number : Nat := 0
  count  : Nat := 0
  bytes  : List Byte := []
  got    : List (Nat × List Byte) := []
  /-- a receiver has a block in hand that it has not delivered -/
  inHand : Bool := false
  round  : Nat := 1
  fallbacks : Nat := 0
  /-- the seqs a sender sends in the round in hand: all of them, or those the last map listed (R131) -/
  sending : List Nat := []
  deriving DecidableEq, Repr

/-- The fax record of one end of a fax call (R117). -/
structure Fax where
  phase    : FaxPhase := .off
  role     : Option FaxRole := none
  source   : Option FaxSource := none
  terms    : Option FaxTerms := none
  step     : Option Nat := none
  tries    : Nat := 0
  trained  : Bool := false
  pageNo   : Nat := 0
  pages    : Nat := 0
  tally    : PageTally := {}
  docPos   : Nat := 0
  docResends : Nat := 0
  block    : BlockState := {}
  awaited  : Option Awaited := none
  recvWait : Timer := none
  fill     : Timer := none
  stop     : Bool := false
  entry    : Option Nat := none
  heldMark : Option PageMark := none
  /-- end of the opening tone (R120) -/
  toneEnd  : Timer := none
  /-- the 3000 ms in which a training must lock after a CHOOSE (R122) -/
  lockWait : Timer := none
  /-- a check is being received, and the score of its last valid record (R122) -/
  checking : Bool := false
  checkQt  : Option Nat := none
  afterTrain : AfterTrain := .page
  /-- the page in hand has begun and has not been closed -/
  begun    : Bool := false
  /-- a sender has reached the end of its page, with the mark that ended it -/
  ended    : Option PageMark := none
  /-- a receiver's verdict on the last page, for a repeated close (R119) -/
  given    : Option (Verdict × Bool × Nat) := none
  /-- the verdict of LAST_PAGE, or one with the stop flag, has been given (R136) -/
  final    : Bool := false
  /-- opening the entry was refused (R133), or the page begins with a full page list (R134) -/
  refused  : Bool := false
  discard  : Bool := false
  /-- where the page in hand starts in the entry (R133) -/
  pageStart : Nat := 0
  /-- the reason the call is released with when END has been transmitted (R136) -/
  closing  : Option EndReason := none
  /-- the last control message put on the low-speed exchange -/
  sent     : Option FaxMsg := none
  deriving DecidableEq, Repr

/-! ## Voice -/

inductive VoiceMode where
  | off | auto | host
  deriving DecidableEq, Repr

inductive VoiceActivity where
  | none | greeting | recordTone | recording | playing
  deriving DecidableEq, Repr

inductive VoiceTarget where
  | store | host
  deriving DecidableEq, Repr

/-- What a message is (R145). -/
inductive MsgKind where
  | voice | greeting | fax
  deriving DecidableEq, Repr

/-- Why a recording ended, in the order of the table of R162. -/
inductive RecEnd where
  | silence | tone | digit | maxLength | storeLow | remote | locally | discarded
  deriving DecidableEq, Repr

/-- Why a playback ended (R168). -/
inductive PlayEnd where
  | done | digit | locally | remote
  deriving DecidableEq, Repr

/-- What follows the completion of a recording (R165, R164, R170). -/
inductive AfterRec where
  | handOver | switchFax | stopped | stayHost
  deriving DecidableEq, Repr

/-- The recording in hand (R156, R160). -/
structure Recording where
  target  : VoiceTarget
  kind    : MsgKind
  mailbox : Nat
  entry   : Option Nat
  bits    : Nat
  coded   : Nat := 0
  limit   : Nat
  silentStart : Option Nat := none
  watchOpen : Bool
  watchEnd : Timer := none
  /-- consecutive silent frames counted (R160) -/
  silentFrames : Nat := 0
  /-- coded count at the start of the frame in progress, once a frame has begun inside the recording -/
  frameCount : Option Nat := none
  /-- read when the recording began (R160) -/
  silenceEndS : Nat
  minMs   : Nat
  /-- the end of the recording, its new length, and what follows its completion (R162, R163) -/
  ended   : Option (RecEnd × Nat × AfterRec) := none
  deriving DecidableEq, Repr

/-- The playback in hand (R156, R168). -/
structure Playback where
  target  : VoiceTarget
  ids     : List Nat
  pos     : Nat := 0
  cur     : Option Nat := none
  skipped : List Nat := []
  bits    : Nat
  last    : Option Nat := none
  deriving DecidableEq, Repr

/-- The voice record (R156). -/
structure Voice where
  mode     : VoiceMode := .off
  activity : VoiceActivity := .none
  barge    : Bool := false
  recording : Option Recording := none
  playback : Option Playback := none
  /-- the greeting played, for PLAY_DONE (R159) -/
  greeting : Option Nat := none
  toneEnd  : Timer := none
  /-- the bytes last taken for decoding, with the coding bits they are decoded with; none when silence is sent (R157,
  R169) -/
  decoding : Option (Nat × List Byte) := none
  deriving DecidableEq, Repr

/-! ## Buffer areas -/

inductive Purpose where
  | tx | rx | stage
  deriving DecidableEq, Repr

inductive ContentKind where
  | none | data | page | voice
  deriving DecidableEq, Repr

inductive FlowState where
  | go | stop
  deriving DecidableEq, Repr

/-- One area record (R60). `fifo` holds each byte with its arrival time, oldest first; a mark's number is how many
bytes of the FIFO stand before it. The occupancy is the length of `fifo`. -/
structure Area where
  isDefined : Bool := false
  start   : Nat := 0
  units   : Nat := 0
  high    : Nat := 0
  low     : Nat := 0
  join    : Option (LineId × Purpose) := none
  content : ContentKind := .none
  fifo    : List (Byte × Ms) := []
  marks   : List (Nat × PageMark) := []
  flow    : FlowState := .go
  inUse   : Option LineId := none
  deriving DecidableEq, Repr

/-- An area id, 0 to 11 (R60). -/
abbrev AreaId := Fin 12

/-! ## The message store -/

inductive MsgState where
  | opened | new | kept
  deriving DecidableEq, Repr

/-- Why a transfer ended (R153, R154). -/
inductive TransferEnd where
  | done | storeLow | stopped
  deriving DecidableEq, Repr

/-- Why writing an entry ended (R146). -/
inductive EntryEnd where
  | recording (r : RecEnd)
  | call (r : EndReason)
  | transfer (r : TransferEnd)
  | reset
  deriving DecidableEq, Repr

/-- One page record of a FAX entry (R133). -/
structure PageRecord where
  start  : Nat
  length : Nat
  verdict : Verdict
  truncated : Bool
  deriving DecidableEq, Repr

/-- One directory entry (R145). The chain is the ordered list of its message blocks; head block and block count are
its head and its length. An origin of none is TRANSFER. -/
structure Entry where
  id      : Nat
  kind    : MsgKind
  state   : MsgState := .opened
  mailbox : Nat
  origin  : Option LineId
  stamp   : Stamp
  cid     : Option CidRecord
  bits    : Option Nat
  length  : Nat := 0
  chain   : List Nat := []
  endReason : Option EntryEnd := none
  pages   : List PageRecord := []
  playing : List LineId := []
  faxing  : List LineId := []
  uploading : Bool := false
  deriving DecidableEq, Repr

inductive RequestKind where
  | guarded | unguarded | reserve
  deriving DecidableEq, Repr

/-- One block request waiting (R144); a line of none is the download. -/
structure BlockRequest where
  entry : Nat
  kind  : RequestKind
  line  : Option LineId
  deriving DecidableEq, Repr

/-- The channel 5 transfer (R139, R152 to R154). -/
inductive Transfer where
  | none
  | upload (id pos : Nat)
  | download (id : Nat)
  | ending (id : Nat)
  deriving DecidableEq, Repr

/-- What the Store Controller does with a line's STAGE area (R148). -/
inductive StageOp where
  | idle
  | writing (entry : Nat) (waiting : Bool) (discarding : Bool)
  | reading (entry pos stop : Nat)
  deriving DecidableEq, Repr

/-- The store record (R139); `size` is in MiB and absent while UNFORMATTED. -/
structure Store where
  formatted : Bool := false
  size     : Option Nat := none
  guard    : Nat := 16
  free     : List Nat := []
  dir      : List Entry := []
  nextId   : Nat := 1
  transfer : Transfer := .none
  requests : List BlockRequest := []
  deriving DecidableEq, Repr

/-! ## Notices -/

/-- The kinds of notice, in the order of the table of R178. -/
inductive NoticeKind where
  | linkFrameBad | hostDataDropped | lineOverrun | ready | ring | callerId | routed | classified | connected
  | callEnded | rateChanged | pageDone | recordDone | playDone | digits | transferDone | flow | signals
  deriving DecidableEq, Repr

/-- The three kinds of reset READY names (R182). -/
inductive ResetKind where
  | powerOn | directive | lineBreak
  deriving DecidableEq, Repr

/-- The terms a CONNECTED carries (R100, R122, R34). -/
inductive Terms where
  | data (step rate window : Nat)
  | fax (role : FaxRole) (step rate : Nat) (res : Resolution) (blockCorrection : Bool)
  | voice
  deriving DecidableEq, Repr

/-- One entry of a notice queue: its kind and content (R178). -/
inductive Notice where
  | linkFrameBad (count : Nat)
  | hostDataDropped (count : Nat)
  | lineOverrun (count : Nat)
  | ready (formatted : Bool) (kind : ResetKind)
  | ring (count : Nat) (cls : CadenceClass)
  | callerId (r : CidRecord)
  | routed (position : Option Nat) (action : Action) (mask : JobSet) (mailbox : Nat)
  | classified (result : Job) (basis : Basis)
  | connected (t : Terms)
  | callEnded (r : CallRecord)
  | rateChanged (old new : Nat) (cause : RateCause) (q : Nat)
  | pageDone (number : Nat) (v : Verdict) (lines : Nat) (bad longest : Option Nat)
  | recordDone (id : Option Nat) (length : Nat) (reason : RecEnd)
  | playDone (id : Option Nat) (reason : PlayEnd) (skipped : List Nat)
  | digits (ds : List Digit) (overflow : Bool)
  | transferDone (id : Option Nat) (reason : TransferEnd)
  | flow (areas : List (AreaId × FlowState))
  | signals (r : Signals)
  deriving DecidableEq, Repr

/-- A notice queue: entries oldest first, and the lost flag (R178). -/
structure NoticeQueue where
  entries : List Notice := []
  lost    : Bool := false
  deriving DecidableEq, Repr

/-! ## One line -/

/-- All that exists once for each line. -/
structure Line where
  -- the line context (R1)
  state     : LineState := .offline
  job       : Job := .none
  direction : Direction := .none
  faxSource : Option FaxSource := none
  profile   : Profile := {}
  call      : Option CallRecord := none
  dialList  : List DialElement := []
  dialPos   : Nat := 0
  substRing : Bool := false
  substLoop : Bool := true
  loopCount : Nat := 0
  loopClass : Option CadenceClass := none
  /-- the call-start copies (R6) -/
  copies    : CallCopies := {}
  -- the Line Interface (R7 to R9, R20)
  realRing  : Bool := false
  realLoop  : Bool := false
  relay     : Bool := false
  ring      : RingMeter := {}
  loopTimer : Timer := none
  signals   : Signals := {}
  -- the Line Controller's timings and watches
  guard     : Timer := none
  dialWait  : Timer := none
  dialStep  : DialStep := .idle
  answerWait : Timer := none
  ringbackSeen : Bool := false
  /-- the ringback-stop watch with the frames of its silent run (R34) -/
  watch     : Option Nat := none
  classifyTimer : Timer := none
  dropTimer : Timer := none
  -- the Call Router's overrides for the call (R54, R55)
  override  : HostOverride := .none
  answerWaiting : Bool := false
  -- the engines
  tone      : ToneEngine := {}
  carrier   : Bool := false
  quality   : Quality := {}
  link      : Link := {}
  fax       : Fax := {}
  /-- the receiving half of a fax job in LOOPBACK (R138) -/
  faxEcho   : Fax := {}
  voice     : Voice := {}
  stage     : StageOp := .idle
  /-- the line's notice queue (R178) -/
  queue     : NoticeQueue := {}
  deriving DecidableEq, Repr

/-! ## The host link -/

/-- Reply statuses (R171). -/
inductive Status where
  | ok | started | clamped | refusedState | refusedBusy | refusedArg | refusedTable | refusedFull | refusedArea
  | refusedStore | refusedNotFound | refusedUnknown
  deriving DecidableEq, Repr

/-- One reply of the reply list (R171, R176). -/
structure Reply where
  code    : Byte
  tag     : Byte
  status  : Status
  results : List Byte
  deriving DecidableEq, Repr

/-- A directive with its code, in hand or in the input list (R175). -/
structure Handed where
  code : Byte
  dir  : Directive
  deriving DecidableEq, Repr

/-- The Directive Decoder (R175); `resetting` from the PART_RESET reply being made to its transmission (R182). -/
structure Decoder where
  hand  : Option Handed := none
  input : List Handed := []
  resetting : Bool := false
  deriving DecidableEq, Repr

/-- The receive parser (R173). -/
inductive ParserState where
  | hunt
  | header
  | length (channel kind : Nat)
  | payload (channel kind left : Nat) (got : List Byte)
  deriving DecidableEq, Repr

/-- What a frame in transmission came from (R177). -/
inductive OutSource where
  | reply (isReset : Bool)
  | partNotice
  | lineNotice (i : LineId)
  | rx (i : LineId)
  | upload
  | uploadEnd
  deriving DecidableEq, Repr

/-- The frame in transmission on the outgoing line (R171, R177). -/
structure OutFrame where
  channel : Nat
  kind    : Nat
  payload : List Byte
  source  : OutSource
  deriving DecidableEq, Repr

/-- A data source of the arbiter: an RX area of a line, or channel 5 (R177). -/
inductive DataSource where
  | rx (i : LineId)
  | channel5
  deriving DecidableEq, Repr

/-! ## The whole part -/

/-- Everything the part keeps, and the queue of commands waiting. -/
structure State where
  /-- the MODEL's own: milliseconds since reset (notes/assumptions/3.md) -/
  now       : Ms := 0
  lines     : Vector Line 4 := Vector.replicate 4 {}
  toneTable : List ToneEntry := []
  /-- the ring pattern table: for each pattern its bursts' least and greatest durations (R11) -/
  patterns  : List (List (Ms × Ms)) := []
  routes    : List RouteEntry := []
  clock     : Clock := ⟨0, 0, false, 0⟩
  areas     : Vector Area 12 := Vector.replicate 12 {}
  dataLadder : List LadderStep := []
  faxLadder : List LadderStep := []
  store     : Store := {}
  /-- the DRAM: bytes by DRAM address, in the canonical form of `Dram.wf` -/
  dram      : List Host.Cell := []
  parser    : ParserState := .hunt
  gapTimer  : Timer := none
  /-- the incoming line is held at space after a break that has reset the part (R174) -/
  inBreak   : Bool := false
  decoder   : Decoder := {}
  replies   : List Reply := []
  outFrame  : Option OutFrame := none
  lastLine  : LineId := 3
  lastSource : DataSource := .channel5
  partQueue : NoticeQueue := {}
  /-- the MODEL's own: the commands waiting, oldest first -/
  pending   : List Instr := []
  deriving DecidableEq, Repr

/-- The part has no fault: every rule of spec/ that names a wrong input gives it a reply, a notice or a discard. The
type is empty, so that no command can answer with one (safe). -/
inductive Fault : Type
  deriving DecidableEq, Repr

/-- A command that has no meaning here. `notModelled` is raised only by an arm of `exec` that names its command and
gives it no meaning; no arm does. Safe: the machine stops. -/
inductive Refusal where
  | notModelled (mnemonic : String)
  deriving DecidableEq, Repr

/-- The part right after power-on: every block at its reset value, and READY waiting in the part queue (R182). -/
def State.reset : State :=
  { partQueue := { entries := [.ready false .powerOn] } }

end Sys2Proof.Machine
end

