-- ==== Sys2Proof/Machine/Ops.lean ====
section
/-! DEFINITION. Access to lines and areas, timers, places of named values, and the notice queues (R177 to R180). -/

namespace Sys2Proof.Machine

/-- What a command answers. -/
abbrev Result := Host.Outcome State Fault Refusal

/-! ## Lines, areas and timers -/

/-- The line numbered `i`. -/
def State.line (s : State) (i : LineId) : Line := s.lines[i]

def State.setLine (s : State) (i : LineId) (l : Line) : State := { s with lines := s.lines.set i l }

def State.modLine (s : State) (i : LineId) (f : Line → Line) : State := s.setLine i (f (s.line i))

/-- The area record numbered `k` (R60). -/
def State.area (s : State) (k : AreaId) : Area := s.areas[k]

def State.setArea (s : State) (k : AreaId) (a : Area) : State := { s with areas := s.areas.set k a }

def State.modArea (s : State) (k : AreaId) (f : Area → Area) : State := s.setArea k (f (s.area k))

/-- All four lines, in order. -/
def allLines : List LineId := [0, 1, 2, 3]

/-- All twelve areas, in order. -/
def allAreas : List AreaId := List.finRange 12

/-- A timer is due: it runs, and its moment has come (notes/assumptions/3.md). -/
def due (now : Ms) (t : Timer) : Bool :=
  match t with
  | some d => decide (d ≤ now)
  | none   => false

/-- A timer of length `len` started now. -/
def State.start (s : State) (len : Ms) : Timer := some (s.now + len)

/-- A timestamp taken from the clock (R58). -/
def State.stamp (s : State) : Stamp := if s.clock.isSet then some (s.clock.day, s.clock.minute) else none

/-- The call record of a line changed, if there is one. -/
def Line.modCall (l : Line) (f : CallRecord → CallRecord) : Line := { l with call := l.call.map f }

/-! ## Places of named values -/

def LineState.place : LineState → Nat
  | .offline => 0 | .idle => 1 | .alerting => 2 | .seizing => 3 | .dialling => 4 | .progress => 5 | .classify => 6
  | .data => 7 | .fax => 8 | .voice => 9 | .release => 10 | .loopback => 11

def Job.place : Job → Nat
  | .none => 0 | .data => 1 | .fax => 2 | .voice => 3

def JobSet.has (m : JobSet) : Job → Bool
  | .none => false | .data => m.data | .fax => m.fax | .voice => m.voice

/-- The default of a mask at the end of listening: the first of VOICE, FAX and DATA in it (R42). -/
def JobSet.default (m : JobSet) : Job :=
  if m.voice then .voice else if m.fax then .fax else if m.data then .data else .none

def JobSet.isEmpty (m : JobSet) : Bool := !(m.data || m.fax || m.voice)

def digitPlace : Digit → Nat
  | .d0 => 0 | .d1 => 1 | .d2 => 2 | .d3 => 3 | .d4 => 4 | .d5 => 5 | .d6 => 6 | .d7 => 7 | .d8 => 8 | .d9 => 9
  | .star => 10 | .hash => 11 | .la => 12 | .lb => 13 | .lc => 14 | .ld => 15

def digitOfPlace? : Nat → Option Digit
  | 0 => some .d0 | 1 => some .d1 | 2 => some .d2 | 3 => some .d3 | 4 => some .d4 | 5 => some .d5 | 6 => some .d6
  | 7 => some .d7 | 8 => some .d8 | 9 => some .d9 | 10 => some .star | 11 => some .hash | 12 => some .la
  | 13 => some .lb | 14 => some .lc | 15 => some .ld | _ => none

/-- The low-group and the high-group frequency of a digit in Hz (R29). -/
def digitPair : Digit → Nat × Nat
  | .d1 => (697, 1209) | .d2 => (697, 1336) | .d3 => (697, 1477) | .la => (697, 1633)
  | .d4 => (770, 1209) | .d5 => (770, 1336) | .d6 => (770, 1477) | .lb => (770, 1633)
  | .d7 => (852, 1209) | .d8 => (852, 1336) | .d9 => (852, 1477) | .lc => (852, 1633)
  | .star => (941, 1209) | .d0 => (941, 1336) | .hash => (941, 1477) | .ld => (941, 1633)

/-- The pulse breaks of a digit; none for a digit that only tones can send (R16). -/
def digitBreaks? (d : Digit) : Option Nat :=
  if digitPlace d = 0 then some 10 else if digitPlace d ≤ 9 then some (digitPlace d) else none

/-! ## Kinds of notice (R178) -/

def NoticeKind.place : NoticeKind → Nat
  | .linkFrameBad => 0 | .hostDataDropped => 1 | .lineOverrun => 2 | .ready => 3 | .ring => 4 | .callerId => 5
  | .routed => 6 | .classified => 7 | .connected => 8 | .callEnded => 9 | .rateChanged => 10 | .pageDone => 11
  | .recordDone => 12 | .playDone => 13 | .digits => 14 | .transferDone => 15 | .flow => 16 | .signals => 17

def NoticeKind.code : NoticeKind → Nat
  | .linkFrameBad => 0x80 | .hostDataDropped => 0x81 | .lineOverrun => 0x82 | .ready => 0x83 | .ring => 0x90
  | .callerId => 0x91 | .routed => 0x92 | .classified => 0x93 | .connected => 0x94 | .callEnded => 0x95
  | .rateChanged => 0xA0 | .pageDone => 0xA1 | .recordDone => 0xA2 | .playDone => 0xA3 | .digits => 0xA4
  | .transferDone => 0xA5 | .flow => 0xB0 | .signals => 0xC0

/-- Priority 1 is the highest. -/
def NoticeKind.priority : NoticeKind → Nat
  | .linkFrameBad | .hostDataDropped | .lineOverrun | .ready => 1
  | .ring | .callerId | .routed | .classified | .connected | .callEnded => 2
  | .rateChanged | .pageDone | .recordDone | .playDone | .digits | .transferDone => 3
  | .flow => 4
  | .signals => 5

def NoticeKind.coalesces : NoticeKind → Bool
  | .linkFrameBad | .hostDataDropped | .lineOverrun | .ring | .digits | .flow | .signals => true
  | _ => false

def Notice.kind : Notice → NoticeKind
  | .linkFrameBad _ => .linkFrameBad | .hostDataDropped _ => .hostDataDropped | .lineOverrun _ => .lineOverrun
  | .ready _ _ => .ready | .ring _ _ => .ring | .callerId _ => .callerId | .routed _ _ _ _ => .routed
  | .classified _ _ => .classified | .connected _ => .connected | .callEnded _ => .callEnded
  | .rateChanged _ _ _ _ => .rateChanged | .pageDone _ _ _ _ _ => .pageDone | .recordDone _ _ _ => .recordDone
  | .playDone _ _ _ => .playDone | .digits _ _ => .digits | .transferDone _ _ => .transferDone
  | .flow _ => .flow | .signals _ => .signals

def Notice.priority (n : Notice) : Nat := n.kind.priority

/-! ## The notice queues -/

/-- A FLOW list with one area's state replaced, or added at the end (R67). -/
def setFlowEntry (k : AreaId) (f : FlowState) : List (AreaId × FlowState) → List (AreaId × FlowState)
  | [] => [(k, f)]
  | (k', f') :: t => if k' = k then (k, f) :: t else (k', f') :: setFlowEntry k f t

/-- The update of a waiting entry by a notice of its own coalescing kind (R179); none where the two do not coalesce. -/
def Notice.merge : Notice → Notice → Option Notice
  | .linkFrameBad a, .linkFrameBad b => some (.linkFrameBad (min 255 (a + b)))
  | .hostDataDropped a, .hostDataDropped b => some (.hostDataDropped (min 65535 (a + b)))
  | .lineOverrun a, .lineOverrun b => some (.lineOverrun (min 65535 (a + b)))
  | .ring _ _, .ring c k => some (.ring c k)
  | .digits ds o, .digits ds' o' =>
    some (.digits ((ds ++ ds').take 16) (o || o' || decide (16 < (ds ++ ds').length)))
  | .flow l, .flow l' => some (.flow (l'.foldl (fun acc p => setFlowEntry p.1 p.2 acc) l))
  | .signals a, .signals b =>
    some (.signals { b with
      fRing := a.fRing || b.fRing, fLoop := a.fLoop || b.fLoop, fCarrier := a.fCarrier || b.fCarrier,
      fHook := a.fHook || b.fHook, trailing := a.trailing || b.trailing })
  | _, _ => none

/-- The queue with its waiting entry of the notice's kind updated in place; none where none waits (R179). -/
def mergeInto (n : Notice) : List Notice → Option (List Notice)
  | [] => none
  | m :: t =>
    match m.merge n with
    | some m' => some (m' :: t)
    | none    => (mergeInto n t).map (m :: ·)

/-- The lowest priority present: the greatest priority number (R180). -/
def lowestPriority (es : List Notice) : Nat := es.foldl (fun p n => max p n.priority) 0

/-- A new entry joins its queue, evicts the oldest entry of the lowest priority, or is dropped (R180). -/
def NoticeQueue.enter (q : NoticeQueue) (n : Notice) : NoticeQueue :=
  if q.entries.length < Config.noticeQueueMax then { q with entries := q.entries ++ [n] }
  else if n.priority ≤ lowestPriority q.entries then
    { entries := q.entries.eraseP (fun m => m.priority = lowestPriority q.entries) ++ [n], lost := true }
  else { q with lost := true }

/-- An offered notice: coalesced where an entry of its kind waits, and entered otherwise (R178 to R180). -/
def NoticeQueue.offer (q : NoticeQueue) (n : Notice) : NoticeQueue :=
  match mergeInto n q.entries with
  | some es => { q with entries := es }
  | none    => q.enter n

/-- A line's notice_mask holds the kind (R178). -/
def Profile.wants (p : Profile) (k : NoticeKind) : Bool := p.noticeMask.getLsbD k.place

/-- A line without its queue: what every notice leaves alone. -/
def Line.notify (l : Line) (n : Notice) : Line :=
  if l.profile.wants n.kind then { l with queue := l.queue.offer n } else l

/-- A notice for a line, offered to its queue if its kind is in the notice_mask (R178). -/
def State.notifyLine (s : State) (i : LineId) (n : Notice) : State := s.modLine i (fun l => l.notify n)

/-- A notice for the part as a whole (R178). -/
def State.notifyPart (s : State) (n : Notice) : State := { s with partQueue := s.partQueue.offer n }

/-- The greatest urgency present: the least priority number. -/
def highestPriority (es : List Notice) : Nat := es.foldl (fun p n => min p n.priority) 99

/-- The entry the arbiter takes from a queue, and the queue it leaves: the oldest of the highest priority present.
The lost flag goes with it and is cleared (R177, R180). -/
def NoticeQueue.take? (q : NoticeQueue) : Option (Notice × Bool × NoticeQueue) :=
  match q.entries.find? (fun m => m.priority = highestPriority q.entries) with
  | none => none
  | some n => some (n, q.lost,
      { entries := q.entries.eraseP (fun m => m.priority = highestPriority q.entries), lost := false })

/-! ## Counts the host is told of -/

/-- Host bytes dropped on a line (R68). -/
def State.dropHost (s : State) (i : LineId) (n : Nat) : State :=
  if n = 0 then s else s.notifyLine i (.hostDataDropped (min 65535 n))

/-- Line-side bytes lost on a line (R69). -/
def State.overrun (s : State) (i : LineId) (n : Nat) : State :=
  if n = 0 then s else s.notifyLine i (.lineOverrun (min 65535 n))

end Sys2Proof.Machine
end

