-- ==== Sys2Proof/Machine/Flags.lean ====
section
/-! DEFINITION. The flags: the signal record's change flags (R20) and the flow state of an area (R67). -/

namespace Sys2Proof.Machine

/-- The record after its four values become the ones given: a change flag is set for each that differs, and the
trailing-edge flag when `trail` (R20). -/
def Signals.update (r : Signals) (ring loop carrier hook trail : Bool) : Signals :=
  { ring, loop, carrier, hook
    fRing    := r.fRing || (r.ring != ring)
    fLoop    := r.fLoop || (r.loop != loop)
    fCarrier := r.fCarrier || (r.carrier != carrier)
    fHook    := r.fHook || (r.hook != hook)
    trailing := r.trailing || trail }

/-- The record with its flags cleared and its values kept (R4, R181). -/
def Signals.clear (r : Signals) : Signals :=
  { ring := r.ring, loop := r.loop, carrier := r.carrier, hook := r.hook }

/-- The four values are already the ones given. -/
def Signals.same (r : Signals) (ring loop carrier hook : Bool) : Bool :=
  r.ring == ring && r.loop == loop && r.carrier == carrier && r.hook == hook

/-- The signal record takes the values given; at a change, or a trailing edge, the SIGNALS notice is updated or
queued with the record's values and flags (R20). -/
def State.setSignals (s : State) (i : LineId) (ring loop carrier hook trail : Bool) : State :=
  let r := (s.line i).signals
  if r.same ring loop carrier hook && !trail then s
  else
    let r' := r.update ring loop carrier hook trail
    (s.modLine i (fun l => { l with signals := r' })).notifyLine i (.signals r')

def State.signalRing (s : State) (i : LineId) (v trail : Bool) : State :=
  let r := (s.line i).signals
  s.setSignals i v r.loop r.carrier r.hook trail

def State.signalLoop (s : State) (i : LineId) (v : Bool) : State :=
  let r := (s.line i).signals
  s.setSignals i r.ring v r.carrier r.hook false

def State.signalCarrier (s : State) (i : LineId) (v : Bool) : State :=
  let r := (s.line i).signals
  s.setSignals i r.ring r.loop v r.hook false

/-- Bytes an area holds (R60). -/
def Area.occupancy (a : Area) : Nat := a.fifo.length

/-- The size of an area in bytes (R60). -/
def Area.size (a : Area) : Nat := a.units * Config.unitBytes

/-- Bytes an area has room for. -/
def Area.room (a : Area) : Nat := a.size - a.occupancy

/-- The flow state after an append (R67). -/
def Area.flowAfterAppend (a : Area) : FlowState :=
  if a.flow = .go ∧ a.high ≤ a.occupancy then .stop else a.flow

/-- The flow state after a removal or an emptying (R67). -/
def Area.flowAfterRemove (a : Area) : FlowState :=
  if a.flow = .stop ∧ a.occupancy ≤ a.low then .go else a.flow

/-- The flow state becomes the one given; a change is reported to the line the area is joined to (R67). -/
def State.setFlow (s : State) (k : AreaId) (f : FlowState) : State :=
  if (s.area k).flow = f then s
  else
    let s1 := s.modArea k (fun a => { a with flow := f })
    match (s.area k).join with
    | some (i, _) => s1.notifyLine i (.flow [(k, f)])
    | none        => s1

end Sys2Proof.Machine
end

