-- ==== Sys2Proof/Machine/Areas.lean ====
section
/-! DEFINITION. The Buffer Unit: the FIFO of an area, its marks, and the areas of a job (R60 to R72). -/

namespace Sys2Proof.Machine

/-- Least sizes in units of the three purposes (R62). -/
def Purpose.minUnits : Purpose → Nat
  | .tx => 2 | .rx => 2 | .stage => 8

/-- The area joined to a line for a purpose (R62). -/
def State.joined (s : State) (i : LineId) (p : Purpose) : Option AreaId :=
  allAreas.find? (fun k => (s.area k).join = some (i, p))

/-- As many of the bytes as fit are appended, with their arrival times, and the flow mark is judged; the number is
how many were stored (R66, R67). -/
def State.append (s : State) (k : AreaId) (bs : List Byte) : State × Nat :=
  let t := bs.take (s.area k).room
  if t.isEmpty then (s, 0)
  else
    let s1 := s.modArea k (fun a => { a with fifo := a.fifo ++ t.map (fun b => (b, s.now)) })
    (s1.setFlow k (s1.area k).flowAfterAppend, t.length)

/-- How many bytes a removal of `n` takes: no more than are held, and none past the first page mark (R66). -/
def Area.removable (a : Area) (n : Nat) : Nat :=
  match a.marks with
  | (p, _) :: _ => min n (min p a.occupancy)
  | []          => min n a.occupancy

/-- The oldest bytes, at most `n` and not past a page mark, are removed, and the flow mark is judged (R66, R67). -/
def State.remove (s : State) (k : AreaId) (n : Nat) : List Byte × State :=
  let m := (s.area k).removable n
  if m = 0 then ([], s)
  else
    let s1 := s.modArea k (fun a => { a with
      fifo := a.fifo.drop m, marks := a.marks.map (fun q => (q.1 - m, q.2)) })
    (((s.area k).fifo.take m).map Prod.fst, s1.setFlow k (s1.area k).flowAfterRemove)

/-- The page mark at the head of the FIFO, if one stands there (R66). -/
def Area.headMark (a : Area) : Option PageMark :=
  match a.marks with
  | (0, v) :: _ => some v
  | _           => none

/-- The mark at the head leaves the list (R66). -/
def State.takeMark (s : State) (k : AreaId) : State := s.modArea k (fun a => { a with marks := a.marks.tail })

/-- A page mark is added at the tail, or refused where 8 are held (R66). -/
def State.addMark (s : State) (k : AreaId) (v : PageMark) : Option State :=
  if (s.area k).marks.length < Config.pageMarksMax then
    some (s.modArea k (fun a => { a with marks := a.marks ++ [(a.occupancy, v)] }))
  else none

/-- An area is emptied of its bytes and marks; a flow state of STOP becomes GO and is reported (R61, R63, R64, R67). -/
def State.emptyArea (s : State) (k : AreaId) : State :=
  (s.modArea k (fun a => { a with fifo := [], marks := [] })).setFlow k .go

/-- The STAGE area of a line is emptied (R69). -/
def State.emptyStage (s : State) (i : LineId) : State :=
  match s.joined i .stage with
  | some k => s.emptyArea k
  | none   => s

/-- A TX or RX area takes a content kind; bytes and marks of another kind are counted as lost and removed first, and a
flow state of STOP then returns to GO (R71). -/
def State.setContent (s : State) (i : LineId) (p : Purpose) (k : AreaId) (c : ContentKind) : State :=
  let a := s.area k
  if p = .stage then s
  else if a.content = c ∨ (a.fifo = [] ∧ a.marks = []) then s.modArea k (fun a => { a with content := c })
  else
    let s1 := if p = .tx then s.dropHost i a.occupancy else s.overrun i a.occupancy
    (s1.emptyArea k).modArea k (fun a => { a with content := c })

/-- The area joined for one purpose is marked in use and takes the job's content kind (R70, R71). -/
def State.useArea (c : ContentKind) (i : LineId) (s : State) (p : Purpose) : State :=
  match s.joined i p with
  | none   => s
  | some k => (s.modArea k (fun a => { a with inUse := some i })).setContent i p k c

/-- The areas joined for the purposes given are marked in use by the line (R70), and take their content kind in the order
of the list: R71 gives none. DESIGN CHOICE (notes/assumptions/11.md). -/
def State.useAreas (s : State) (i : LineId) (ps : List Purpose) (c : ContentKind) : State :=
  ps.foldl (State.useArea c i) s

/-- The in-use marks of the line's areas are cleared (R72). -/
def State.releaseAreas (s : State) (i : LineId) : State :=
  { s with areas := s.areas.map (fun a => if a.inUse = some i then { a with inUse := none } else a) }

/-- The content kind of a job's bytes (R71). -/
def Job.content : Job → ContentKind
  | .none => .none | .data => .data | .fax => .page | .voice => .voice

/-- A line reset empties every area joined to the line; its content kind becomes NONE (R72). -/
def State.resetArea (i : LineId) (s : State) (k : AreaId) : State :=
  match (s.area k).join with
  | some (j, _) =>
    if j = i then (s.emptyArea k).modArea k (fun a => { a with content := .none }) else s
  | none => s

def State.resetAreas (s : State) (i : LineId) : State := allAreas.foldl (State.resetArea i) s

/-- The Link Engine has entered LINKED and the call has not ended (R96). -/
def LinkPhase.isUp : LinkPhase → Bool
  | .linked | .draining | .closing => true
  | _ => false

/-- The oldest byte time of the link record: from LINKED to the end of the call the arrival time of the oldest byte of
the line's TX area, absent before and after (R95, R103). -/
def State.oldestByteTime (s : State) (i : LineId) : Timer :=
  if (s.line i).link.phase.isUp then (s.joined i .tx).bind (fun k => (s.area k).fifo.head?.map Prod.snd) else none

end Sys2Proof.Machine
end

