-- ==== Sys2Proof/Machine/Store.lean ====
section
/-! DEFINITION. The Store Controller: the DRAM, chains and the free chain, the directory, block requests, and the
movement of bytes between entries and STAGE areas (R139 to R148). -/

namespace Sys2Proof.Machine

/-! ## The DRAM -/

/-- The byte at a DRAM address. -/
def dramRead : List Host.Cell → Nat → Byte
  | [], _ => Config.dramBlank
  | (a, b) :: t, x => if a = x then b else dramRead t x

/-- A byte written at a DRAM address; the list keeps its canonical form. -/
def dramWrite : List Host.Cell → Nat → Byte → List Host.Cell
  | [], x, v => if v = Config.dramBlank then [] else [(x, v)]
  | (a, b) :: t, x, v =>
    if x < a then (if v = Config.dramBlank then (a, b) :: t else (x, v) :: (a, b) :: t)
    else if x = a then (if v = Config.dramBlank then t else (x, v) :: t)
    else (a, b) :: dramWrite t x v

/-- Addresses at or above `lo`, strictly rising, and no entry equal to what an unlisted address reads as. -/
def dramWfFrom : Nat → List Host.Cell → Bool
  | _, [] => true
  | lo, (a, b) :: t => decide (lo ≤ a) && decide (b ≠ Config.dramBlank) && dramWfFrom (a + 1) t

/-- The canonical form of the DRAM. -/
def dramWf (m : List Host.Cell) : Bool := dramWfFrom 0 m

/-! ## Geometry (R140) -/

/-- DRAM blocks of a store of `mib` MiB: T of R140. -/
def dramBlocks (mib : Nat) : Nat := mib * 1024

/-- DRAM blocks of the chain table. -/
def chainBlocks (mib : Nat) : Nat := dramBlocks mib * 2 / 1024

/-- Message blocks of a store of `mib` MiB: M of R140. -/
def messageBlocks (mib : Nat) : Nat := dramBlocks mib - chainBlocks mib - Config.directoryBlocks

/-- M of the store record: 0 while UNFORMATTED (R139). -/
def Store.m (st : Store) : Nat := (st.size.map messageBlocks).getD 0

/-- The free count of the store record: the blocks on the free chain (R139). -/
def Store.freeCount (st : Store) : Nat := st.free.length

/-- The DRAM address of the first byte of message block `n` (R140). -/
def Store.blockAddress (st : Store) (n : Nat) : Nat :=
  (chainBlocks (st.size.getD 0) + Config.directoryBlocks + n) * Config.blockBytes

/-- The DRAM address of byte offset `o` of an entry (R140). -/
def Store.byteAddress (st : Store) (e : Entry) (o : Nat) : Nat :=
  st.blockAddress (e.chain.getD (o / Config.blockBytes) 0) + o % Config.blockBytes

/-- Store blocks that `n` bytes need (R140). -/
def blocksFor (n : Nat) : Nat := (n + Config.blockBytes - 1) / Config.blockBytes

/-! ## Entries -/

def State.entry? (s : State) (id : Nat) : Option Entry := s.store.dir.find? (fun e => e.id == id)

def State.modEntry (s : State) (id : Nat) (f : Entry → Entry) : State :=
  { s with store.dir := s.store.dir.map (fun e => if e.id = id then f e else e) }

/-- Bytes the chain of an entry has room for beyond its length (R144). -/
def Entry.room (e : Entry) : Nat := e.chain.length * Config.blockBytes - e.length

/-- The next block of the chain that holds block `n`; none at the end of a chain: the chain table (R139, R143). -/
def nextIn (n : Nat) : List Nat → Option (Option Nat)
  | [] => none
  | a :: t => if a = n then some t.head? else nextIn n t

def Store.chainNext (st : Store) (n : Nat) : Option Nat :=
  (((st.free :: st.dir.map Entry.chain).filterMap (nextIn n)).head?).getD none

/-- Bytes written from offset `o` on, at the addresses `addr` gives. -/
def dramWriteAll (addr : Nat → Nat) : Nat → List Byte → List Host.Cell → List Host.Cell
  | _, [], m => m
  | o, b :: t, m => dramWriteAll addr (o + 1) t (dramWrite m (addr o) b)

/-- Bytes read from offset `o` on. -/
def dramReadAll (addr : Nat → Nat) (m : List Host.Cell) : Nat → Nat → List Byte
  | _, 0 => []
  | o, n + 1 => dramRead m (addr o) :: dramReadAll addr m (o + 1) n

/-- Bytes are appended at an entry's length, as far as its chain has room (R146, Write). -/
def State.storeBytes (s : State) (id : Nat) (bs : List Byte) : State :=
  match s.entry? id with
  | none => s
  | some e =>
    let t := bs.take e.room
    { s.modEntry id (fun e => { e with length := e.length + t.length }) with
      dram := dramWriteAll (s.store.byteAddress e) e.length t s.dram }

/-- `n` bytes of an entry from an offset. -/
def State.readEntry (s : State) (e : Entry) (o n : Nat) : List Byte :=
  dramReadAll (s.store.byteAddress e) s.dram o n

/-- Up to `n` blocks from the head of the free chain are linked at the tail of an entry's chain (R143). -/
def State.allocate (s : State) (id n : Nat) : State :=
  match s.entry? id with
  | none => s
  | some _ =>
    { s.modEntry id (fun e => { e with chain := e.chain ++ s.store.free.take n }) with
      store.free := s.store.free.drop n }

/-- The id after `n`: the value after 65535 is 1 (R145). -/
def idAfter (n : Nat) : Nat := if n = 65535 then 1 else n + 1

/-- The first id from `n` on that no entry uses, looking at `fuel` values (R145). -/
def freeId (ids : List Nat) : Nat → Nat → Nat
  | 0, n => n
  | fuel + 1, n => if ids.contains n then freeId ids fuel (idAfter n) else n

/-- Why opening an entry is refused (R146). -/
inductive OpenRefusal where
  | unformatted | full | busy
  deriving DecidableEq, Repr

/-- A line holds an OPEN entry. -/
def State.holdsOpen (s : State) (o : Option LineId) : Bool :=
  s.store.dir.any (fun e => decide (e.state = .opened) && decide (e.origin = o))

/-- Open: a new entry at the end of the directory, with the next free id (R145, R146). -/
def State.openEntry (s : State) (kind : MsgKind) (mailbox : Nat) (origin : Option LineId)
    (cid : Option CidRecord) (bits : Option Nat) : Except OpenRefusal (Nat × State) :=
  if s.store.formatted = false then .error .unformatted
  else if Config.directoryMax ≤ s.store.dir.length then .error .full
  else if s.holdsOpen origin then .error .busy
  else
    let id := freeId (s.store.dir.map Entry.id) 257 s.store.nextId
    let e : Entry := { id, kind, mailbox, origin, stamp := s.stamp, cid, bits }
    .ok (id, { s with store.dir := s.store.dir ++ [e], store.nextId := idAfter id })

/-! ## Use marks (R147) -/

def State.markPlaying (s : State) (id : Nat) (i : LineId) : State :=
  s.modEntry id (fun e => { e with playing := e.playing.filter (· != i) ++ [i] })

def State.markFaxing (s : State) (id : Nat) (i : LineId) : State :=
  s.modEntry id (fun e => { e with faxing := e.faxing.filter (· != i) ++ [i] })

/-- The line's playing marks are cleared. -/
def State.clearPlaying (s : State) (i : LineId) : State :=
  { s with store.dir := s.store.dir.map (fun e => { e with playing := e.playing.filter (· != i) }) }

/-- The line's fax-sending marks are cleared. -/
def State.clearFaxing (s : State) (i : LineId) : State :=
  { s with store.dir := s.store.dir.map (fun e => { e with faxing := e.faxing.filter (· != i) }) }

def Entry.marked (e : Entry) : Bool := !e.playing.isEmpty || !e.faxing.isEmpty || e.uploading

/-! ## Block requests (R144) -/

/-- A recording that has not ended ends with a reason and a new length (R162). -/
def Voice.endRecording (v : Voice) (why : RecEnd) (newLen : Nat) (next : AfterRec) : Voice :=
  { v with recording := v.recording.map (fun r =>
      if r.ended.isSome then r else { r with ended := some (why, newLen, next), watchEnd := none }) }

/-- What follows a recording that ends of itself: R165 for the automatic sequence, nothing under host control. -/
def Voice.afterRecording (v : Voice) : AfterRec := if v.mode = .auto then .handOver else .stayHost

/-- The coded count of the recording in hand, 0 with none. -/
def Voice.codedCount (v : Voice) : Nat := (v.recording.map Recording.coded).getD 0

/-- The receiving end of a line's fax: its record, or in LOOPBACK the receiving half (R117, R138). -/
def Line.receiver? (l : Line) : Option Fax :=
  if l.fax.role = some .receiver then some l.fax
  else if l.faxEcho.role = some .receiver then some l.faxEcho else none

def Line.modReceiver (l : Line) (f : Fax → Fax) : Line :=
  if l.fax.role = some .receiver then { l with fax := f l.fax }
  else if l.faxEcho.role = some .receiver then { l with faxEcho := f l.faxEcho } else l

/-- The page in hand of a receiving line is marked truncated (R133). -/
def Line.truncatePage (l : Line) : Line := l.modReceiver (fun f => { f with tally.truncated := true })

/-- A request has been answered: the Store Controller goes on with the area, or discards its bytes (R148). -/
def StageOp.answered (o : StageOp) (refused : Bool) : StageOp :=
  match o with
  | .writing id _ d => .writing id false (d || refused)
  | o => o

/-- A request of a line is refused: the area's bytes are discarded, and the writer is told STORE_LOW or NO_BLOCK
(R144, R148, R161, R133). -/
def State.refuseBlock (s : State) (i : LineId) (k : RequestKind) : State :=
  let s1 := (s.modLine i (fun l => { l with stage := l.stage.answered true })).emptyStage i
  match k with
  | .guarded => s1.modLine i (fun l => { l with
      voice := l.voice.endRecording .storeLow l.voice.codedCount l.voice.afterRecording })
  | _ => s1.modLine i Line.truncatePage

/-- The blocks a request gets, judged on the free count as it stands (R144); none where it is refused. -/
def Store.grant (st : Store) : RequestKind → Option Nat
  | .guarded   => if st.guard < st.freeCount then some 1 else none
  | .unguarded => if 0 < st.freeCount then some 1 else none
  | .reserve   => some (min 4 st.freeCount)

/-- The head of the request list is served (R144). -/
def State.serveRequest (s : State) : State :=
  match s.store.requests with
  | [] => s
  | r :: rest =>
    let s1 := { s with store.requests := rest }
    match s1.store.grant r.kind, r.line with
    | some n, some i =>
      (s1.allocate r.entry n).modLine i (fun l =>
        { l with stage := if r.kind = .reserve then l.stage else l.stage.answered false })
    | some n, none   => s1.allocate r.entry n
    | none, some i   => s1.refuseBlock i r.kind
    | none, none     => s1

/-- Every request waiting is served, in order. -/
def serveMany : Nat → State → State
  | 0, s => s
  | n + 1, s => serveMany n s.serveRequest

def State.serveAll (s : State) : State := serveMany s.store.requests.length s

def State.request (s : State) (r : BlockRequest) : State :=
  { s with store.requests := s.store.requests ++ [r] }

/-- The requests of a line are withdrawn (R155). -/
def State.withdraw (s : State) (i : LineId) : State :=
  { s with store.requests := s.store.requests.filter (fun r => r.line != some i) }

/-! ## Freeing (R143, R144, R146) -/

/-- The blocks of an entry's chain beyond the first `keep` are appended at the tail of the free chain (R143). -/
def State.unlinkTail (s : State) (id keep : Nat) : State :=
  match s.entry? id with
  | none => s
  | some e =>
    { s.modEntry id (fun e => { e with chain := e.chain.take keep }) with
      store.free := s.store.free ++ e.chain.drop keep }

/-- A freeing, taken in its arrival order: the block requests that wait were made before it and are served first
(R144). -/
def State.freeTail (s : State) (id keep : Nat) : State := s.serveAll.unlinkTail id keep

/-- Trim: the length becomes `n`, and every block beyond what it needs is freed (R146). -/
def State.trimEntry (s : State) (id n : Nat) : State :=
  (s.modEntry id (fun e => { e with length := n })).freeTail id (blocksFor n)

/-- Delete: the whole chain is freed and the entry leaves the directory (R146). -/
def State.deleteEntry (s : State) (id : Nat) : State :=
  let s1 := s.freeTail id 0
  { s1 with store.dir := s1.store.dir.filter (fun e => e.id != id) }

/-- Spare blocks are freed, and the entry becomes NEW with its end reason (R146). -/
def State.finishEntry (s : State) (id : Nat) (why : EntryEnd) : State :=
  match s.entry? id with
  | none => s
  | some e => (s.trimEntry id e.length).modEntry id (fun e => { e with state := .new, endReason := some why })

/-- Close: spare blocks are freed; an empty entry is deleted, any other becomes NEW with its end reason (R146). -/
def State.closeEntry (s : State) (id : Nat) (why : EntryEnd) : State :=
  match s.entry? id with
  | none => s
  | some e => if e.length = 0 then s.deleteEntry id else s.finishEntry id why

/-! ## Moving bytes (R148) -/

/-- The line receives a fax with block correction on. -/
def Line.blockReceiver (l : Line) : Bool :=
  match l.receiver? with
  | some f => (f.terms.map FaxTerms.blockCorrection).getD false
  | none   => false

/-- The Store Controller writes what the STAGE area holds to the OPEN entry, as far as the chain has room, and asks
for a block when bytes are left; with block correction what finds no room is discarded, and the rest of the page after
it (R133, R135, R144, R148). -/
def State.stageWrite (s : State) (i : LineId) : State :=
  match (s.line i).stage, s.joined i .stage with
  | .writing id waiting discarding, some k =>
    if waiting then s
    else if discarding then s.emptyArea k
    else
      match s.entry? id with
      | none => s
      | some e =>
        let r := s.remove k e.room
        let s1 := r.2.storeBytes id r.1
        if (s1.area k).occupancy = 0 then s1
        else if e.kind = .fax ∧ (s.line i).blockReceiver then
          (s1.emptyArea k).modLine i (fun l => { l.truncatePage with stage := .writing id false true })
        else
          (s1.request ⟨id, if e.kind = .fax then .unguarded else .guarded, some i⟩).modLine i
            (fun l => { l with stage := .writing id true false })
  | _, _ => s

/-- A line's STAGE area waits for the answer to a block request. -/
def StageOp.isWaiting : StageOp → Bool
  | .writing _ w _ => w
  | _ => false

/-- The STAGE area is written out whole: what the writer waits for at the end of a recording or a page (R163). -/
def State.drainStage (i : LineId) : Nat → State → State
  | 0, s => s
  | n + 1, s =>
    let s1 := s.stageWrite i
    if (s1.line i).stage.isWaiting then State.drainStage i n s1.serveAll else s1

/-- More than the block requests that the largest area can give rise to. -/
def drainFuel : Nat := 32

/-- The Store Controller refills a STAGE area being read, up to its high mark or the end of the range (R148). -/
def State.stageFill (s : State) (i : LineId) : State :=
  match (s.line i).stage, s.joined i .stage with
  | .reading id pos stop, some k =>
    let n := min ((s.area k).high - (s.area k).occupancy) (stop - pos)
    match s.entry? id with
    | none => s
    | some e =>
      ((s.append k (s.readEntry e pos n)).1).modLine i (fun l => { l with stage := .reading id (pos + n) stop })
  | _, _ => s

/-- The range being read is in the area whole, and the area has been emptied: the engine has taken its last byte. An
AREA_FLUSH of the area a greeting plays from in CLASSIFY (R64) counts as the taking of the bytes it removes: DESIGN CHOICE
(notes/assumptions/25.md). -/
def State.rangeTaken (s : State) (i : LineId) : Bool :=
  match (s.line i).stage, s.joined i .stage with
  | .reading _ pos stop, some k => decide (stop ≤ pos) && decide ((s.area k).occupancy = 0)
  | _, _ => false

/-- A writer starts writing its entry from a STAGE area, emptied first (R69). -/
def State.startWriting (s : State) (i : LineId) (id : Nat) : State :=
  (s.emptyStage i).modLine i (fun l => { l with stage := .writing id false false })

/-- A reader starts reading a range of an entry through a STAGE area, emptied first (R69, R148). -/
def State.startReading (s : State) (i : LineId) (id pos len : Nat) : State :=
  (s.emptyStage i).modLine i (fun l => { l with stage := .reading id pos (pos + len) })

/-- The engine stops with the area: the Store Controller stops filling it (R148). -/
def State.leaveStage (s : State) (i : LineId) : State := s.modLine i (fun l => { l with stage := .idle })

/-- The engine stops with the area, and the area is flushed (R148). -/
def State.stopStage (s : State) (i : LineId) : State := (s.emptyStage i).leaveStage i

end Sys2Proof.Machine
end

