-- ==== Sys2Proof/Machine/Tones.lean ====
section
/-! DEFINITION. The Tone Engine's own workings: which functions run (R22), cadence matching (R25 to R27), generation
(R28, R29), the noise floor and the frame findings (R30, R31), and the DTMF detector (R35). -/

namespace Sys2Proof.Machine

/-! ## Which functions run (R22) -/

/-- The row of R22 a line uses: its state, or in LOOPBACK that of the job running; IDLE stands for the stopped rows. -/
def Line.row (l : Line) : LineState :=
  match l.state, l.job with
  | .loopback, .data  => .data
  | .loopback, .fax   => .fax
  | .loopback, .voice => .voice
  | .loopback, .none  => .idle
  | st, _ => st

def LineState.matching : LineState → Bool
  | .seizing | .dialling | .progress | .classify | .voice => true
  | _ => false

def LineState.power : LineState → Bool
  | .data | .fax => true
  | st => st.matching

def LineState.dtmf : LineState → Bool
  | .classify | .voice => true
  | _ => false

/-! ## What is heard (R25, R35, R39) -/

/-- A frequency counts as the one stated within 1.5 percent of it (R25, R35, R39). -/
def isNear (f : Nat) (p : HeardTone) : Bool := decide (985 * f ≤ p.mHz) && decide (p.mHz ≤ 1015 * f)

/-- A frequency of the received signal at a level of at least `dbm`. -/
def isAtLeast (dbm : Int) (p : HeardTone) : Bool := decide (100 * dbm ≤ p.cdBm)

/-- The received signal has a frequency, at a level of at least `dbm`. -/
def hears (f : Nat) (dbm : Int) (heard : List HeardTone) : Bool := heard.any (fun p => isNear f p && isAtLeast dbm p)

/-- The detector of an entry is on: its first frequency, and its second where it has one, are each there with at least
the entry's level (R25). -/
def ToneEntry.isOn (e : ToneEntry) (heard : List HeardTone) : Bool :=
  hears e.f1 e.level heard && e.f2.all (fun f => hears f e.level heard)

/-- The greatest level of a frequency that is there with at least the least level of a digit's (R35). -/
def dtmfPart (heard : List HeardTone) (f : Nat) : Option (Nat × Int) :=
  ((heard.filter (fun p => isNear f p && isAtLeast Config.dtmfLevel p)).map (·.cdBm)).max?.map (fun v => (f, v))

/-- The low-group and the high-group frequencies of the table of R29. -/
def lowGroup : List Nat := [697, 770, 852, 941]
def highGroup : List Nat := [1209, 1336, 1477, 1633]

/-- All sixteen digits. -/
def allDigits : List Digit :=
  [.d0, .d1, .d2, .d3, .d4, .d5, .d6, .d7, .d8, .d9, .star, .hash, .la, .lb, .lc, .ld]

/-- The digit of a valid pair: exactly one frequency of each group, within 8 dB of each other (R35). What is weaker than
the least level counts as no frequency. DESIGN CHOICE (notes/assumptions/18.md). -/
def dtmfPair (heard : List HeardTone) : Option Digit :=
  match lowGroup.filterMap (dtmfPart heard), highGroup.filterMap (dtmfPart heard) with
  | [(l, p)], [(h, q)] =>
    if p - q ≤ 100 * Config.dtmfTwist ∧ q - p ≤ 100 * Config.dtmfTwist then
      allDigits.find? (fun d => digitPair d == (l, h))
    else none
  | _, _ => none

/-- The bit a caller identity signal gives in one bit time: a mark, a space, or none where it is neither (R39). That no
bit is taken then is a DESIGN CHOICE (notes/assumptions/18.md). -/
def signalBit? (p : HeardTone) : Option Bool :=
  if isAtLeast Config.cidLevel p then
    if isNear Config.markHz p then some true else if isNear Config.spaceHz p then some false else none
  else none

/-! ## Cadence matching -/

/-- A segment with off-max 0 marks the entry as continuous (R23). -/
def ToneEntry.continuous (e : ToneEntry) : Bool := e.cadence.any (fun g => g.offMax = 0)

def ToneEntry.segment (e : ToneEntry) (n : Nat) : Segment := e.cadence.getD n ⟨0, 0, 0, 0⟩

/-- What one event of a matcher gives: a confirmation, or the stop of a ringback (R27, R34). -/
structure MatchResult where
  matcher : Matcher
  confirmed : Bool := false
  stopped   : Bool := false
  onset     : Bool := false
  deriving DecidableEq, Repr

/-- A failed match: repetition count and segment 0, waiting for the next onset (R26). -/
def Matcher.fail (m : Matcher) : Matcher := { m with phase := .waiting, seg := 0, reps := 0 }

/-- A matcher started fresh keeps only its detector; an on-period already under way is ignored (R22). -/
def Matcher.fresh (m : Matcher) : Matcher := { id := m.id, det := m.det }

/-- What the moment `now` has brought to the period being timed: an on-period that outlasts on-max fails, an
off-period that reaches off-min completes its segment, one that outlasts off-max fails; a continuous entry on for
on-min is confirmed (R26, R27). -/
def Matcher.expire (e : ToneEntry) (now : Ms) (m : Matcher) : MatchResult :=
  let g := e.segment m.seg
  match m.phase with
  | .on t =>
    if e.continuous then
      if t + g.onMin ≤ now then { matcher := { m with phase := .confirmed }, confirmed := true }
      else { matcher := m }
    else if t + g.onMax < now then { matcher := m.fail } else { matcher := m }
  | .off t false =>
    if t + g.offMin ≤ now then
      let reps := if m.seg + 1 = e.cadence.length then m.reps + 1 else m.reps
      if reps = e.confirm then
        { matcher := { m with phase := .off t true, reps := 0 }, confirmed := true }
      else { matcher := { m with phase := .off t true, reps := reps } }
    else { matcher := m }
  | .off t true =>
    if t + g.offMax < now then { matcher := m.fail, stopped := true } else { matcher := m }
  | _ => { matcher := m }

/-- Every expiry that is due is taken: at most the end of a segment and then the end of its off-period. -/
def Matcher.settle (e : ToneEntry) (now : Ms) (m : Matcher) : MatchResult :=
  let r1 := m.expire e now
  let r2 := r1.matcher.expire e now
  { matcher := r2.matcher, confirmed := r1.confirmed || r2.confirmed, stopped := r1.stopped || r2.stopped }

/-- The detector goes on (R26, R27): an onset. `coded` is the coded count of the recording in hand. -/
def Matcher.onset (e : ToneEntry) (now : Ms) (coded : Nat) (m : Matcher) : MatchResult :=
  let r := m.settle e now
  let m := { r.matcher with det := true }
  let next : Matcher :=
    match m.phase with
    | .off _ true =>
      if m.seg + 1 < e.cadence.length then { m with phase := .on now, seg := m.seg + 1 }
      else { m with phase := .on now, seg := 0, first := if m.reps = 0 then coded else m.first }
    | _ => { m with phase := .on now, seg := 0, reps := 0, first := coded }
  { r with matcher := next, onset := true }

/-- The detector goes off (R26, R27): the end of an on-period. -/
def Matcher.offset (e : ToneEntry) (now : Ms) (m : Matcher) : MatchResult :=
  let r := m.settle e now
  let m := { r.matcher with det := false }
  if e.continuous then { r with matcher := m.fail, stopped := true }
  else
    match m.phase with
    | .on t =>
      if t + (e.segment m.seg).onMin ≤ now then
        let r2 := ({ m with phase := .off now false } : Matcher).expire e now
        { r2 with confirmed := r.confirmed || r2.confirmed }
      else { r with matcher := m.fail }
    | _ => { r with matcher := m }

/-- The matchers of a line started fresh on a table (R22, R24). -/
def freshMatchers (table : List ToneEntry) : List Matcher := table.map (fun e => { id := e.id })

/-- A class has an entry in the table (R14). -/
def State.hasTone (s : State) (c : ToneClass) : Bool := s.toneTable.any (fun e => e.cls = c)

def State.toneEntry? (s : State) (id : Nat) : Option ToneEntry := s.toneTable.find? (fun e => e.id == id)

/-- Matching of every entry starts fresh (R22). -/
def ToneEngine.restart (t : ToneEngine) : ToneEngine := { t with matchers := t.matchers.map Matcher.fresh }

/-- Matching of the DIAL-class entries starts fresh (R15, R16). -/
def ToneEngine.restartDial (table : List ToneEntry) (t : ToneEngine) : ToneEngine :=
  { t with matchers := t.matchers.map (fun m =>
      if table.any (fun e => e.id == m.id && decide (e.cls = .dial)) then m.fresh else m) }

def ToneEngine.anyDetector (t : ToneEngine) : Bool := t.matchers.any Matcher.det

/-- The Tone Engine as a line passes from one row of R22 to another. The first frame of 32 ms begins as power measurement
starts to run, and each next one at the end of a frame taken: R30 gives the frames no origin. DESIGN CHOICE
(notes/assumptions/18.md). -/
def ToneEngine.pass (table : List ToneEntry) (now : Ms) (old new : LineState) (t : ToneEngine) : ToneEngine :=
  let t1 := if new.matching then (if old.matching then t else { t with matchers := freshMatchers table })
            else { t with matchers := [] }
  let t2 := if new.dtmf then t1 else { t1 with dtmf := .idle, pairOn := false }
  if new.power then
    if old.power then t2 else { t2 with frameBusy := false, frameStart := now, speechRun := 0 }
  else { t2 with frameBusy := false, speechRun := 0 }

/-! ## Generation -/

/-- The entry of a class with the lowest id (R23, R28). -/
def lowestEntry (c : ToneClass) (table : List ToneEntry) : Option ToneEntry :=
  table.foldl (fun best e =>
    if e.cls = c then
      match best with
      | some b => if e.id < b.id then some e else some b
      | none   => some e
    else best) none

/-- The on and off lengths sent for a segment: half the sums, rounded down (R28). -/
def Segment.sent (g : Segment) : Ms × Ms := ((g.onMin + g.onMax) / 2, (g.offMin + g.offMax) / 2)

/-- A request to generate a class for `len` ms, taken now (R28). Without an entry no tone is sent, but for
RECORD_TONE, which is then a continuous 1000 Hz. -/
def toneRequest (table : List ToneEntry) (now : Ms) (c : ToneClass) (len : Ms) : Option ToneGen :=
  match lowestEntry c table with
  | some e =>
    let cad := if e.continuous then [] else e.cadence.map Segment.sent
    some { cls := c, f1 := e.f1, f2 := e.f2, cadence := cad, stopAt := now + len, seg := 0, isOn := true
           segEnd := cad.head?.map (fun p => now + p.1) }
  | none =>
    if c = .recordTone then
      some { cls := c, f1 := Config.recordToneHz, f2 := none, cadence := [], stopAt := now + len, seg := 0, isOn := true
             segEnd := none }
    else none

def State.generate (s : State) (i : LineId) (c : ToneClass) (len : Ms) : State :=
  s.modLine i (fun l => { l with tone.gen := toneRequest s.toneTable s.now c len })

/-- The end of a segment's on or off length turns it over, repeating from segment 0 (R28). -/
def ToneGen.turn (now : Ms) (g : ToneGen) : ToneGen :=
  if g.isOn then { g with isOn := false, segEnd := (g.cadence[g.seg]?).map (fun p => now + p.2) }
  else
    let n := if g.seg + 1 < g.cadence.length then g.seg + 1 else 0
    { g with isOn := true, seg := n, segEnd := (g.cadence[n]?).map (fun p => now + p.1) }

/-- A tone at the moment `now`: at an end only where the requested time has passed, turned over where a segment's length
has (R28). -/
def ToneGen.goOn (now : Ms) (g : ToneGen) : Option ToneGen :=
  if g.stopAt ≤ now then none else if due now g.segEnd then some (g.turn now) else some g

/-- The receiving half of a fax job in LOOPBACK asks for a tone beside the sending half's (R28, R138). -/
def State.generateEcho (s : State) (i : LineId) (c : ToneClass) (len : Ms) : State :=
  s.modLine i (fun l => { l with tone.echoGen := toneRequest s.toneTable s.now c len })

/-- A digit begins: its pair for tone_on_ms and silence for tone_off_ms, both read now; the detector is held (R29). -/
def Line.sendDigit (now : Ms) (d : Digit) (l : Line) : Line :=
  { l with tone := { l.tone with
      digitTx := some { digit := d, isOn := true, until_ := now + l.profile.toneOnMs, offMs := l.profile.toneOffMs }
      dtmf := .idle, pairOn := false } }

/-- What a codec transmits: a digit takes the place of a table tone, and a table tone of the job's signal (R28, R29); the
two halves of a fax job in LOOPBACK may send a tone each (R138), and coded sound goes with the coding bits its samples are
decoded with (R157). -/
inductive Transmit where
  | silence
  | digit (d : Digit)
  | tones (ts : List (Nat × Option Nat))
  | voice (bits : Nat) (bytes : List Byte)
  | datapump
  deriving DecidableEq, Repr

/-- The table tones in hand. -/
def ToneEngine.gens (t : ToneEngine) : List ToneGen := t.gen.toList ++ t.echoGen.toList

/-- What the job sends of itself. -/
def Line.jobSignal (l : Line) : Transmit :=
  match l.row, l.voice.decoding with
  | .data, _ | .fax, _ => .datapump
  | .voice, some (bits, bs) | .classify, some (bits, bs) => .voice bits bs
  | _, _ => .silence

/-- What the line's codec transmits; in OFFLINE it is held at silence (R3, R28, R29). -/
def Line.transmit (l : Line) : Transmit :=
  if l.state = .offline then .silence
  else match l.tone.digitTx with
  | some t => if t.isOn then .digit t.digit else .silence
  | none =>
    if l.tone.gens.isEmpty then l.jobSignal
    else match l.tone.gens.filter ToneGen.isOn with
    | [] => .silence
    | gs => .tones (gs.map (fun g => (g.f1, g.f2)))

/-- What the line's port sends: what the codec transmits, but in LOOPBACK, where the port is held at silence (R21). -/
def Line.portTransmit (l : Line) : Transmit := if l.state = .loopback then .silence else l.transmit

/-- What the line's receive path gets where the far end sends `far`: in LOOPBACK the codec's own transmit, the port's
samples being ignored, and in OFFLINE nothing is taken (R3, R21). -/
def Line.receive (l : Line) (far : Transmit) : Transmit :=
  match l.state with
  | .loopback => l.transmit
  | .offline  => .silence
  | _         => far

/-- One frequency sent: in Hz, and its power as one of `parts` equal parts of a level in dBm. -/
structure SentTone where
  hz    : Nat
  dBm   : Int
  parts : Nat
  deriving DecidableEq, Repr

/-- The frequencies and levels sent: a table tone at −10 dBm in all, half of it in each frequency of a dual tone
(R28), and a digit's pair at −9 and −7 dBm (R29). -/
def Transmit.sent : Transmit → List SentTone
  | .digit d => [⟨(digitPair d).1, Config.lowGroupLevel, 1⟩, ⟨(digitPair d).2, Config.highGroupLevel, 1⟩]
  | .tones ts => ts.flatMap (fun t =>
      match t.2 with
      | none   => [⟨t.1, Config.toneLevel, 1⟩]
      | some g => [⟨t.1, Config.toneLevel, 2⟩, ⟨g, Config.toneLevel, 2⟩])
  | _ => []

/-! ## Power, noise floor, speech and silence -/

/-- The power of a frame in whole dBm, clamped to −80..0 (R30). -/
def clampPower (p : Int) : Int := max (-80) (min 0 p)

/-- The noise floor: NF16 divided by 16 and rounded down (R30). -/
def ToneEngine.nf (t : ToneEngine) : Int := t.nf16 / 16

/-- A frame of power `p` is quiet (R30). -/
def Line.quietFrame (l : Line) (p : Int) : Bool :=
  !l.tone.frameBusy && decide (p < l.tone.nf + l.profile.speechMarginDb)

/-- A frame of power `p` is a speech frame (R31). -/
def Line.speechFrame (l : Line) (p : Int) : Bool :=
  !l.tone.frameBusy && decide (l.tone.nf + l.profile.speechMarginDb ≤ p)

/-- The silence threshold T, clamped to −55..−20 dBm (R31). -/
def Line.silenceThreshold (l : Line) : Int := max (-55) (min (-20) (l.tone.nf + l.profile.silenceMarginDb))

def Line.silentFrame (l : Line) (p : Int) : Bool := decide (p < l.silenceThreshold)

/-- NF16 after a quiet frame: one sixteenth of the way to 16·P, rounded down (R30). -/
def nfStep (nf16 p : Int) : Int := nf16 + (16 * p - nf16) / 16

/-- A silent run of `frames` frames has reached a length of `t` ms (R31). -/
def runReaches (frames t : Nat) : Bool := decide (t ≤ frames * 32)

/-! ## The DTMF detector (R35) -/

/-- What a change of the pair or a timing brings: the detector's next condition, and the digits recognised. -/
structure DtmfResult where
  next  : DtmfState
  digits : List Digit := []
  deriving DecidableEq, Repr

/-- The timings that are due at `now`: a pair present for 40 ms is held, a held pair absent for 40 ms is recognised. -/
def DtmfState.settle (now : Ms) : DtmfState → DtmfResult
  | .presence d t => if t + 40 ≤ now then { next := .held d none } else { next := .presence d t }
  | .held d (some t) => if t + 40 ≤ now then { next := .idle, digits := [d] } else { next := .held d (some t) }
  | st => { next := st }

/-- A valid pair stops. -/
def DtmfState.stop (now : Ms) (st : DtmfState) : DtmfResult :=
  let r := st.settle now
  match r.next with
  | .presence _ _   => { r with next := .idle }
  | .held d none    => { r with next := .held d (some now) }
  | _               => r

/-- A valid pair starts. -/
def DtmfState.onset (now : Ms) (d : Digit) (st : DtmfState) : DtmfResult :=
  let r := st.settle now
  match r.next with
  | .idle => { r with next := .presence d now }
  | .presence d' _ => if d' = d then r else { r with next := .presence d now }
  | .held d' _ =>
    if d' = d then { r with next := .held d' none }
    else { next := .presence d now, digits := r.digits ++ [d'] }

end Sys2Proof.Machine
end

