-- ==== Sys2Proof/Machine/Lines.lean ====
section
/-! DEFINITION. The Line Interface and the changes of line state: relay, inputs, ring measurement, loop timing and the
signal record as a line passes from one state to another (R7 to R10, R13, R20). -/

namespace Sys2Proof.Machine

/-- The states in which the relay is closed, but for pulse breaks and flash; the hook value is 1 in the same (R7). -/
def LineState.offHook : LineState → Bool
  | .seizing | .dialling | .progress | .classify | .data | .fax | .voice => true
  | _ => false

/-- Ringing is measured: in IDLE, ALERTING and RELEASE, and in LOOPBACK with no job running (R9, R21). -/
def Line.measuresRing (l : Line) : Bool :=
  match l.state with
  | .idle | .alerting | .release => true
  | .loopback => decide (l.job = .none)
  | _ => false

/-- The ring input as the line sees it: the substitute in LOOPBACK (R21). -/
def Line.ringIn (l : Line) : Bool := if l.state = .loopback then l.substRing else l.realRing

/-- The loop-current input as the line sees it (R21). -/
def Line.loopIn (l : Line) : Bool := if l.state = .loopback then l.substLoop else l.realLoop

/-- Loop current is timed: the relay is closed, or a job runs in LOOPBACK (R8, R21). -/
def Line.timesLoop (l : Line) : Bool :=
  if l.state = .loopback then decide (l.job ≠ .none) else l.relay

/-- The Datapump of a line runs: a DATA or FAX job in its state or in LOOPBACK (R20, R73). -/
def Line.datapump (l : Line) : Bool :=
  match l.row with
  | .data | .fax => true
  | _ => false

/-- The absence timer as loop timing starts: running from now where loop current is absent (R8). -/
def Line.freshLoopTimer (now : Ms) (l : Line) : Timer :=
  if l.timesLoop && !l.loopIn then some (now + l.profile.loopDropMs) else none

/-- Ring qualification started now (R9). -/
def Line.startQualifying (now : Ms) (l : Line) : Line :=
  { l with ring.qual := some (now, now + l.profile.ringQualifyMs) }

/-- Ring measurement as it begins: qualification timing starts at once where the input is active (R2, R13). -/
def Line.freshRing (now : Ms) (l : Line) : Line :=
  let l1 := { l with ring := {} }
  if l1.measuresRing && l1.ringIn then l1.startQualifying now else l1

/-- An input active but not yet qualified starts its timing where none is running (R4, R13). -/
def Line.resumeRing (now : Ms) (l : Line) : Line :=
  if l.measuresRing && l.ringIn && l.ring.burst.isNone && l.ring.qual.isNone then l.startQualifying now else l

/-- The line's parts but for the signal record as it passes to a state (R7, R8, R9, R22, R30). -/
def Line.pass (table : List ToneEntry) (now : Ms) (st : LineState) (l : Line) : Line :=
  let l1 := { l with state := st, relay := st.offHook, carrier := l.carrier && ({ l with state := st } : Line).datapump }
  let closing := st.offHook && !l.state.offHook
  let l2 := { l1 with
    tone := (l.tone.pass table now l.row l1.row)
    loopTimer := if closing then l1.freshLoopTimer now else if st.offHook then l.loopTimer else none }
  let l3 := if closing then { l2 with tone.nf16 := -960 } else l2
  if l3.measuresRing then (if l.measuresRing then l3 else l3.freshRing now) else { l3 with ring := {} }

/-- A line passes to a state; the signal record takes the ring, loop, carrier and hook values of that state (R7, R20).
-/
def State.pass (s : State) (i : LineId) (st : LineState) : State :=
  let l := (s.line i).pass s.toneTable s.now st
  (s.setLine i l).setSignals i l.ring.burst.isSome (st != .offline && l.loopIn) l.carrier st.offHook false

/-! ## Ring input -/

/-- A change of the ring input where it is measured (R9). -/
def Line.ringChange (now : Ms) (active : Bool) (l : Line) : Line :=
  match l.ring.burst with
  | some _ => { l with ring.quiet := if active then none else some now }
  | none   => if active then l.startQualifying now else { l with ring.qual := none }

/-! ## Loop current -/

/-- A change of the loop-current input: the absence timer starts or stops where loop current is timed (R8). -/
def Line.loopChange (now : Ms) (l : Line) : Line := { l with loopTimer := l.freshLoopTimer now }

/-- The signal record's loop value is held while the relay is open for a pulse break or a flash (R20). -/
def Line.holdsLoop (l : Line) : Bool := decide (l.state = .dialling) && !l.relay

/-- The relay opens for a pulse break or a flash; the absence timer is suspended (R8, R16). -/
def State.openRelay (s : State) (i : LineId) : State :=
  s.modLine i (fun l => { l with relay := false, loopTimer := none })

/-- The relay closes again after a break or a flash: the absence timer is cleared and counts from here, and the loop
value follows the input again (R8, R20). -/
def State.closeRelay (s : State) (i : LineId) : State :=
  let s1 := s.modLine i (fun l => ({ l with relay := true } : Line).loopChange s.now)
  s1.signalLoop i (s1.line i).loopIn

end Sys2Proof.Machine
end

