-- ==== Sys2Proof/Machine/Calls.lean ====
section
/-! DEFINITION. The end of recordings and playbacks (R162, R163, R168), the close of a received fax (R136), and the end
of a call (R18) with the release that follows it (R19). -/

namespace Sys2Proof.Machine

/-! ## Voice -/

/-- A line runs a VOICE job in VOICE or in LOOPBACK (R37, R166). -/
def Line.inVoice (l : Line) : Bool := decide (l.row = .voice)

/-- The new length of a recording that ends with the reason given (R162). -/
def Recording.newLength (r : Recording) : RecEnd → Nat
  | .silence   => r.silentStart.getD r.coded
  | .remote    => r.silentStart.getD r.coded
  | .maxLength => r.limit
  | _          => r.coded

/-- The recording is over: the record holds none, and the activity is NONE (R166). -/
def Voice.noRecording (v : Voice) : Voice := { v with recording := none, activity := .none }

/-- An ended recording to the store is completed: trim, minimum check, close or delete, RECORD_DONE (R163). What it
answers beside is what follows. -/
def State.completeStored (s : State) (i : LineId) (r : Recording) (id : Nat) (why : RecEnd) (newLen : Nat) : State :=
  let held := ((s.entry? id).map Entry.length).getD 0
  let len := min newLen held
  let keep := decide (r.minMs * r.bits ≤ len)
  let s1 := if len < held then s.trimEntry id len else s
  let s2 := if keep then s1.closeEntry id (.recording why) else s1.deleteEntry id
  let kept : Option Nat := if keep && (s2.entry? id).isSome then some id else none
  let s3 := s2.modLine i (fun l =>
    { (if kept.isSome then l.modCall (fun c => { c with messageId := kept }) else l) with
      stage := .idle, voice := l.voice.noRecording })
  s3.notifyLine i (.recordDone kept len why)

/-- A recording thrown away for a fax: its entry is deleted, behind the block requests that wait (R144, R163, R164). -/
def State.discardRecording (s : State) (i : LineId) (r : Recording) : State :=
  let s1 := match r.entry with
    | some id => s.deleteEntry id
    | none    => s
  (s1.modLine i (fun l => { l with stage := .idle, voice := l.voice.noRecording })).notifyLine i
    (.recordDone none r.coded .discarded)

/-- An ended recording to the host: RECORD_DONE with no id (R166). -/
def State.completeHost (s : State) (i : LineId) (r : Recording) (why : RecEnd) : State :=
  (s.modLine i (fun l => { l with voice := l.voice.noRecording })).notifyLine i (.recordDone none r.coded why)

/-- The recording in hand, if it has ended, is completed; a STAGE area still holding bytes is written out first
(R163). -/
def State.completeRecording (s : State) (i : LineId) : State :=
  match (s.line i).voice.recording with
  | none => s
  | some r =>
    match r.ended with
    | none => s
    | some (why, newLen, _) =>
      match r.entry with
      | some id => (s.drainStage i drainFuel).completeStored i r id why newLen
      | none    => s.completeHost i r why

/-- A recording not ended ends with the reason and new length given (R162). -/
def State.endRecording (s : State) (i : LineId) (why : RecEnd) (newLen : Nat) (next : AfterRec) : State :=
  s.modLine i (fun l => { l with voice := l.voice.endRecording why newLen next })

/-- The playback in hand ends: the mark is cleared, the area flushed and left, PLAY_DONE queued (R168, R169). -/
def State.endPlayback (s : State) (i : LineId) (why : PlayEnd) : State :=
  match (s.line i).voice.playback with
  | none => s
  | some p =>
    let s1 := if p.target = .store then (s.clearPlaying i).stopStage i else s
    (s1.modLine i (fun l => { l with
        voice := { l.voice with playback := none, activity := .none, decoding := none } })).notifyLine i
      (.playDone (p.cur.or p.last) why p.skipped)

/-- A greeting or a record tone ends with its call: the playing mark is cleared, and the area keeps its bytes (R72,
R159). -/
def State.leaveGreeting (s : State) (i : LineId) : State :=
  let s1 := if (s.line i).voice.activity = .greeting then (s.clearPlaying i).leaveStage i else s
  s1.modLine i (fun l => { l with
    tone.gen := none, voice := { l.voice with activity := .none, toneEnd := none, decoding := none } })

/-- A greeting or a record tone stops while its call goes on: the playing mark is cleared and the area flushed (R44,
R158, R159, R164, R170). That it is flushed at a digit, at a tone other than FAX_CALL and at VOICE_STOP is a DESIGN
CHOICE: the spec gives R148's flush only for the other stops (notes/assumptions/20.md). -/
def State.stopGreeting (s : State) (i : LineId) : State :=
  (if (s.line i).voice.activity = .greeting then s.emptyStage i else s).leaveGreeting i

/-- The voice activity in hand ends because its call ends (R163, R168). -/
def State.stopVoice (s : State) (i : LineId) (rec : RecEnd) (pl : PlayEnd) : State :=
  match (s.line i).voice.activity with
  | .none => s
  | .greeting | .recordTone => s.leaveGreeting i
  | .playing => s.endPlayback i pl
  | .recording =>
    match (s.line i).voice.recording with
    | none => s
    | some r => (s.endRecording i rec (r.newLength rec) .stayHost).completeRecording i

/-! ## Fax -/

/-- A page record is appended to the entry's page list, up to 24 (R133, R146). -/
def State.addPage (s : State) (id : Nat) (p : PageRecord) : State :=
  s.modEntry id (fun e => if e.pages.length < Config.pageListMax then { e with pages := e.pages ++ [p] } else e)

/-- A receiver to the store closes its entry at the end of the call, behind the block requests that wait; with no page
record it is deleted, and becomes NEW with one (R136, R144). That it becomes NEW also with a length of 0, where R146
deletes an entry at its close, is a DESIGN CHOICE (notes/assumptions/12.md). -/
def State.closeFaxEntry (s : State) (i : LineId) (why : EndReason) : State :=
  match (s.line i).fax.entry with
  | none => s
  | some id =>
    let s1 := (s.drainStage i drainFuel).serveAll
    let f := (s1.line i).fax
    let len := ((s1.entry? id).map Entry.length).getD 0
    let s2 := if f.begun && !f.discard && decide (f.pageStart < len) then
        s1.addPage id ⟨f.pageStart, len - f.pageStart, .bad, true⟩ else s1
    if ((s2.entry? id).map (fun e => e.pages.isEmpty)).getD true then s2.deleteEntry id
    else s2.finishEntry id (.call why)

/-! ## The end of a call -/

/-- The quality state at the end of a call: last qi, last s and A stay (R74). The runs, which R74 names neither as
kept nor as absent, become 0. DESIGN CHOICE (notes/assumptions/20.md). -/
def Quality.callEnd (q : Quality) : Quality := { lastQi := q.lastQi, lastS := q.lastS, a := q.a }

/-- What a fax call writes into the call record at its end (R136). -/
def Line.writeFaxPages (l : Line) : Line :=
  if l.job = .fax then l.modCall (fun c => { c with pages := some l.fax.pages }) else l

/-- The job engine is stopped (R18, step 2). A call dropped with reason RESET completes nothing (R163). -/
def State.stopEngine (s : State) (i : LineId) (why : EndReason) : State :=
  let s1 :=
    if why = .reset then s
    else if (s.line i).fax.role.isSome then s.closeFaxEntry i why
    else s.stopVoice i (if why = .remote then .remote else .locally) (if why = .remote then .remote else .locally)
  let s2 := (s1.withdraw i).modLine i (fun l =>
    { l.writeFaxPages with
      carrier := false, stage := .idle
      tone := { l.tone with gen := none, echoGen := none, digitTx := none, sendQueue := [] } })
  s2.signalCarrier i false

/-- The context of a line with no call (R18 step 6, R95, R117, R156, R74). -/
def Line.noCall (l : Line) : Line :=
  { l with
    job := .none, direction := .none, faxSource := none, call := none, dialList := [], dialPos := 0
    copies := {}, dialWait := none, dialStep := .idle, answerWait := none, ringbackSeen := false, watch := none
    classifyTimer := none, dropTimer := none, override := .none, answerWaiting := false, tone.cid := {}
    quality := l.quality.callEnd, link := {}, fax := {}, faxEcho := {}, voice := {}, stage := .idle }

/-- CALL_ENDED carrying the call record (R57). -/
def State.reportEnd (s : State) (i : LineId) : State :=
  match (s.line i).call with
  | some c => s.notifyLine i (.callEnded c)
  | none   => s

/-- An end of a data call that has been taken, while the transmission of its END or END_OK is awaited (R84, R114). -/
def Link.ending (k : Link) : Option EndReason := if k.dropEnd then some .lineQuality else k.farEnd

/-- An end of a fax call that has been taken, while the transmission of its END is awaited (R136). -/
def Fax.ending (f : Fax) : Option EndReason := if f.phase = .close then f.closing else none

/-- The reason of a call that ends for `why`: that of an end taken before, where there is one (R116, R136). -/
def Line.endReason (why : EndReason) (l : Line) : EndReason := (l.link.ending.or l.fax.ending).getD why

/-- The end of a call (R18): the reason is written, that of an end taken before where there is one (R116, R136), the
engine stopped, the fax-sending mark cleared, the areas released, CALL_ENDED queued and the context cleared. -/
def State.callEnd (s : State) (i : LineId) (why : EndReason) : State :=
  let first := (s.line i).endReason why
  let s1 := s.modLine i (fun l => l.modCall (fun c => { c with endReason := some first }))
  let s2 := s1.stopEngine i first
  let s3 := ((s2.clearFaxing i).clearPlaying i).releaseAreas i
  (s3.reportEnd i).modLine i Line.noCall

/-- Entry to RELEASE: the relay opens and the guard of 1500 ms starts (R19). -/
def State.enterRelease (s : State) (i : LineId) : State :=
  (s.pass i .release).modLine i (fun l => { l with guard := s.start 1500 })

/-- The functions of the Tone Engine stop and ring measurement begins again as a job in LOOPBACK ends (R21, R22). -/
def Line.leaveLoopJob (old : LineState) (table : List ToneEntry) (now : Ms) (l : Line) : Line :=
  ({ l with tone := l.tone.pass table now old .idle, loopTimer := none } : Line).freshRing now

/-- A call is released with a reason (R17, R18, R19); a job in LOOPBACK ends and the line stays there (R21). -/
def State.release (s : State) (i : LineId) (why : EndReason) : State :=
  if (s.line i).state = .loopback then
    (s.callEnd i why).modLine i (Line.leaveLoopJob (s.line i).row s.toneTable s.now)
  else (s.callEnd i why).enterRelease i

end Sys2Proof.Machine
end

