-- ==== Sys2Proof/Machine/Quality.lean ====
section
/-! DEFINITION. The quality arithmetic and the ladder functions (R75 to R77, R84, R94, R99). -/

namespace Sys2Proof.Machine

/-- The largest k up to the number given with Ee^40 × 10^k ≤ Es^40; 0 where there is none (R75). -/
def qiUpTo (es ee : Nat) : Nat → Nat
  | 0 => 0
  | k + 1 => if ee ^ 40 * 10 ^ (k + 1) ≤ es ^ 40 then k + 1 else qiUpTo es ee k

/-- The interval quality qi of a record, 0 to 160 (R75). -/
def intervalQuality (r : MeasRecord) : Nat := qiUpTo r.es r.ee 160

/-- The score of a record: qi less the impulse penalty, and not below 0 (R76). -/
def score (r : MeasRecord) (penalty : Nat) : Nat := intervalQuality r - penalty * min r.hits 12

/-- The accumulator after a score (R77). -/
def accumulate (a sc : Nat) : Nat := a - a / 8 + sc

/-- The smoothed quality Q (R74). -/
def Quality.q (k : Quality) : Nat := k.a / 8

def ladderStep (ladder : List LadderStep) (j : Nat) : LadderStep := ladder.getD j ⟨0, 0, 0, 0⟩

/-- The highest step below `n` and not below the floor whose D is at most `q`, or the floor (R84). -/
def bestStep (ladder : List LadderStep) (floor q : Nat) : Nat → Nat
  | 0 => floor
  | n + 1 => if floor ≤ n ∧ (ladderStep ladder n).d ≤ q then n else bestStep ladder floor q n

/-- The fall-back target of R84 from step `c`. -/
def fallBackTarget (ladder : List LadderStep) (floor c q : Nat) : Nat := bestStep ladder floor q c

/-- The fax retrain target of R94 from step `c`: it may be `c` itself, and it is never below the floor, which R94 names only
where no step is found: DESIGN CHOICE (notes/assumptions/12.md). -/
def retrainTarget (ladder : List LadderStep) (floor c q : Nat) : Nat := bestStep ladder floor q (c + 1)

/-- The highest step below `n` whose rate is at most `rate` (R99, R121). -/
def highestRate (ladder : List LadderStep) (rate : Nat) : Nat → Option Nat
  | 0 => none
  | n + 1 =>
    if n < ladder.length ∧ (ladderStep ladder n).rate ≤ rate then some n else highestRate ladder rate n

/-- A step field lowered to the length of a ladder minus one; kept where the ladder is empty (R6, R80). -/
def clampStep (ladder : List LadderStep) (x : Nat) : Nat :=
  if ladder.isEmpty then x else min x (ladder.length - 1)

/-- The call-start copies of a profile, clamped to the loaded ladders (R6). -/
def State.callCopies (s : State) (p : Profile) : CallCopies :=
  { dataFloor := clampStep s.dataLadder p.dataFloor, dataStart := clampStep s.dataLadder p.dataStart
    dataCeiling := clampStep s.dataLadder p.dataCeiling, faxFloor := clampStep s.faxLadder p.faxFloor
    faxCeiling := clampStep s.faxLadder p.faxCeiling, windowMax := p.windowMax
    blockCorrection := p.blockCorrection, faxTo := p.faxTo }

/-- A step clamped into floor..agreed ceiling (R88, R89, R92). -/
def Quality.clampToBounds (k : Quality) (p : Nat) : Nat := max (k.floor.getD 0) (min (k.ceiling.getD 0) p)

/-- The training time of a try (R73). -/
def TryKind.time : TryKind → Ms
  | .short => 1500
  | .full => 4000

/-- The next measurement record is that of an interval that ends no earlier than 125 ms from now (R73). -/
def Line.recordsFrom (now : Ms) (l : Line) : Line := { l with quality.nextRecord := some (now + Config.recordMs) }

/-- A scored record written to last qi and last s (R76). -/
def Quality.score (k : Quality) (r : MeasRecord) (penalty : Nat) : Quality :=
  { k with lastQi := intervalQuality r, lastS := Machine.score r penalty }

/-- The runs after a record, with the Q just computed (R83). -/
def Quality.updateRuns (k : Quality) (ladder : List LadderStep) : Quality :=
  let c := k.step.getD 0
  { k with
    lowRun := if k.q < (ladderStep ladder c).d then min 255 (k.lowRun + 1) else 0
    highRun := if c < k.ceiling.getD 0 ∧ (ladderStep ladder (c + 1)).u ≤ k.q then min 255 (k.highRun + 1) else 0 }

end Sys2Proof.Machine
end

