-- ==== Sys2Proof/Machine/Link.lean ====
section
/-! DEFINITION. The Link Engine's own workings and Rate Control: the transmitter, the resend timer, acknowledgements,
renegotiation, delivery, and the start and graceful end of a data call (R81, R82, R86 to R91, R95 to R116). -/

namespace Sys2Proof.Machine

/-! ## The transmitter (R102) -/

/-- DATA frames may be sent: no peer pause, not CLOSING, and the far end has not closed (R102, R112, R114). -/
def Link.sendsData (k : Link) : Bool := !k.peerPaused && decide (k.phase ≠ .closing) && k.farEnd.isNone

/-- The next frame the free transmitter chooses, and the link without it (R102). -/
def Link.choose (steady : Bool) (k : Link) : Option (LinkFrame × Link) :=
  match k.rateWait with
  | f :: t => some (f, { k with rateWait := t })
  | [] =>
    if !steady then none
    else match k.endWait with
    | f :: t => some (f, { k with endWait := t })
    | [] => match k.pauseWait with
    | f :: t => some (f, { k with pauseWait := t })
    | [] =>
      if k.ackWait then some (.ack k.e, { k with ackWait := false })
      else match k.requestWait with
      | r :: t => some (.resend r, { k with requestWait := t })
      | [] =>
        if !k.sendsData then none
        else match k.resendWait with
        | r :: t => some (.data r.1 k.e r.2, { k with resendWait := t })
        | [] => match k.newWait with
        | r :: t => some (.data r.1 k.e r.2, { k with newWait := t })
        | [] => none

/-- When the resend timer would expire for the head of the send queue (R106). -/
def Link.headDeadline (k : Link) (resendMs : Ms) : Timer :=
  k.sendQueue.head?.bind (fun h => h.lastTx.map (· + resendMs))

/-- The resend timer aimed at the head: running while Rate Control is STEADY, frozen while it is not, stopped during a
pause and with nothing sent (R106, R112). Where it is frozen, a new head's time left is that of the moment the head
changes: R90 and R106 do not say. DESIGN CHOICE (notes/assumptions/21.md). -/
def Line.aim (now : Ms) (l : Line) : Line :=
  { l with link.resendTimer :=
      match l.link.headDeadline l.profile.resendMs with
      | none   => .stopped
      | some d =>
        if l.link.peerPaused then .stopped
        else if l.quality.rc = .steady then .running d else .frozen (d - now) }

/-- A DATA frame sent acknowledges as an ACK does; its entry's transmission is noted (R106, R110). The moment of a
transmission is the one at which the transmitter takes the frame: R106 does not say whether its start or its end. DESIGN
CHOICE (notes/assumptions/21.md). -/
def Line.noteData (now : Ms) (seq : Nat) (l : Line) : Line :=
  let l1 := { l with link := { l.link with
    sendQueue := l.link.sendQueue.map (fun e => if e.seq = seq then { e with lastTx := some now } else e)
    ackDue := false, ackWait := false, ackSpacing := some (now + 50) } }
  if l1.link.sendQueue.head?.map SendEntry.seq = some seq then l1.aim now else l1

/-- The transmitter, when free, takes the next frame (R102). -/
def Line.kick (now : Ms) (l : Line) : Line :=
  if l.link.txNow.isSome then l
  else match l.link.choose (decide (l.quality.rc = .steady)) with
  | none => l
  | some (f, k) =>
    let l1 := { l with link := { k with txNow := some f } }
    match f with
    | .data seq _ _ => l1.noteData now seq
    | _ => l1

/-! ## Rate Control -/

/-- The resend timer as STEADY returns: it runs on from the time it was frozen with (R90). -/
def ResendTimer.thaw (now : Ms) : ResendTimer → ResendTimer
  | .frozen left => .running (now + left)
  | t => t

/-- The resend timer as STEADY is left (R90). -/
def ResendTimer.freeze (now : Ms) : ResendTimer → ResendTimer
  | .running d => .frozen (d - now)
  | t => t

/-- A training try at the target begins: its training time runs, and its first training record comes no earlier than
125 ms from now (R73, R82). -/
def Quality.startTry (k : Quality) (now : Ms) (kind : TryKind) : Quality :=
  { k with rc := .retraining, tryKind := kind, tryQt := none
           tryEnd := some (now + kind.time), nextTraining := some (now + Config.recordMs) }

/-- A renegotiation begins: RATE goes ahead of every waiting frame and the RATE_OK wait of 2000 ms starts (R87). -/
def Line.renegotiate (now : Ms) (target : Nat) (cause : RateCause) (l : Line) : Line :=
  ({ l with
    quality := { l.quality with
      rc := .renegotiating, oldStep := l.quality.step, cause := some cause, target := some target, tries := 0
      lowRun := 0, highRun := 0, rateOkWait := some (now + 2000) }
    link := { l.link with
      rateWait := l.link.rateWait ++ [.rate target], resendTimer := l.link.resendTimer.freeze now } } : Line).kick now

/-- RETRAINING is entered at a target (R88, R89). -/
def Line.retrain (now : Ms) (target : Nat) (kind : TryKind) (l : Line) : Line :=
  { l with
    quality := { l.quality with target := some target, tries := 0, rateOkWait := none }.startTry now kind
    link.resendTimer := l.link.resendTimer.freeze now }

/-- A renegotiation is abandoned: the state returns to STEADY at the old step (R90). That the old step field becomes
absent with the cause and the target, and that a RATE or RATE_OK still waiting for the transmitter is not sent, are
DESIGN CHOICES (notes/assumptions/21.md). -/
def Line.abandonRate (now : Ms) (l : Line) : Line :=
  if l.quality.rc = .renegotiating then
    { l with
      quality := { l.quality with rc := .steady, cause := none, target := none, oldStep := none, rateOkWait := none }
      link := { l.link with rateWait := [], resendTimer := l.link.resendTimer.thaw now } }
  else l

/-- END is sent: the phase becomes CLOSING, the send queue is abandoned, and the END_OK wait starts (R114). Both begin
as END is made ready, also where the transmitter is still busy with another frame. DESIGN CHOICE
(notes/assumptions/21.md). -/
def Line.sendEnd (now : Ms) (l : Line) : Line :=
  ({ l with link := { l.link with
      phase := .closing, drainTimer := none, endOnSteady := false, endOkWait := some (now + 2000)
      sendQueue := [], resendWait := [], newWait := [], resendTimer := .stopped
      endWait := l.link.endWait ++ [.fin] } } : Line).kick now

/-- The drain wait has ended: END is sent now, after an abandoned renegotiation, or when STEADY returns (R113). -/
def Line.endDrain (now : Ms) (l : Line) : Line :=
  if l.quality.rc = .retraining then { l with link := { l.link with drainTimer := none, endOnSteady := true } }
  else (l.abandonRate now).sendEnd now

/-- The TX area holds nothing, or there is none. -/
def State.txEmpty (s : State) (i : LineId) : Bool :=
  match s.joined i .tx with
  | some k => decide ((s.area k).occupancy = 0)
  | none   => true

/-- The drain wait ends when the TX area and the send queue are empty (R113). -/
def State.checkDrain (s : State) (i : LineId) : State :=
  let l := s.line i
  if l.link.phase = .draining ∧ l.link.farEnd = none ∧ l.link.endOnSteady = false ∧ l.link.sendQueue = [] ∧
      s.txEmpty i = true then
    s.modLine i (Line.endDrain s.now)
  else s

/-- A drain wait looks for its end, and the transmitter for its next frame: END goes ahead of any other (R102, R113). -/
def State.pump (s : State) (i : LineId) : State := (s.checkDrain i).modLine i (Line.kick s.now)

/-! ## Acknowledgements (R104, R106, R107) -/

/-- An outcome at the tail of the history, whose oldest is dropped where it holds 16 (R107). -/
def pushOutcome (o : TryOutcome) (h : List TryOutcome) : List TryOutcome :=
  (if 16 ≤ h.length then h.drop 1 else h) ++ [o]

/-- An outcome enters the history, which Rate Control examines while it is STEADY (R86, R107). -/
def Line.enterOutcome (now : Ms) (l : Line) (o : TryOutcome) : Line :=
  let h := pushOutcome o l.link.history
  if l.quality.rc = .steady ∧ l.profile.errLimit ≤ h.count .retransmitted then
    let l1 := { l with link.history := [] }
    let c := l.quality.step.getD 0
    if l.quality.floor.getD 0 < c then l1.renegotiate now (c - 1) .errors else l1
  else { l with link.history := h }

/-- The distance from `base` to `n` modulo 64 (R104, R108). -/
def seqDistance (base n : Nat) : Nat := (n + 64 - base % 64) % 64

/-- The seq of the send queue's head, or N where it is empty (R104). -/
def Link.base (k : Link) : Nat := (k.sendQueue.head?.map SendEntry.seq).getD k.n

/-- An ACK, or the ack field of a DATA frame: the acknowledged frames leave the send queue, their outcomes enter the
history in seq order, and the resend timer is aimed at the new head (R104). A frame that waits for a busy transmitter
goes all the same: R105 says so of a RESEND taken first, and of any other it is a DESIGN CHOICE
(notes/assumptions/21.md). -/
def Line.acknowledge (now : Ms) (n : Nat) (l : Line) : Line :=
  let k := seqDistance l.link.base n
  if k = 0 ∨ l.link.sendQueue.length < k then l
  else
    let gone := l.link.sendQueue.take k
    let l1 := { l with link.sendQueue := l.link.sendQueue.drop k }
    let l2 := gone.foldl (fun acc e => acc.enterOutcome now (if e.retx then .retransmitted else .firstTry)) l1
    l2.aim now

/-- An acknowledgement falls due (R110). -/
def Line.makeAckDue (now : Ms) (l : Line) : Line :=
  match l.link.ackSpacing with
  | none   => { l with link := { l.link with ackWait := true, ackSpacing := some (now + 50) } }
  | some _ => { l with link.ackDue := true }

/-! ## Raising retry counts (R105, R106, R112) -/

def SendEntry.raise (e : SendEntry) : SendEntry := { e with retries := e.retries + 1, retx := true }

/-- The retry count of one entry is raised and its flag set. -/
def Link.raise (k : Link) (seq : Nat) : Link :=
  { k with sendQueue := k.sendQueue.map (fun e => if e.seq = seq then e.raise else e) }

/-- One of the entries whose counts have been raised has a count above the limit. -/
def Link.overLimit (k : Link) (raised : List Nat) (limit : Nat) : Bool :=
  k.sendQueue.any (fun e => raised.contains e.seq && decide (limit < e.retries))

/-- After the counts of the entries named have been raised: the call is released LINK_FAIL where one of them is above
retry_limit, and goes on otherwise, as it does where the call is already ending (R105, R106, R112, R116). -/
def State.afterRaise (s : State) (i : LineId) (raised : List Nat) (l : Line) : State :=
  if l.link.overLimit raised l.profile.retryLimit && l.link.ending.isNone then (s.setLine i l).release i .linkFail
  else s.setLine i (l.kick s.now)

/-! ## Delivery (R108, R109, R111) -/

/-- Room left in the line's RX area. -/
def State.rxRoom (s : State) (i : LineId) : Nat :=
  match s.joined i .rx with
  | some k => (s.area k).room
  | none   => 0

def State.appendRx (s : State) (i : LineId) (bs : List Byte) : State :=
  match s.joined i .rx with
  | some k => (s.append k bs).1
  | none   => s

/-- A frame due for delivery finds too little room: it is discarded, and PAUSE is made ready once (R111). -/
def Line.pausePeer (l : Line) : Line :=
  if l.link.localPaused then l
  else { l with link := { l.link with localPaused := true, pauseWait := l.link.pauseWait ++ [.pause] } }

/-- A frame's payload is delivered and E advances (R108). -/
def State.deliver (s : State) (i : LineId) (payload : List Byte) : State :=
  (s.appendRx i payload).modLine i (fun l =>
    ({ l with link := { l.link with
        e := (l.link.e + 1) % 64, requested := l.link.requested.filter (· != l.link.e) } } : Line).makeAckDue s.now)

/-- The hold list is examined: frames whose turn has come are delivered, or dropped for want of room (R108, R111). -/
def deliverHeld (i : LineId) : Nat → State → State
  | 0, s => s
  | n + 1, s =>
    match (s.line i).link.hold with
    | [] => s
    | (q, bs) :: t =>
      if q ≠ (s.line i).link.e then s
      else
        let s1 := s.modLine i (fun l => { l with link.hold := t })
        if bs.length ≤ s1.rxRoom i then deliverHeld i n (s1.deliver i bs)
        else s1.modLine i Line.pausePeer

/-- A frame placed in the hold list at the position of its distance from E (R109). -/
def insertHeld (e : Nat) (q : Nat) (bs : List Byte) : List (Nat × List Byte) → List (Nat × List Byte)
  | [] => [(q, bs)]
  | (q', bs') :: t =>
    if seqDistance e q < seqDistance e q' then (q, bs) :: (q', bs') :: t else (q', bs') :: insertHeld e q bs t

/-- The seqs from E up to the one before `q` that are neither held nor requested, in order (R109). -/
def Link.missing (k : Link) (q : Nat) : List Nat :=
  ((List.range (seqDistance k.e q)).map (fun d => (k.e + d) % 64)).filter
    (fun x => !(k.hold.any (fun h => h.1 == x)) && !(k.requested.contains x))

/-- A frame ahead of E is held, and a RESEND is requested for each seq found missing, unless the line has paused the
far end (R109). -/
def Line.holdFrame (q : Nat) (bs : List Byte) (l : Line) : Line :=
  if l.link.hold.any (fun h => h.1 == q) then l
  else
    let k := { l.link with hold := insertHeld l.link.e q bs l.link.hold }
    if k.localPaused then { l with link := k }
    else { l with link := { k with
      requestWait := k.requestWait ++ k.missing q, requested := k.requested ++ k.missing q } }

/-- A received DATA frame is judged by its distance from E (R108). -/
def State.receiveData (s : State) (i : LineId) (q : Nat) (bs : List Byte) : State :=
  let k := (s.line i).link
  let d := seqDistance k.e q
  if d = 0 then
    if bs.length ≤ s.rxRoom i then deliverHeld i (k.hold.length) (s.deliver i bs)
    else s.modLine i Line.pausePeer
  else if d < k.window.getD 1 then s.modLine i (Line.holdFrame q bs)
  else s.modLine i (Line.makeAckDue s.now)

/-- A removal from the RX area that leaves it at or below its low mark ends the line's own pause (R111). -/
def State.checkResume (s : State) (i : LineId) : State :=
  match s.joined i .rx with
  | none => s
  | some k =>
    if (s.line i).link.localPaused ∧ (s.area k).occupancy ≤ (s.area k).low then
      s.modLine i (fun l => ({ l with link := { l.link with
        localPaused := false, pauseWait := l.link.pauseWait ++ [.resume] } } : Line).kick s.now)
    else s

/-- Link frames are taken in LINKED, DRAINING and CLOSING, but while the Datapump retrains (R101). -/
def Line.takesLink (l : Line) : Bool :=
  match l.link.phase with
  | .linked | .draining | .closing => decide (l.quality.rc ≠ .retraining)
  | _ => false

/-! ## Forming frames (R103) -/

/-- A new DATA frame may be formed on the line, TX bytes apart (R103). -/
def Line.mayForm (l : Line) : Bool :=
  (decide (l.link.phase = .linked) || decide (l.link.phase = .draining)) && l.link.farEnd.isNone &&
  !l.link.endOnSteady && decide (l.link.sendQueue.length < l.link.window.getD 0) && !l.link.peerPaused &&
  decide (l.quality.rc = .steady) && l.link.resendWait.isEmpty

/-- The TX area holds 128 bytes, or a byte that has waited 20 ms (R103). -/
def State.txReady (s : State) (i : LineId) : Bool :=
  match s.joined i .tx with
  | none => false
  | some k =>
    decide (128 ≤ (s.area k).occupancy) ||
    (match s.oldestByteTime i with
     | some t => decide (t + 20 ≤ s.now)
     | none   => false)

/-- A new frame is formed from the oldest 128 bytes, or all there are, with seq N (R103). -/
def State.formFrame (s : State) (i : LineId) : State :=
  match s.joined i .tx with
  | none => s
  | some k =>
    let r := s.remove k 128
    (r.2.modLine i (fun l => { l with link := { l.link with
        sendQueue := l.link.sendQueue ++ [{ seq := l.link.n, payload := r.1 }]
        newWait := l.link.newWait ++ [(l.link.n, r.1)], n := (l.link.n + 1) % 64 } })).pump i

/-! ## The start of a data call (R80, R96 to R99) -/

/-- The line's own capability record (R99). -/
def State.ownCapability (s : State) (c : CallCopies) : Capability :=
  ⟨(ladderStep s.dataLadder c.dataCeiling).rate, c.windowMax, c.blockCorrection⟩

/-- The copies of the data steps clamped at the binding (R80). -/
def CallCopies.bindData (ladder : List LadderStep) (c : CallCopies) : CallCopies :=
  { c with dataFloor := clampStep ladder c.dataFloor, dataStart := clampStep ladder c.dataStart
           dataCeiling := clampStep ladder c.dataCeiling }

/-- A data job starts, in DATA or in LOOPBACK, with its role: the quality state is set, the ladder bound, and the
handshake begun; an empty ladder releases the call TRAIN_FAIL (R74, R80, R96 to R98). The line's own capabilities are
recorded at once, before any CAPS is sent: DESIGN CHOICE (notes/assumptions/21.md). -/
def State.startData (s : State) (i : LineId) (role : LinkRole) : State :=
  let s1 := s.modLine i (fun l =>
    let c := l.copies.bindData s.dataLadder
    { l with copies := c, quality := { floor := some c.dataFloor } })
  if s.dataLadder.isEmpty then s1.release i .trainFail
  else
    let own := s1.ownCapability (s1.line i).copies
    match role with
    | .answer =>
      (s1.modLine i (fun l => { l with link :=
        { phase := .answerTone, role := some .answer, own := some own, toneEnd := s.start 3000 } })).generate i
        .dataAnswer 3000
    | .originate =>
      s1.modLine i (fun l => { l with link :=
        { phase := .exchange, role := some .originate, own := some own, exchangeTimer := s.start 6000
          capsSent := if l.state = .loopback then 1 else 0 } })

/-- The agreed ceiling of a capability exchange (R99). -/
def State.agreedCeiling (s : State) (c : CallCopies) (own peer : Capability) : Option Nat :=
  highestRate s.dataLadder (min own.rate peer.rate) (c.dataCeiling + 1)

/-- The window of a capability exchange; a peer window outside 1..15 is brought into it (R99). -/
def agreedWindow (c : CallCopies) (peer : Capability) : Nat := min c.windowMax (max 1 (min 15 peer.window))

/-- The exchange is complete: ceiling and window are agreed and the first training begins, or the call is released
TRAIN_FAIL (R81, R99). -/
def State.completeExchange (s : State) (i : LineId) (peer : Capability) : State :=
  let l := s.line i
  let own := l.link.own.getD ⟨0, 0, false⟩
  let answers := decide (l.link.role = some .originate) && decide (l.state ≠ .loopback)
  let s1 := s.modLine i (fun l => { l with link := { l.link with
    peer := some peer, exchangeTimer := none, capsRepeat := none
    capsSent := if answers then 1 else l.link.capsSent } })
  match s.agreedCeiling l.copies own peer with
  | none => s1.release i .trainFail
  | some c =>
    if c < l.quality.floor.getD 0 then s1.release i .trainFail
    else s1.modLine i (fun l => { l with
      link := { l.link with phase := .training, window := some (agreedWindow l.copies peer) }
      quality := { l.quality with
        ceiling := some c, target := some (min l.copies.dataStart c), tries := 0 }.startTry s.now .full })

/-! ## The outcome of a training (R82, R91) -/

/-- A try that ends succeeds: locked, a valid training record, and qt at least D of the target (R82). -/
def Quality.trySucceeds (k : Quality) (ladder : List LadderStep) (locked : Bool) : Option Nat :=
  match k.tryQt with
  | some qt => if locked ∧ (ladderStep ladder (k.target.getD 0)).d ≤ qt then some qt else none
  | none    => none

/-- The quality state after a successful training at the target; with the first of the call the measurement records
begin (R73, R77, R82, R91). In STEADY the tries are 0: R82 says only that each try raises them. DESIGN CHOICE
(notes/assumptions/17.md). -/
def Quality.trained (k : Quality) (now : Ms) (qt : Nat) : Quality :=
  { k with step := k.target, a := 8 * qt, lowRun := 0, highRun := 0, rc := .steady, target := none, tries := 0
           oldStep := none, cause := none, tryQt := none, tryEnd := none, nextTraining := none
           nextRecord := k.nextRecord.or (some (now + Config.recordMs)) }

/-- The line after a successful training: STEADY, an empty history, the final rate step written (R82, R91). -/
def Line.trained (now : Ms) (qt : Nat) (l : Line) : Line :=
  let l1 := { l with
    quality := l.quality.trained now qt
    link := { l.link with history := [], resendTimer := l.link.resendTimer.thaw now
                          phase := (if l.link.phase = LinkPhase.training then LinkPhase.linked else l.link.phase) } }
  l1.modCall (fun c => { c with finalStep := l.quality.target })

/-- The notice a successful training gives: CONNECTED for the call's first, RATE_CHANGED for any later (R91, R100). -/
def State.trainedNotice (s : State) (l : Line) (qt : Nat) : Notice :=
  let t := l.quality.target.getD 0
  if l.link.phase = .training then
    .connected (.data t (ladderStep s.dataLadder t).rate (l.link.window.getD 0))
  else .rateChanged (l.quality.oldStep.getD 0) t (l.quality.cause.getD .peer) qt

/-- A failed try is tried again, drops a step, or releases the call TRAIN_FAIL (R82). -/
def State.tryFailed (s : State) (i : LineId) : State :=
  let k := (s.line i).quality
  if k.tries + 1 < 2 then
    s.modLine i (fun l => { l with quality := { l.quality with tries := l.quality.tries + 1 }.startTry s.now .full })
  else if k.floor.getD 0 < k.target.getD 0 then
    s.modLine i (fun l => { l with
      quality := { l.quality with target := some (l.quality.target.getD 0 - 1), tries := 0 }.startTry s.now .full })
  else s.release i .trainFail

/-- A successful training: the notice is queued and what was held goes (R82, R91, R113). -/
def State.trySucceeded (s : State) (i : LineId) (qt : Nat) : State :=
  let l := s.line i
  let s1 := (s.modLine i (Line.trained s.now qt)).notifyLine i (s.trainedNotice l qt)
  if l.link.endOnSteady then s1.modLine i (Line.sendEnd s.now) else s1.pump i

/-! ## Hanging up a data call (R17, R90, R100, R113) -/

/-- HANG_UP on a line with a data job (R113). -/
def State.hangUpData (s : State) (i : LineId) (drain : Bool) : State :=
  let l := s.line i
  if l.link.farEnd.isSome then s
  else match l.link.phase with
  | .closing => s
  | .linked | .draining =>
    if l.quality.rc = .retraining then s.release i .locally
    else
      let s1 := s.modLine i (Line.abandonRate s.now)
      if l.link.phase = .draining ∨ drain = false then s1.modLine i (Line.sendEnd s.now)
      else (s1.modLine i (fun l => { l with link := { l.link with
              phase := .draining, drainTimer := s.start 10000 } })).pump i
  | _ => s.release i .locally

end Sys2Proof.Machine
end

