-- ==== Sys2Proof/Machine/Fax.lean ====
section
/-! DEFINITION. The Fax Engine: its two halves, the control messages, training, sending, receiving and judging pages,
and the end of a fax call (R94, R117 to R138). -/

namespace Sys2Proof.Machine

/-! ## The two ends -/

/-- The half of a line's Fax Engine that has a role: the fax record, or in LOOPBACK the receiving half (R117, R138). -/
def Line.half (l : Line) : FaxRole → Option Fax
  | .sender   => if l.fax.role = some .sender then some l.fax else none
  | .receiver => l.receiver?

def Line.modHalf (l : Line) (r : FaxRole) (f : Fax → Fax) : Line :=
  match r with
  | .sender   => if l.fax.role = some .sender then { l with fax := f l.fax } else l
  | .receiver => l.modReceiver f

def State.modFax (s : State) (i : LineId) (r : FaxRole) (f : Fax → Fax) : State :=
  s.modLine i (fun l => l.modHalf r f)

/-- The half is the receiving half of a fax job in LOOPBACK (R138). -/
def Line.isEcho (l : Line) (r : FaxRole) : Bool := decide (r = .receiver) && decide (l.fax.role ≠ some .receiver)

/-- A tone that a half has asked for stops; in LOOPBACK the receiving half has its own (R120, R138). -/
def Line.halfToneOff (r : FaxRole) (l : Line) : Line :=
  if l.isEcho r then { l with tone.echoGen := none } else { l with tone.gen := none }

/-- The receiving half of a fax job in LOOPBACK is over (R138). -/
def Line.noEcho (l : Line) : Line := { l with faxEcho := {}, tone.echoGen := none }

/-- How long a message waits for its response: 3000 ms, after the check of 1500 ms where it is a CHOOSE (R119, R122). -/
def FaxMsg.wait : FaxMsg → Ms
  | .choose _ _ _ => 4500
  | _ => 3000

/-- A message that awaits a response is sent, for the `n`th time (R119). -/
def Fax.await (now : Ms) (m : FaxMsg) (n : Nat) (f : Fax) : Fax :=
  { f with sent := some m, awaited := some ⟨m, n, now + m.wait⟩ }

/-- A receiver sends a response and starts its receive wait of 9000 ms (R119). -/
def Fax.respond (now : Ms) (m : FaxMsg) (f : Fax) : Fax :=
  { f with sent := some m, recvWait := some (now + 9000) }

/-- Block correction is on in the terms of the call. -/
def Fax.corrects (f : Fax) : Bool := (f.terms.map FaxTerms.blockCorrection).getD false

/-- The Fax Engine enters CLOSE and sends END; the call is released with the reason when END has been transmitted
(R136). -/
def Fax.close (why : EndReason) (f : Fax) : Fax :=
  { f with phase := .close, closing := some why, sent := some .fin, awaited := none, recvWait := none, fill := none
           toneEnd := none, lockWait := none, checking := false }

/-- A sender stops reading its document where it stands: the Store Controller fills the area no further, and the area
keeps its bytes (R72, R148). -/
def Line.halfStageOff (r : FaxRole) (l : Line) : Line := if r = .sender then { l with stage := .idle } else l

/-- A fax call ends for a cause that sends END where the negotiation is complete, and is released at once where it is
not (R136); the receiving half in LOOPBACK ends by itself (R138). -/
def State.endFax (s : State) (i : LineId) (r : FaxRole) (why : EndReason) : State :=
  match (s.line i).half r with
  | none => s
  | some f =>
    if f.phase = .close then s
    else if f.terms.isSome then
      (s.modFax i r (Fax.close why)).modLine i (fun l => (l.halfToneOff r).halfStageOff r)
    else if (s.line i).isEcho r then s.modLine i Line.noEcho
    else s.release i why

/-- HANG_UP on a line with a fax job (R136). -/
def State.hangUpFax (s : State) (i : LineId) : State :=
  match (s.line i).fax.role with
  | some r => s.endFax i r .locally
  | none   => s.release i .locally

/-! ## The start of the job (R80, R118, R120, R138) -/

/-- The copies of the fax steps clamped at the binding (R80). -/
def CallCopies.bindFax (ladder : List LadderStep) (c : CallCopies) : CallCopies :=
  { c with faxFloor := clampStep ladder c.faxFloor, faxCeiling := clampStep ladder c.faxCeiling }

/-- The quality state and the binding of a fax job start (R74, R80). -/
def Line.bindFax (ladder : List LadderStep) (l : Line) : Line :=
  let c := l.copies.bindFax ladder
  { l with copies := c, quality := { floor := some c.faxFloor } }

/-- A receiver begins in ESTABLISH with FAX_ANSWER for 3000 ms (R118, R120). -/
def State.startFaxReceiver (s : State) (i : LineId) : State :=
  let s1 := s.modLine i (Line.bindFax s.faxLadder)
  if s.faxLadder.isEmpty then s1.release i .trainFail
  else
    (s1.modLine i (fun l => { l with fax :=
      { phase := .establish, role := some .receiver, toneEnd := s.start 3000 } })).generate i .faxAnswer 3000

/-- The receiving half of a fax job in LOOPBACK begins as a receiver, with FAX_ANSWER for 3000 ms (R118, R120, R138). -/
def State.startFaxEcho (s : State) (i : LineId) : State :=
  (s.modLine i (fun l => { l with faxEcho :=
    { phase := .establish, role := some .receiver, toneEnd := s.start 3000 } })).generateEcho i .faxAnswer 3000

/-- A sender begins in ESTABLISH with FAX_CALL for 15000 ms; in LOOPBACK the receiving half begins beside it
(R118, R120, R138). -/
def State.startFaxSender (s : State) (i : LineId) : State :=
  let s1 := s.modLine i (Line.bindFax s.faxLadder)
  if s.faxLadder.isEmpty then s1.release i .trainFail
  else
    let s2 := (s1.modLine i (fun l => { l with
      fax := { phase := .establish, role := some .sender, source := l.faxSource, toneEnd := s.start 15000 }
      faxEcho := {} })).generate i .faxCall 15000
    if (s2.line i).state = .loopback then s2.startFaxEcho i else s2

/-- The OFFER a receiver makes (R121). -/
def State.offer (s : State) (c : CallCopies) : FaxMsg :=
  .offer (ladderStep s.faxLadder c.faxCeiling).rate [.normal, .fine] c.blockCorrection

/-! ## Training, at the sender (R119, R122) -/

/-- A training at a step begins with its CHOOSE. -/
def Fax.choose (now : Ms) (step : Nat) (f : Fax) : Fax :=
  let t := f.terms.getD ⟨step, .normal, false⟩
  ({ f with phase := .train, step := some step, fill := none } : Fax).await now (.choose step t.res t.blockCorrection) 1

/-- A training begins at a step with no try counted yet (R122, R128, R131). -/
def Fax.train (now : Ms) (step : Nat) (next : AfterTrain) (f : Fax) : Fax :=
  ({ f with tries := 0, afterTrain := next } : Fax).choose now step

/-- The step a sender chooses on an OFFER (R121). -/
def State.chosenStep (s : State) (c : CallCopies) (rate : Nat) : Option Nat :=
  highestRate s.faxLadder rate (c.faxCeiling + 1)

/-! ## Sending pages (R123 to R125) -/

/-- A line-end pattern is sought in the next byte of a page; `lost` marks the line bad first (R126). -/
def PageTally.byte (lost : Bool) (t : PageTally) (b : Byte) : PageTally :=
  let bad := t.lineBad || lost
  if b = 0 then { t with lineBad := bad, zeros := min 2 (t.zeros + 1) }
  else if b = 1 ∧ t.zeros = 2 then
    let run := if bad then t.run + 1 else 0
    { t with lines := t.lines + 1, bad := if bad then t.bad + 1 else t.bad, run := run, longest := max t.longest run
             lineBad := false, zeros := 0 }
  else { t with lineBad := bad, zeros := 0 }

/-- A count of a fax call, saturating at 255 (R123). -/
def up255 (n : Nat) : Nat := min 255 (n + 1)

/-- A page's transmission begins (R123). -/
def Fax.beginPage (f : Fax) : Fax :=
  { f with pageNo := up255 f.pageNo, tally := {}, begun := true, ended := none, fill := none, block := {} }

/-- The document a sender reads its pages from. -/
def State.document (s : State) (f : Fax) : Option Entry :=
  match f.source with
  | some (.store id) => s.entry? id
  | _ => none

/-- The TX area holds a byte or a page mark (R124). -/
def State.txHolds (s : State) (i : LineId) : Bool :=
  match s.joined i .tx with
  | some k => decide (0 < (s.area k).occupancy) || !(s.area k).marks.isEmpty
  | none   => false

/-- A store sender's page begins: the range of its page record is read through the STAGE area (R125). A document with no
page record is sent as one empty page: DESIGN CHOICE (notes/assumptions/12.md). -/
def State.beginStorePage (s : State) (i : LineId) : State :=
  let f := (s.line i).fax
  let s1 := s.modFax i .sender Fax.beginPage
  match s.document f with
  | none => s1
  | some e =>
    let p := e.pages.getD f.docPos ⟨0, 0, .good, false⟩
    s1.startReading i e.id p.start p.length

/-- A sender goes to its next page: from the store it begins at once, from the host it is awaited for 5000 ms unless
the TX area already holds something (R124, R125). -/
def State.nextPage (s : State) (i : LineId) : State :=
  let s1 := s.modFax i .sender (fun f => { f with phase := .page, awaited := none })
  match (s1.line i).fax.source with
  | some (.store _) => s1.beginStorePage i
  | _ => if s1.txHolds i then s1 else s1.modFax i .sender (fun f => { f with fill := s.start 5000 })

/-- MORE_PAGES or LAST_PAGE closes the page that was sent (R123). -/
def Fax.closePage (now : Ms) (m : PageMark) (f : Fax) : Fax :=
  ({ f with phase := .afterPage, fill := none } : Fax).await now
    (match m with | .more => .morePages | .last => .lastPage) 1

/-- Frames a block in hand is cut into (R129). -/
def BlockState.frames (b : BlockState) : Nat := (b.bytes.length + 127) / 128

/-- All the seqs of the block in hand. -/
def BlockState.seqs (b : BlockState) : List Nat := List.range b.frames

/-- The frames named of the block in hand go in the round given, and BLOCK_END after them (R129, R131). -/
def Fax.sendRound (now : Ms) (round : Nat) (seqs : List Nat) (f : Fax) : Fax :=
  ({ f with phase := .page, fill := none
            block := { f.block with count := f.block.frames, round := round, sending := seqs } } : Fax).await
    now (.blockEnd f.block.number f.block.frames) 1

/-- A block whose frames are all formed is sent in round 1 (R129). -/
def Fax.blockEnd (now : Ms) (f : Fax) : Fax := f.sendRound now 1 f.block.seqs

/-- The area a sender takes its page bytes from. -/
def State.pageArea (s : State) (i : LineId) : Option AreaId :=
  match (s.line i).fax.source with
  | some (.store _) => s.joined i .stage
  | _ => s.joined i .tx

/-- The end of the page is reached: the last block is closed first where block correction is on (R123, R129). -/
def State.pageEnds (s : State) (i : LineId) (m : PageMark) : State :=
  s.modFax i .sender (fun f =>
    let f := { f with ended := some m }
    if f.corrects && !f.block.bytes.isEmpty then f.blockEnd s.now else f.closePage s.now m)

/-- A byte or a mark that reaches the TX area ends a page-data wait or a spell of fill (R124). -/
def State.faxTxArrives (s : State) (i : LineId) : State :=
  if (s.line i).fax.source = some .host then s.modFax i .sender (fun f => { f with fill := none }) else s

/-- The page just sent was the last to send; for a store sender no resend is due (R128, R136). -/
def State.lastToSend (s : State) (i : LineId) (v : Verdict) : Bool :=
  let f := (s.line i).fax
  match f.source with
  | some (.store _) => decide (f.ended = some .last) && !(decide (v = .bad) && decide (f.docResends < 2))
  | _ => decide (f.ended = some .last)

/-- A store sender's place after a verdict: the same record again, at most twice, or the next (R125). -/
def Fax.afterVerdict (v : Verdict) (f : Fax) : Fax :=
  match f.source with
  | some (.store _) =>
    if v = .bad ∧ f.docResends < 2 then { f with docResends := f.docResends + 1 }
    else { f with docPos := f.docPos + 1, docResends := 0 }
  | _ => f

/-- A training the sender's verdict asks for, at the retrain target of R94 (R128). -/
def State.retrainFax (s : State) (i : LineId) (q : Nat) : State :=
  let l := s.line i
  let t := retrainTarget s.faxLadder l.copies.faxFloor (l.fax.step.getD 0) q
  s.modFax i .sender (Fax.train s.now t .page)

/-! ## Receiving pages (R126, R130 to R135) -/

/-- The receiver writes to the store: its fax_to copy says so and it is no half of a LOOPBACK job (R118, R138). -/
def Line.faxToStore (l : Line) : Bool := !l.isEcho .receiver && decide (l.copies.faxTo = .store)

def Line.faxToHost (l : Line) : Bool := !l.isEcho .receiver && decide (l.copies.faxTo = .host)

/-- The first page of a receiver to the store asks for an entry to be opened; a refusal holds for the call (R133). -/
def State.openFaxEntry (s : State) (i : LineId) : State :=
  let l := s.line i
  if l.fax.entry.isSome || l.fax.refused then s
  else
    match s.openEntry .fax ((l.call.bind CallRecord.routing).elim 0 RoutingCopy.mailbox) (some i)
        (l.call.bind CallRecord.cid) none with
    | .error _ => s.modLine i (fun l => { l with fax.refused := true })
    | .ok (id, s1) =>
      s1.modLine i (fun l => { l.modCall (fun c => { c with messageId := some id }) with fax.entry := some id })

/-- A page begins at a receiver to the store: its entry, its place, and whether it is discarded (R133, R134). -/
def State.beginStoredPage (s : State) (i : LineId) : State :=
  let s1 := s.openFaxEntry i
  match (s1.line i).fax.entry.bind s1.entry? with
  | none => s1.modLine i (fun l => { l with fax.discard := true })
  | some e =>
    if Config.pageListMax ≤ e.pages.length then s1.modLine i (fun l => { l with fax.discard := true })
    else
      (s1.modLine i (fun l => { l with fax := { l.fax with discard := false, pageStart := e.length } })).startWriting i e.id

/-- A page begins at the receiver (R123, R126, R130). -/
def State.beginReceived (s : State) (i : LineId) : State :=
  let s1 := (s.modFax i .receiver (fun f => { f.beginPage with phase := .page, given := none })).modLine i
    (Line.recordsFrom s.now)
  if (s1.line i).faxToStore then s1.beginStoredPage i else s1

/-- A receiver takes a page now: it is between pages, or in one (R126, R134). -/
def Fax.takesPage (f : Fax) : Bool := decide (f.phase = .page) || (decide (f.phase = .afterPage) && !f.begun)

/-- The page in hand, begun here where it has not begun. -/
def State.ensurePage (s : State) (i : LineId) : State :=
  match (s.line i).receiver? with
  | some f => if f.begun then s else s.beginReceived i
  | none   => s

/-- Bytes of a page go where the receiver puts them; the number is how many were taken, and the rest are lost
(R132, R133, R138). -/
def State.putPage (s : State) (i : LineId) (bs : List Byte) : State × Nat :=
  let l := s.line i
  if l.faxToHost then
    if l.fax.heldMark.isSome then (s, 0)
    else match s.joined i .rx with
      | some k => s.append k bs
      | none   => (s, 0)
  else if l.faxToStore then
    if l.fax.discard then (s, bs.length)
    else match s.joined i .stage with
      | some k => s.append k bs
      | none   => (s, 0)
  else (s, bs.length)

/-- Bytes of a page arrive: they are put away, tallied, and what is lost is counted and marks its line (R126, R132). -/
def State.receivePage (s : State) (i : LineId) (bs : List Byte) : State :=
  let r := s.putPage i bs
  let s1 := r.1.modFax i .receiver (fun f =>
    { f with tally := (bs.drop r.2).foldl (PageTally.byte true) ((bs.take r.2).foldl (PageTally.byte false) f.tally) })
  s1.overrun i (bs.length - r.2)

/-- A block is delivered frame by frame, the STAGE area being written out after each (R130, R132, R133, R135). -/
def State.deliverFrame (i : LineId) (s : State) (payload : List Byte) : State :=
  let s1 := s.receivePage i payload
  if (s1.line i).faxToStore then s1.stageWrite i else s1

/-- A complete block: the frames below the count, in seq order; the reserved blocks left unused go back (R130, R135). -/
def State.deliverBlock (s : State) (i : LineId) (count : Nat) : State :=
  match (s.line i).receiver? with
  | none => s
  | some f =>
    let frames := (List.range count).filterMap (fun q => (f.block.got.find? (fun g => g.1 == q)).map Prod.snd)
    let s1 := frames.foldl (State.deliverFrame i) (if (s.line i).faxToStore then s.serveAll else s)
    let s2 := s1.modFax i .receiver (fun f => { f with block := { f.block with inHand := false } })
    match (s2.line i).fax.entry.bind s2.entry? with
    | some e => if (s2.line i).faxToStore then s2.freeTail e.id (blocksFor e.length) else s2
    | none   => s2

/-- The page could not be stored whole: it was truncated, or is one that is discarded (R133, R134). -/
def Line.pageCut (l : Line) : Bool := l.faxToStore && (l.fax.tally.truncated || l.fax.discard)

/-- A block begins at the receiver: its map is emptied, and a receiver to the store asks for 4 blocks for its entry (R130,
R135, R144). -/
def State.beginBlock (s : State) (i : LineId) (number : Nat) : State :=
  let s1 := s.modFax i .receiver (fun f => { f with block := { number := number, inHand := true } })
  match (s1.line i).fax.entry with
  | some id => if (s1.line i).faxToStore then s1.request ⟨id, .reserve, some i⟩ else s1
  | none => s1

/-- The seqs below the count that have not been received, in order (R130). -/
def BlockState.missing (b : BlockState) (count : Nat) : List Nat :=
  (List.range count).filter (fun q => !(b.got.any (fun g => g.1 == q)))

/-! ## Judging a page (R127, R131, R133, R134) -/

/-- The verdict by the tally, without block correction (R127). -/
def PageTally.verdict (t : PageTally) (p : Profile) (q d : Nat) : Verdict :=
  if t.lines = 0 then .bad
  else if t.bad * 100 ≤ p.goodPct * t.lines ∧ t.longest ≤ p.runLimit then (if q < d then .goodRetrain else .good)
  else if t.bad * 100 ≤ p.acceptPct * t.lines ∧ t.longest ≤ 2 * p.runLimit then .goodRetrain
  else .bad

/-- The verdict of a page being closed (R127, R131, R133). -/
def State.judge (s : State) (i : LineId) (f : Fax) : Verdict :=
  let l := s.line i
  if l.pageCut then .bad
  else if f.corrects then .good
  else f.tally.verdict l.profile l.quality.q (ladderStep s.faxLadder (l.quality.step.getD 0)).d

/-- Records in the page list of the entry a receiver writes. -/
def State.pageCount (s : State) (i : LineId) : Nat :=
  ((s.line i).fax.entry.bind s.entry?).elim 0 (fun e => e.pages.length)

/-- The page's record is appended to the page list (R133). -/
def State.recordPage (s : State) (i : LineId) (v : Verdict) : State :=
  let f := (s.line i).fax
  match f.entry.bind s.entry? with
  | some e =>
    if (s.line i).faxToStore && !f.discard then
      s.addPage e.id ⟨f.pageStart, e.length - f.pageStart, v, f.tally.truncated⟩
    else s
  | none => s

/-- The page mark that follows a verdict at a receiver to the host, held where the area holds 8 (R132). -/
def State.markPage (s : State) (i : LineId) (m : PageMark) : State :=
  if (s.line i).faxToHost then
    let hold : State → State := fun s => s.modLine i (fun l => { l with fax.heldMark := some m })
    if (s.line i).fax.heldMark.isSome then hold s
    else match (s.joined i .rx).bind (fun k => s.addMark k m) with
      | some s1 => s1
      | none    => hold s
  else s

/-- A mark held for want of room is added when the arbiter has taken one (R132). -/
def State.addHeldMark (s : State) (i : LineId) : State :=
  match (s.line i).fax.heldMark, s.joined i .rx with
  | some m, some k =>
    match s.addMark k m with
    | some s1 => s1.modLine i (fun l => { l with fax.heldMark := none })
    | none    => s
  | _, _ => s

/-- The receiver counts the page it has judged and reports it; the half in LOOPBACK reports nothing (R127, R138). -/
def State.reportPage (s : State) (i : LineId) (v : Verdict) : State :=
  match (s.line i).receiver? with
  | none => s
  | some f =>
    let s1 := s.modFax i .receiver (fun f => { f with pages := up255 f.pages })
    if (s1.line i).isEcho .receiver then s1
    else s1.notifyLine i (.pageDone f.pageNo v f.tally.lines (some f.tally.bad) (some f.tally.longest))

/-- The verdict is sent, and the receiver goes where it leads (R127). That a stop flag sent, or the last page, has been
judged is kept to the end of the call, also where the sender sends a further page: R136 does not say. DESIGN CHOICE
(notes/assumptions/24.md). -/
def Fax.giveVerdict (now : Ms) (v : Verdict) (stop : Bool) (q : Nat) (last : Bool) (f : Fax) : Fax :=
  ({ f with
    begun := false, discard := false, given := some (v, stop, q), stop := f.stop || stop, final := f.final || last || stop
    phase := if last || stop then .afterPage else if v = .good then .page else .train } : Fax).respond now
    (.verdict v stop q)

/-- A page is closed by MORE_PAGES or LAST_PAGE: drained, judged, recorded, answered, reported (R127, R131 to R134).
At LAST_PAGE the stop flag is set for a truncated page only, by R134, also where R133 sets it at every page of a
refused entry: DEDUCED (notes/assumptions/23.md). -/
def State.closeReceived (s : State) (i : LineId) (last : Bool) : State :=
  let low := decide (s.store.freeCount ≤ s.store.guard)
  let s1 := (s.ensurePage i).modFax i .receiver (fun f => { f with recvWait := none })
  let s2 := if (s1.line i).faxToStore then s1.drainStage i drainFuel else s1
  match (s2.line i).receiver? with
  | none => s2
  | some f =>
    let v := s2.judge i f
    let s3 := s2.recordPage i v
    let stop := (s3.line i).faxToStore &&
      (f.tally.truncated || (!last && (f.discard || low || decide (Config.pageListMax ≤ s3.pageCount i))))
    let s4 := (s3.reportPage i v).markPage i (if last then .last else .more)
    s4.modFax i .receiver (Fax.giveVerdict s.now v stop (s.line i).quality.q last)

/-! ## Training, at the receiver (R94, R122) -/

/-- The step of a training may be used by the receiver: it is in its own ladder and not above its ceiling (R122). -/
def State.stepAllowed (s : State) (l : Line) (step : Nat) : Bool :=
  decide (step < s.faxLadder.length) && decide (step ≤ l.copies.faxCeiling)

/-- CONNECTED of a fax call (R122). -/
def State.faxConnected (s : State) (i : LineId) (r : FaxRole) (f : Fax) : State :=
  let step := f.step.getD 0
  s.notifyLine i (.connected (.fax r step (ladderStep s.faxLadder step).rate
    ((f.terms.map FaxTerms.res).getD .normal) f.corrects))

/-- A training has succeeded at the receiver: without block correction a page left unclosed before it is over, so that the
next begins at its own signal or close (R126); with block correction the page in hand goes on (R131). -/
def Fax.trainedPage (f : Fax) : Fax := { f with begun := f.begun && f.corrects }

/-- The receiver answers TRAIN_OK: A, the step, the final rate step and the first CONNECTED (R122, R138). -/
def State.trainGood (s : State) (i : LineId) (f : Fax) (qt : Nat) : State :=
  let echo := (s.line i).isEcho .receiver
  let s1 := s.modLine i (fun l =>
    let l1 := { l with quality := { l.quality with a := 8 * qt, step := f.step } }
    (if echo then l1 else l1.modCall (fun c => { c with finalStep := f.step })).modHalf .receiver (fun f =>
      ({ f.trainedPage with phase := .page, trained := true, tries := 0, checking := false, checkQt := none
                            lockWait := none } : Fax).respond s.now .trainOk))
  if f.trained || echo then s1 else s1.faxConnected i .receiver f

/-- The receiver answers TRAIN_RETRY (R122). -/
def State.trainBad (s : State) (i : LineId) : State :=
  s.modFax i .receiver (fun f =>
    ({ f with checking := false, checkQt := none, lockWait := none } : Fax).respond s.now .trainRetry)

/-- The check counts as good: locked, a valid record, few enough wrong bits, and a step the receiver has (R122). -/
def State.checkGood (s : State) (l : Line) (f : Fax) (locked : Bool) (errors : Nat) : Option Nat :=
  let step := f.step.getD 0
  match f.checkQt with
  | some qt =>
    if locked && s.stepAllowed l step && decide (errors ≤ (ladderStep s.faxLadder step).trainLimit) then some qt
    else none
  | none => none

/-- A measurement record on a fax line: one of a training check gives qt, any other moves A and Q (R73, R94). -/
def Line.faxRecord (r : MeasRecord) (l : Line) : Line :=
  let k := l.quality.score r l.profile.impulsePenalty
  match l.receiver? with
  | none => l
  | some f =>
    if f.phase = .train then
      ({ l with quality := k } : Line).modReceiver (fun f =>
        { f with checking := true, checkQt := some k.lastS, lockWait := none })
    else { l with quality := { k with a := accumulate k.a k.lastS } }

end Sys2Proof.Machine
end

