-- ==== Sys2Proof/Machine/Voice.lean ====
section
/-! DEFINITION. The Voice Engine: the greeting and the record tone (R158, R159), recordings (R160 to R163), the switch
to FAX (R164), the hand-over to the host (R165), playbacks (R166 to R169), and the areas jobs need (R70). -/

namespace Sys2Proof.Machine

/-! ## Areas and jobs (R70, R71) -/

def State.hasArea (s : State) (i : LineId) (p : Purpose) : Bool := (s.joined i p).isSome

/-- The area a received fax needs, by the fax_to copy of the call. -/
def FaxTo.purpose : FaxTo → Purpose
  | .host => .rx
  | .store => .stage

/-- The areas an incoming call's job needs are joined, and which of them it uses (R70). -/
def State.incomingReady (s : State) (i : LineId) (c : CallCopies) : Job → Bool
  | .data  => s.hasArea i .tx && s.hasArea i .rx
  | .fax   => s.hasArea i c.faxTo.purpose
  | .voice => s.hasArea i .stage
  | .none  => true

/-- The areas an incoming job uses (R70), in the order in which they take their kind: DESIGN CHOICE
(notes/assumptions/11.md). -/
def incomingUses (c : CallCopies) : Job → List Purpose
  | .data  => [.tx, .rx]
  | .fax   => [c.faxTo.purpose]
  | .voice => [.stage, .rx, .tx]
  | .none  => []

/-! ## The end of the automatic sequence (R164, R165) -/

/-- The line passes to host control (R165). -/
def State.handOver (s : State) (i : LineId) : State :=
  (s.modLine i (fun l => { l with voice := { l.voice with mode := .host, activity := .none } })).notifyLine i
    (.connected .voice)

/-- What follows the end of an automatic recording: voice_hold decides (R165). -/
def State.afterAuto (s : State) (i : LineId) : State :=
  if (s.line i).profile.voiceHold then s.handOver i else s.release i .done

/-- What follows a VOICE_STOP of the automatic sequence: voice_hold decides (R170). -/
def State.afterStop (s : State) (i : LineId) : State :=
  if (s.line i).profile.voiceHold then s.handOver i else s.release i .locally

/-- A VOICE call becomes a FAX call received (R164). -/
def State.switchToFax (s : State) (i : LineId) : State :=
  let s1 := (s.stopStage i).modLine i (fun l => { l.modCall (fun c => { c with job := .fax }) with
    job := .fax, voice := {}, tone.sendQueue := [] })
  let c := (s1.line i).copies
  if s1.incomingReady i c .fax then
    (((s1.useAreas i (incomingUses c .fax) .page).pass i .fax)).startFaxReceiver i
  else s1.release i .locally

/-- A completed recording is followed by what its end asked for (R163 to R166, R170). -/
def State.afterRecording (s : State) (i : LineId) : AfterRec → State
  | .handOver  => s.afterAuto i
  | .switchFax => s.switchToFax i
  | .stopped   => s.afterStop i
  | .stayHost  => s

/-- A recording ends: to the host it is complete at once, to the store when RECORDING_COMPLETE is taken (R162, R163,
R166). -/
def State.finishRecording (s : State) (i : LineId) (why : RecEnd) (newLen : Nat) (next : AfterRec) : State :=
  match (s.line i).voice.recording with
  | none => s
  | some r =>
    if r.ended.isSome then s
    else
      let s1 := s.endRecording i why newLen next
      if r.entry.isSome then s1 else (s1.completeRecording i).afterRecording i next

/-! ## Recording (R160, R166) -/

/-- Coded bytes in one second at the coding bits given (R157). -/
def byteRate (bits : Nat) : Nat := 1000 * bits

/-- The recording fields at its start, read from the profile now (R160). -/
def State.newRecording (s : State) (i : LineId) (t : VoiceTarget) (kind : MsgKind) (mailbox : Nat)
    (entry : Option Nat) (watch : Bool) : Recording :=
  let l := s.line i
  let p := l.profile
  let opened := watch && decide (0 < p.faxWatchS)
  { target := t, kind := kind, mailbox := mailbox, entry := entry, bits := p.voiceBits
    limit := p.maxRecordS * byteRate p.voiceBits, watchOpen := opened
    watchEnd := if opened then s.start (p.faxWatchS * 1000) else none
    frameCount := if l.tone.frameStart = s.now then some 0 else none
    silenceEndS := p.silenceEndS, minMs := p.minRecordMs }

/-- Coding starts: the activity is RECORDING, and onsets before now stand at count 0 (R160, R162). -/
def Line.startCoding (r : Recording) (l : Line) : Line :=
  { l with
    tone.matchers := l.tone.matchers.map (fun m => { m with first := 0 })
    voice := { l.voice with activity := .recording, recording := some r } }

/-- A recording to the store begins; where the open is refused, nothing is coded and RECORD_DONE tells STORE_LOW
(R160). -/
def State.beginStored (s : State) (i : LineId) (kind : MsgKind) (mailbox : Nat) (watch : Bool) : State :=
  let l := s.line i
  let s0 := s.emptyStage i
  match s0.openEntry kind mailbox (some i) (l.call.bind CallRecord.cid) (some l.profile.voiceBits) with
  | .error _ =>
    ((s0.modLine i (fun l => { l with voice := l.voice.noRecording })).notifyLine i
      (.recordDone none 0 .storeLow)).afterRecording i l.voice.afterRecording
  | .ok (id, s1) =>
    (s1.startWriting i id).modLine i (Line.startCoding (s.newRecording i .store kind mailbox (some id) watch))

/-- A recording to the host begins (R166). R156 gives it a kind and a mailbox and R166 no values for them: VOICE and 0,
DESIGN CHOICE (notes/assumptions/25.md). -/
def State.beginHosted (s : State) (i : LineId) : State :=
  s.modLine i (Line.startCoding (s.newRecording i .host .voice 0 none false))

/-- The routing copy of the call in progress. -/
def Line.routing (l : Line) : Option RoutingCopy := l.call.bind CallRecord.routing

/-- The mailbox of the call's routing copy. -/
def Line.mailbox (l : Line) : Nat := l.routing.elim 0 RoutingCopy.mailbox

/-- The allowed mask of the call holds a job. -/
def Line.allows (l : Line) (j : Job) : Bool := l.routing.elim false (fun r => r.mask.has j)

/-- The recording of the automatic sequence begins (R160). -/
def State.beginAutoRecording (s : State) (i : LineId) : State :=
  s.beginStored i .voice (s.line i).mailbox ((s.line i).allows .fax)

/-! ## Greeting and record tone (R158, R159) -/

/-- The record tone begins; with record_tone_ms 0 the recording begins at once (R159). -/
def State.startRecordTone (s : State) (i : LineId) : State :=
  let ms := (s.line i).profile.recordToneMs
  if ms = 0 then s.beginAutoRecording i
  else (s.modLine i (fun l => { l with
      voice := { l.voice with activity := .recordTone, toneEnd := s.start ms } })).generate i .recordTone ms

/-- The greeting that can be played: present, the store FORMATTED, a GREETING not OPEN, a STAGE area joined (R158). -/
def State.playableGreeting (s : State) (i : LineId) : Option Entry :=
  match (s.line i).routing.bind RoutingCopy.greeting with
  | none => none
  | some id =>
    match s.entry? id with
    | some e =>
      if s.store.formatted ∧ e.kind = .greeting ∧ e.state ≠ .opened ∧ (s.joined i .stage).isSome then some e else none
    | none => none

/-- The greeting starts in mode AUTO; false where none can be played, so that it ends at once (R158). -/
def State.startGreeting (s : State) (i : LineId) : State × Bool :=
  let s1 := s.modLine i (fun l => { l with voice := { mode := .auto } })
  match s1.playableGreeting i with
  | none => (s1, false)
  | some e =>
    (((s1.markPlaying e.id i).startReading i e.id 0 e.length).modLine i (fun l => { l with
        voice := { l.voice with activity := .greeting, greeting := some e.id } }), true)

/-! ## Findings at the Voice Engine (R159, R162, R164, R168) -/

/-- The tones that end a recording, but for FAX_CALL (R162). -/
def ToneClass.endsRecording : ToneClass → Bool
  | .busy | .congestion | .dial => true
  | _ => false

/-- The activity is a greeting or a record tone. -/
def Voice.opening (v : Voice) : Bool := decide (v.activity = .greeting) || decide (v.activity = .recordTone)

/-- A confirmation during the greeting or the record tone of a line in VOICE (R159). -/
def State.openingTone (s : State) (i : LineId) (c : ToneClass) : State :=
  if c = .faxCall ∧ (s.line i).allows .fax then (s.stopGreeting i).switchToFax i
  else if c.endsRecording then ((s.stopGreeting i).notifyLine i (.recordDone none 0 .tone)).afterAuto i
  else s

/-- A confirmation during a recording (R162, R164, R166). -/
def State.recordingTone (s : State) (i : LineId) (r : Recording) (c : ToneClass) (first : Nat) : State :=
  let v := (s.line i).voice
  if r.ended.isSome then s
  else if c.endsRecording then s.finishRecording i .tone first v.afterRecording
  else if c = .faxCall ∧ v.mode = .auto then
    if (s.line i).allows .fax then
      if r.watchOpen then (s.discardRecording i r).switchToFax i
      else s.finishRecording i .tone first .switchFax
    else s.finishRecording i .tone first .handOver
  else s

/-- A tone confirmation reaches the Voice Engine; `first` is the coded count at the tone's first onset (R27). -/
def State.voiceTone (s : State) (i : LineId) (c : ToneClass) (first : Nat) : State :=
  let l := s.line i
  if !l.inVoice then s
  else if l.voice.mode = .auto ∧ l.voice.opening then s.openingTone i c
  else match l.voice.recording with
    | some r => s.recordingTone i r c first
    | none   => s

/-- A digit stops the greeting or the record tone; in VOICE the line passes to the host (R159). -/
def State.bargeIn (s : State) (i : LineId) : State :=
  let g := (s.line i).voice.greeting
  let s1 := ((s.stopGreeting i).modLine i (fun l => { l with voice := { l.voice with barge := true } })).notifyLine i
    (.playDone g .digit [])
  if (s1.line i).inVoice then s1.handOver i else s1

/-- A recognised digit reaches the Voice Engine (R36, R159, R162, R168). -/
def State.voiceDigit (s : State) (i : LineId) (d : Digit) : State :=
  let l := s.line i
  if !l.profile.bargeIn then s
  else match l.voice.activity with
    | .greeting | .recordTone => if l.voice.mode = .auto then s.bargeIn i else s
    | .recording =>
      if d = .hash then s.finishRecording i .digit l.voice.codedCount l.voice.afterRecording else s
    | .playing => s.endPlayback i .digit
    | .none => s

/-! ## Playback (R168) -/

/-- An id of a playback names an entry that can be played. -/
def State.playable (s : State) (id : Nat) : Option Entry :=
  match s.entry? id with
  | some e => if e.kind = .fax ∨ e.state = .opened then none else some e
  | none   => none

/-- An entry's turn: it is marked, and read whole through the STAGE area. -/
def State.playEntry (s : State) (i : LineId) (e : Entry) (pos : Nat) : State :=
  ((s.markPlaying e.id i).startReading i e.id 0 e.length).modLine i (fun l => { l with
    voice := { l.voice with playback := l.voice.playback.map (fun p =>
      { p with cur := some e.id, pos := pos, bits := e.bits.getD p.bits }) } })

/-- The ids of the list still to come take their turns: those that cannot be played are skipped, and after the last
the playback ends DONE. `pos` is the place of the first of them. -/
def State.playFrom (i : LineId) : List Nat → Nat → State → State
  | [], _, s => s.endPlayback i .done
  | id :: t, pos, s =>
    match s.playable id with
    | some e => s.playEntry i e pos
    | none =>
      State.playFrom i t (pos + 1) (s.modLine i (fun l => { l with
        voice := { l.voice with playback := l.voice.playback.map (fun p =>
          { p with skipped := p.skipped ++ [id], pos := pos + 1 }) } }))

/-- The last byte of the entry in play has been decoded: it becomes KEPT, and the next id takes its turn. -/
def State.entryPlayed (s : State) (i : LineId) : State :=
  match (s.line i).voice.playback with
  | none => s
  | some p =>
    match p.cur with
    | none => s
    | some id =>
      let s1 := (s.clearPlaying i).modEntry id (fun e => { e with state := .kept })
      let s2 := s1.modLine i (fun l => { l with
        voice := { l.voice with
          playback := l.voice.playback.map (fun p => { p with cur := none, last := some id })
          decoding := none } })
      State.playFrom i (p.ids.drop (p.pos + 1)) (p.pos + 1) s2

/-! ## Silence (R160, R162) -/

/-- A frame that began inside the recording has ended: the silent run goes on, begins, or is broken (R160). -/
def Recording.frame (silent : Bool) (r : Recording) : Recording :=
  match r.frameCount with
  | none   => { r with frameCount := some r.coded }
  | some c =>
    if silent then { r with silentStart := some (r.silentStart.getD c), silentFrames := r.silentFrames + 1
                            frameCount := some r.coded }
    else { r with silentStart := none, silentFrames := 0, frameCount := some r.coded }

/-- A frame's finding reaches the recording in hand; a run of silence_end_s ends it (R162). -/
def State.recordFrame (s : State) (i : LineId) (silent : Bool) : State :=
  match (s.line i).voice.recording with
  | none => s
  | some r =>
    if r.ended.isSome then s
    else
      let r1 := r.frame silent
      let s1 := s.modLine i (fun l => { l with voice := { l.voice with recording := some r1 } })
      if r1.silentStart.isSome ∧ runReaches r1.silentFrames (r1.silenceEndS * 1000) then
        s1.finishRecording i .silence (r1.newLength .silence) (s1.line i).voice.afterRecording
      else s1

end Sys2Proof.Machine
end

