-- ==== Sys2Proof/Machine/Routing.lean ====
section
/-! DEFINITION. The caller identity receiver and its window (R38 to R41), the routing table and decision (R46, R51 to
R55), and the classification of an answered call (R42 to R44). -/

namespace Sys2Proof.Machine

/-! ## Caller identity messages (R40) -/

/-- The value of an ASCII digit character. -/
def digitChar? (b : Byte) : Option Nat :=
  if 0x30 ≤ b.toNat ∧ b.toNat ≤ 0x39 then some (b.toNat - 0x30) else none

/-- Two digit characters read as a number. -/
def twoDigits (a b : Byte) : Option Nat :=
  match digitChar? a, digitChar? b with
  | some x, some y => some (10 * x + y)
  | _, _ => none

/-- A date and time whose fields are in range (R40). -/
def CidDate.valid (d : CidDate) : Bool :=
  decide (1 ≤ d.month) && decide (d.month ≤ 12) && decide (1 ≤ d.day) && decide (d.day ≤ 31) &&
  decide (d.hour ≤ 23) && decide (d.minute ≤ 59)

/-- A date-time field of eight digit characters. -/
def cidDate? : List Byte → Option CidDate
  | [a, b, c, d, e, f, g, h] =>
    match twoDigits a b, twoDigits c d, twoDigits e f, twoDigits g h with
    | some mo, some da, some ho, some mi => if CidDate.valid ⟨mo, da, ho, mi⟩ then some ⟨mo, da, ho, mi⟩ else none
    | _, _, _, _ => none
  | _ => none

/-- A withheld reason from its first character: P or U. -/
def withheld? : List Byte → Option Withheld
  | b :: _ => if b = 0x50 then some .priv else if b = 0x55 then some .unavailable else none
  | [] => none

/-- One field applied to the record; a field not taken leaves it (R40). -/
def CidRecord.field (r : CidRecord) (code : Byte) (cs : List Byte) : CidRecord :=
  if code = 0x21 then (match cidDate? cs with | some d => { r with date := some d } | none => r)
  else if code = 0x22 then (if cs.isEmpty then r else { r with number := some (cs.take 15) })
  else if code = 0x23 then (if cs.isEmpty then r else { r with name := some (cs.take 15) })
  else if code = 0x24 then (match withheld? cs with | some w => { r with numberWithheld := some w } | none => r)
  else if code = 0x25 then (match withheld? cs with | some w => { r with nameWithheld := some w } | none => r)
  else r

/-- The fields of a message applied in order; none where a field runs past the end (R40). A last code byte with no
length byte is taken as such a field: the spec speaks only of the length. DESIGN CHOICE (notes/assumptions/19.md). -/
def cidFields : Nat → List Byte → CidRecord → Option CidRecord
  | 0, _, r => some r
  | _ + 1, [], r => some r
  | _ + 1, [_], _ => none
  | n + 1, c :: l :: t, r =>
    if l.toNat ≤ t.length then cidFields n (t.drop l.toNat) (r.field c (t.take l.toNat)) else none

/-- The record of a complete message of type 0x3A, from its type byte to its check byte (R40). -/
def cidMessage (bytes : List Byte) : CidRecord :=
  let body := (bytes.drop 2).dropLast
  if (bytes.foldl (fun n b => n + b.toNat) 0) % 256 ≠ 0 then { status := .damaged }
  else (cidFields (body.length + 1) body { status := .complete }).getD { status := .damaged }

/-! ## The receiver (R39) -/

/-- A byte of eight data bits, the least significant received first. -/
def byteOfBits (bits : List Bool) : Byte := byte (bits.foldr (fun b n => (if b then 1 else 0) + 2 * n) 0)

/-- A message has ended: of type 0x3A it sets the record, of any other type it is discarded and hunting begins again.
The flag says that the window is to close (R38, R39). -/
def CidRx.finish (c : CidRx) (whole : Bool) : CidRx × Bool :=
  if c.bytes.head? = some 0x3A then
    ({ c with bytes := [], cond := .hunting 0, record := if whole then cidMessage c.bytes else { status := .damaged } },
      true)
  else ({ c with bytes := [], cond := .hunting 0 }, false)

/-- The bytes received are a whole message: type, length, that many bytes, and the check byte. -/
def wholeMessage : List Byte → Bool
  | _ :: l :: t => decide (t.length = l.toNat + 1)
  | _ => false

/-- One demodulated bit (R39). A type byte without its stop bit is received as no type, whatever its data bits: its
message is discarded, and the receiver hunts again with the window open. DESIGN CHOICE (notes/assumptions/19.md). -/
def CidRx.bit (c : CidRx) (b : Bool) : CidRx × Bool :=
  match c.cond with
  | .hunting n =>
    if b then ({ c with cond := if n + 1 < 60 then .hunting (n + 1) else .synchronised }, false)
    else ({ c with cond := .hunting 0 }, false)
  | .synchronised => ({ c with cond := if b then .synchronised else .inByte [] }, false)
  | .between n =>
    if b then (if n < 10 then ({ c with cond := .between (n + 1) }, false) else c.finish false)
    else ({ c with cond := .inByte [] }, false)
  | .inByte bits =>
    if bits.length < 8 then ({ c with cond := .inByte (bits ++ [b]) }, false)
    else if b then
      let c1 := { c with bytes := c.bytes ++ [byteOfBits bits], cond := CidCond.between 0 }
      if wholeMessage c1.bytes then c1.finish true else (c1, false)
    else c.finish false

/-- Bits received in order, until the end of a message closes the window (R38, R39). -/
def CidRx.feed (c : CidRx) : List Bool → CidRx × Bool
  | [] => (c, false)
  | b :: t => match c.bit b with
    | (c', true)  => (c', true)
    | (c', false) => c'.feed t

/-! ## The window (R38, R41) -/

/-- The record as the window closes with no message ended in it: an unfinished message of type 0x3A is damaged, and with
no other the record is NONE (R39, R40). -/
def CidRx.unfinished (c : CidRx) : CidRecord :=
  { status := if c.bytes.head? = some 0x3A then .damaged else .none }

/-- The clock takes the hour and minute of a caller identity message (R41, R59). -/
def State.clockFromCid (s : State) (d : CidDate) : State :=
  { s with clock := { s.clock with minute := d.hour * 60 + d.minute, isSet := true, elapsed := 0 } }

/-- The window closes on a record: it is written to the call record, reported, and may set the clock (R41). -/
def State.closeWindowOn (s : State) (i : LineId) (r : CidRecord) : State :=
  let l := s.line i
  if l.tone.cid.window = .closed then s
  else
    let s1 := s.modLine i (fun l => { l.modCall (fun c => { c with cid := some r }) with
      tone.cid := { window := .closed, record := r } })
    let s2 := if r.status = .none then s1 else s1.notifyLine i (.callerId r)
    match r.date with
    | some d => if l.profile.cidSetsClock && decide (r.status = .complete) then s2.clockFromCid d else s2
    | none   => s2

/-- The window closes at an event other than the end of a message (R38). -/
def State.closeWindow (s : State) (i : LineId) : State := s.closeWindowOn i (s.line i).tone.cid.unfinished

/-! ## Matching (R46) -/

/-- The ring condition of an entry. A pattern number matches its class whatever is loaded: a call never has the class of a
pattern that is not loaded, and for the class a ROUTE_TEST names (R50) this is a DESIGN CHOICE
(notes/assumptions/25.md). -/
def RingMatch.holds : RingMatch → CadenceClass → Bool
  | .any, _ => true
  | .pattern n, .pattern m => n == m
  | .unmatched, .unmatched => true
  | _, _ => false

def NumberMatch.holds (m : NumberMatch) (r : CidRecord) : Bool :=
  match m with
  | .any      => true
  | .withheld => decide (r.status = .complete) && r.numberWithheld.isSome
  | .none     => decide (r.status ≠ .complete)
  | .digits d => decide (r.status = .complete) && (r.number.elim false (fun n => d.isPrefixOf n))

/-- A time window holds at the clock's minute, wrapping midnight where it ends before it starts. -/
def windowHolds (c : Clock) : Option (Nat × Nat) → Bool
  | none => true
  | some (a, b) =>
    c.isSet && (if a ≤ b then decide (a ≤ c.minute) && decide (c.minute ≤ b)
                else decide (a ≤ c.minute) || decide (c.minute ≤ b))

def RouteEntry.matches_ (e : RouteEntry) (i : LineId) (cls : CadenceClass) (r : CidRecord) (c : Clock) : Bool :=
  e.lines[i] && e.ring.holds cls && e.number.holds r && windowHolds c e.window

/-- The first matching entry and its position. -/
def firstMatch (p : RouteEntry → Bool) : Nat → List RouteEntry → Option (Nat × RouteEntry)
  | _, [] => none
  | n, e :: t => if p e then some (n, e) else firstMatch p (n + 1) t

/-- Steps 1 to 3 of the routing decision, for a call of the class and record given (R50, R51). -/
def State.route (s : State) (i : LineId) (cls : CadenceClass) (r : CidRecord) : RoutingCopy :=
  let p := (s.line i).profile
  let c : RoutingCopy :=
    match firstMatch (fun e => e.matches_ i cls r s.clock) 0 s.routes with
    | some (n, e) => ⟨some n, e.action, e.rings, e.mask, e.mailbox, e.greeting, .none⟩
    | none => ⟨none, .answer, some p.defaultRings, p.defaultMask, p.defaultMailbox, none, .none⟩
  if p.answerEnable then c else { c with action := .reject, rings := none }

/-! ## Classification (R42 to R44) -/

/-- The line listens: in CLASSIFY, and not only to drop the call (R42, R53). -/
def Line.listening (l : Line) : Bool :=
  decide (l.state = .classify) && l.routing.elim false (fun c => decide (c.action ≠ .answerDrop))

/-- A job of an incoming call is entered from CLASSIFY (R44). -/
def State.enterJob (s : State) (i : LineId) (j : Job) : State :=
  let uses := incomingUses (s.line i).copies j
  match j with
  | .none => s
  | .voice =>
    let s1 := (s.useAreas i uses .voice).pass i .voice
    let v := (s1.line i).voice
    if v.barge then s1.handOver i
    else if v.activity = .none then s1.startRecordTone i else s1
  | .data =>
    let s1 := ((s.stopGreeting i).emptyStage i).modLine i (fun l => { l with voice := {} })
    (((s1.useAreas i uses .data).pass i .data)).startData i .answer
  | .fax =>
    let s1 := ((s.stopGreeting i).emptyStage i).modLine i (fun l => { l with voice := {} })
    (((s1.useAreas i uses .page).pass i .fax)).startFaxReceiver i

/-- A classification result (R44). -/
def State.classResult (s : State) (i : LineId) (j : Job) (b : Basis) : State :=
  let s1 := (s.modLine i (fun l => { l.modCall (fun c => { c with classification := some (j, b), job := j }) with
    job := j, classifyTimer := none })).notifyLine i (.classified j b)
  if s1.incomingReady i (s1.line i).copies j then s1.enterJob i j else s1.release i .locally

/-- A finding of R43: it is a result where the line listens and the mask holds the job. -/
def State.finding (s : State) (i : LineId) (j : Job) (b : Basis) : State :=
  if (s.line i).listening && (s.line i).allows j then s.classResult i j b else s

/-- The default of the allowed mask at the end of listening (R42). -/
def Line.defaultJob (l : Line) : Job := l.routing.elim .voice (fun c => c.mask.default)

/-- The greeting has ended: in CLASSIFY that ends listening, in VOICE the record tone follows (R42, R158). -/
def State.greetingOver (s : State) (i : LineId) : State :=
  let s1 := s.stopGreeting i
  if (s1.line i).state = .classify then s1.finding i .voice .greetingEnd
  else s1.startRecordTone i

/-- The answer instant: the line enters CLASSIFY (R13, R42, R53, R158). -/
def State.enterClassify (s : State) (i : LineId) : State :=
  let s1 := s.pass i .classify
  let l := s1.line i
  match l.routing with
  | none => s1
  | some c =>
    if c.action = .answerDrop then s1.modLine i (fun l => { l with dropTimer := s.start 1000 })
    else
      let s2 := s1.modLine i (fun l => { l with classifyTimer := s.start l.profile.classifyMs })
      if c.mask.voice then
        match s2.startGreeting i with
        | (s3, true)  => s3
        | (s3, false) => s3.finding i .voice .greetingEnd
      else if c.mask.data && c.mask.fax then s2
      else s2.classResult i c.mask.default .only

/-! ## The routing decision and the answer (R51 to R55) -/

/-- The ring cycles a copy's action waits for (R52, R53). -/
def RoutingCopy.waits (c : RoutingCopy) : Option Nat :=
  match c.action with
  | .answer     => some (c.rings.getD 1)
  | .answerDrop => some 1
  | .reject     => none

/-- An answer that stands: rings closed and the ring input quiet (R52). -/
def State.tryAnswer (s : State) (i : LineId) : State :=
  let l := s.line i
  match l.routing.bind RoutingCopy.waits with
  | some k => if k ≤ l.ring.closed ∧ l.ring.burst = none then s.enterClassify i else s
  | none => s

/-- The copy with a host override applied (R51 step 4, R54, R55). A copy that held no rings holds none as ANSWER
either: R56 gives no value there. DESIGN CHOICE (notes/assumptions/20.md). -/
def RoutingCopy.override_ (c : RoutingCopy) : HostOverride → RoutingCopy
  | .none     => c
  | .answer m => { c with action := .answer, mask := m, override := .answer }
  | .reject   => { c with action := .reject, rings := none, override := .reject }

/-- The routing decision, steps 1 to 5 (R51). -/
def State.makeCopy (s : State) (i : LineId) : State :=
  let l := s.line i
  let cls := (l.call.bind CallRecord.cadence).getD .pending
  let r := (l.call.bind CallRecord.cid).getD { status := .none }
  let c := (s.route i cls r).override_ l.override
  (s.modLine i (fun l => l.modCall (fun k => { k with routing := some c }))).notifyLine i
    (.routed c.position c.action c.mask c.mailbox)

/-- The decision, where the first cycle and the window have both closed and none has been made (R51). -/
def State.decide? (s : State) (i : LineId) : State :=
  let l := s.line i
  if l.state = .alerting ∧ 0 < l.ring.closed ∧ l.tone.cid.window = .closed ∧ l.routing = none then
    (s.makeCopy i).tryAnswer i
  else s

/-- An answer ordered by the host takes effect (R54). -/
def State.hostAnswer (s : State) (i : LineId) : State :=
  let s1 := (s.modLine i (fun l => { l with answerWaiting := false })).closeWindow i
  match (s1.line i).routing with
  | some _ =>
    (s1.modLine i (fun l => l.modCall (fun k =>
      { k with routing := k.routing.map (fun c => c.override_ l.override) }))).enterClassify i
  | none => (s1.makeCopy i).enterClassify i

end Sys2Proof.Machine
end

