-- ==== Sys2Proof/Machine/Ringing.lean ====
section
/-! DEFINITION. Ringing and alerting (R9, R10, R12, R13), dialling (R15, R16), and what tone confirmations and other
findings do at the Line Controller (R32 to R34, R36). -/

namespace Sys2Proof.Machine

/-! ## Ringing -/

def up (n : Nat) : Nat := min 255 (n + 1)

/-- A burst's duration lies in the range given. -/
def inRange (d : Ms) (r : Ms × Ms) : Bool := decide (r.1 ≤ d) && decide (d ≤ r.2)

/-- The number of the lowest pattern that fits the bursts of a first cycle, or UNMATCHED (R12). -/
def cadenceClass (durs : List Ms) : Nat → List (List (Ms × Ms)) → CadenceClass
  | _, [] => .unmatched
  | n, p :: t =>
    if p.length = durs.length ∧ (durs.zip p).all (fun q => inRange q.1 q.2) then .pattern n
    else cadenceClass durs (n + 1) t

/-- The measurement of ringing without its cycles: what the inputs alone have given. -/
def RingMeter.inputs (r : RingMeter) : RingMeter := { qual := r.qual, burst := r.burst, quiet := r.quiet }

/-- The call record an incoming call starts with (R13, R56). -/
def State.incomingCall (s : State) : CallRecord :=
  { direction := .incoming, ringCount := 1, cadence := some .pending, cid := some { status := .none }, job := .none
    start := s.stamp }

/-- A line in IDLE with a burst in progress enters ALERTING: the call is created (R13). -/
def State.enterAlerting (s : State) (i : LineId) : State :=
  let s1 := (s.pass i .alerting).modLine i (fun l => { l with
    direction := .incoming, call := some s.incomingCall, copies := s.callCopies l.profile
    override := .none, answerWaiting := false, tone.cid := {}
    ring := { l.ring.inputs with cycle := true } })
  s1.notifyLine i (.ring 1 .pending)

/-- The line enters IDLE: a burst in progress starts a call, an active input starts its qualification (R13, R19). -/
def State.enterIdle (s : State) (i : LineId) : State :=
  let s1 := s.pass i .idle
  if (s1.line i).ring.burst.isSome then s1.enterAlerting i
  else s1.modLine i (Line.resumeRing s.now)

/-- A new ring cycle of an incoming call: it is counted and reported, and closes a caller identity window still open
(R10, R38). That RING is queued before the CALLER_ID of that close is a DESIGN CHOICE (notes/assumptions/11.md). -/
def State.nextCycle (s : State) (i : LineId) : State :=
  let s1 := s.modLine i (fun l => { l.modCall (fun c => { c with ringCount := up c.ringCount }) with ring.cycle := true })
  let s2 := match (s1.line i).call with
    | some c => s1.notifyLine i (.ring c.ringCount (c.cadence.getD .pending))
    | none   => s1
  if (s2.line i).tone.cid.window = .open_ then (s2.closeWindow i).decide? i else s2

/-- A ring cycle of the substitute ring signal (R21). -/
def State.loopCycle (s : State) (i : LineId) : State :=
  let s1 := s.modLine i (fun l => { l with
    ring.cycle := true, loopCount := up l.loopCount, loopClass := some (l.loopClass.getD .pending) })
  s1.notifyLine i (.ring (s1.line i).loopCount ((s1.line i).loopClass.getD .pending))

/-- A burst begins that became active at `t` (R9, R10, R13, R21). -/
def State.burstBegins (s : State) (i : LineId) (t : Ms) : State :=
  let s1 := (s.modLine i (fun l => { l with ring := { l.ring with
    qual := none, burst := some t, quiet := none, gap := none, abandon := none } })).signalRing i true false
  let l := s1.line i
  match l.state with
  | .idle     => s1.enterAlerting i
  | .alerting => if l.ring.cycle then s1 else s1.nextCycle i
  | .loopback => if l.ring.cycle then s1 else s1.loopCycle i
  | _ => s1

/-- The caller identity window opens at the first trailing edge of the first cycle, unless cid_wait_ms is 0 (R38). -/
def Line.openWindow (l : Line) : Line :=
  if l.state = .alerting ∧ l.ring.closed = 0 ∧ l.ring.durs.length = 1 ∧ l.tone.cid.window = .notOpened ∧
      l.profile.cidWaitMs ≠ 0 then
    { l with tone.cid := { l.tone.cid with window := .open_, waitMs := l.profile.cidWaitMs } }
  else l

/-- The trailing edge of a burst that began at `t` and last went inactive at `u` (R9, R10, R38, R54). -/
def State.burstEnds (s : State) (i : LineId) (t u : Ms) : State :=
  let s1 := (s.modLine i (fun l =>
    let r := { l.ring with burst := none, quiet := none }
    ({ l with ring := if r.cycle then { r with
        gap := s.start l.profile.ringGapMs
        durs := if r.closed = 0 then r.durs ++ [u - t] else r.durs } else r } : Line).openWindow)).signalRing i false true
  if (s1.line i).answerWaiting then s1.hostAnswer i else s1

/-- The ring cycle closes; the first decides the cadence class (R10, R12). -/
def Line.closeCycle (now : Ms) (patterns : List (List (Ms × Ms))) (l : Line) : Line :=
  let cls := cadenceClass l.ring.durs 1 patterns
  let l1 := { l with ring := { l.ring with
    cycle := false, gap := none, closed := up l.ring.closed, abandon := some (now + l.profile.ringAbandonMs) } }
  if l.ring.closed = 0 then
    if l.state = .loopback then { l1 with loopClass := some cls }
    else l1.modCall (fun c => { c with cadence := some cls })
  else l1

/-- The caller identity window at the first cycle close: its wait starts, or it counts as closed (R38). -/
def State.windowAtClose (s : State) (i : LineId) : State :=
  match (s.line i).tone.cid.window with
  | .open_     =>
    s.modLine i (fun l => { l with tone.cid := { l.tone.cid with wait := some (s.now + l.tone.cid.waitMs) } })
  | .notOpened => s.closeWindow i
  | .closed    => s

/-- A ring cycle closes on an alerting line: the routing decision, or an answer instant (R51, R52). -/
def State.alertingClose (s : State) (i : LineId) (first : Bool) : State :=
  let s1 := if first then s.windowAtClose i else s
  if (s1.line i).routing.isSome then s1.tryAnswer i else s1.decide? i

/-! ## Dialling -/

/-- The last element has ended: the line enters PROGRESS (R16, R22, R33). -/
def State.enterProgress (s : State) (i : LineId) : State :=
  (s.pass i .progress).modLine i (fun l => { l with
    tone := l.tone.restart, dialStep := .idle, ringbackSeen := false, watch := none
    answerWait := s.start (l.profile.answerWaitS * 1000) })

/-- A digit of the dial list: pulses where the method is PULSE and the digit has any, else a DTMF pair (R16). -/
def State.dialDigit (s : State) (i : LineId) (d : Digit) : State :=
  let p := (s.line i).profile
  match p.dialMethod, digitBreaks? d with
  | .pulse, some n =>
    (s.openRelay i).modLine i (fun l => { l with dialStep := .pulseBreak (n - 1) (s.now + p.pulseBreakMs) })
  | _, _ => s.modLine i (fun l => { l.sendDigit s.now d with dialStep := .tone })

/-- The element at the dial position begins, or the list is done (R16). -/
def State.startElement (s : State) (i : LineId) : State :=
  let l := s.line i
  match l.dialList[l.dialPos]? with
  | none => s.enterProgress i
  | some (.digit d) => s.dialDigit i d
  | some (.pause n) => s.modLine i (fun l => { l with dialStep := .pause (s.now + 100 * n) })
  | some .awaitTone => s.modLine i (fun l => { l with
      tone := l.tone.restartDial s.toneTable, dialStep := .await (s.now + l.profile.dialToneWaitMs) })
  | some .flash =>
    (s.openRelay i).modLine i (fun l => { l with dialStep := .flash (s.now + l.profile.flashMs) })

/-- The element in hand ends and the next begins (R16). -/
def State.endElement (s : State) (i : LineId) : State :=
  (s.modLine i (fun l => { l with dialPos := l.dialPos + 1, dialStep := .idle })).startElement i

/-- Dialling begins (R15, R16). -/
def State.beginDialling (s : State) (i : LineId) : State :=
  ((s.pass i .dialling).modLine i (fun l => { l with dialWait := none })).startElement i

/-- The line seizes: DIAL-class matching restarts and the dial-tone wait starts (R15). -/
def State.seize (s : State) (i : LineId) : State :=
  (s.pass i .seizing).modLine i (fun l => { l with
    tone := l.tone.restartDial s.toneTable, dialWait := s.start l.profile.dialToneWaitMs })

/-! ## The answer of an outgoing call (R34) -/

/-- A VOICE job under host control begins (R34, R156). -/
def State.startHostVoice (s : State) (i : LineId) : State :=
  (s.modLine i (fun l => { l with voice := { mode := .host } })).notifyLine i (.connected .voice)

/-- The call is answered and the line enters the state of its job. -/
def State.answered (s : State) (i : LineId) : State :=
  let s1 := s.modLine i (fun l => { l with answerWait := none, watch := none })
  match (s1.line i).job with
  | .data  => (s1.pass i .data).startData i .originate
  | .fax   => (s1.pass i .fax).startFaxSender i
  | .voice => (s1.pass i .voice).startHostVoice i
  | .none  => s1

/-- A confirmed class answers a call of the job (R34). -/
def ToneClass.answers (c : ToneClass) (j : Job) : Bool :=
  match c, j with
  | .dataAnswer, .data | .dataAnswer, .fax | .dataAnswer, .voice | .faxAnswer, .fax | .faxAnswer, .voice => true
  | _, _ => false

/-- Speech or silence may answer the call: ringback has been seen, and the job is no data job (R34). -/
def Line.answersByEar (l : Line) : Bool :=
  decide (l.state = .progress) && l.ringbackSeen && (decide (l.job = .fax) || decide (l.job = .voice))

/-! ## Tone confirmations (R27, R32 to R34, R43) -/

/-- A RINGBACK confirmation in PROGRESS (R33). -/
def Line.countRingback (l : Line) : Line :=
  { l.modCall (fun c => { c with ringback := up c.ringback }) with ringbackSeen := true }

/-- A confirmation in PROGRESS (R33, R34). -/
def State.progressTone (s : State) (i : LineId) (c : ToneClass) : State :=
  if c = .busy ∨ c = .congestion then s.release i .busy
  else if c = .ringback then s.modLine i Line.countRingback
  else if c.answers (s.line i).job then s.answered i
  else s

/-- A confirmation reaches the Line Controller (R15, R16, R32, R33, R43). -/
def State.lineTone (s : State) (i : LineId) (c : ToneClass) : State :=
  match (s.line i).state, (s.line i).dialStep with
  | .seizing, _ =>
    if c = .dial then s.beginDialling i
    else if c = .busy ∨ c = .congestion then s.release i .busy else s
  | .dialling, .await _ => if c = .dial then s.endElement i else s
  | .progress, _ => s.progressTone i c
  | .classify, _ =>
    if c = .faxCall then s.finding i .fax .tone
    else if c = .dataCall then s.finding i .data .tone else s
  | _, _ => s

/-- A confirmation is delivered to the Line Controller and then to the Voice Engine (R27). -/
def State.confirmed (s : State) (i : LineId) (c : ToneClass) (first : Nat) : State :=
  (s.lineTone i c).voiceTone i c first

/-- Ringback has stopped: the watch starts; one already on goes on with its silent run (R34). -/
def State.ringbackStops (s : State) (i : LineId) : State :=
  s.modLine i (fun l =>
    if l.state = .progress ∧ l.ringbackSeen = true ∧ l.watch = none then { l with watch := some 0 } else l)

/-- What an event of one matcher gives: its new state, and its findings (R26, R27, R34). `first` is the coded count at
the onset that began the cadences confirmed, as it stood before the event (R162). -/
def State.applyMatch (s : State) (i : LineId) (e : ToneEntry) (first : Nat) (r : MatchResult) : State :=
  let s1 := s.modLine i (fun l => { l with
    tone.matchers := l.tone.matchers.map (fun m => if m.id = e.id then r.matcher else m) })
  let s2 := if r.confirmed then s1.confirmed i e.cls first else s1
  let s3 := if r.stopped && decide (e.cls = .ringback) then s2.ringbackStops i else s2
  if r.onset && decide (e.cls = .ringback) then s3.modLine i (fun l => { l with watch := none }) else s3

def Line.matcher? (l : Line) (id : Nat) : Option Matcher := l.tone.matchers.find? (fun m => m.id == id)

/-- An event of the matcher of one entry, where that matcher runs. -/
def State.matchEvent (s : State) (i : LineId) (id : Nat) (f : ToneEntry → Matcher → MatchResult) : State :=
  match s.toneEntry? id, (s.line i).matcher? id with
  | some e, some m => s.applyMatch i e m.first (f e m)
  | _, _ => s

/-! ## Speech, silence and digits -/

/-- A speech finding at the Line Controller (R34, R43). -/
def State.speechFound (s : State) (i : LineId) : State :=
  if (s.line i).answersByEar then s.answered i else s.finding i .voice .speech

/-- A frame that ends under the ringback-stop watch; a silent run of 3000 ms answers the call (R34). The frame already
in progress when the watch starts counts at its end: the spec is silent. DESIGN CHOICE (notes/assumptions/18.md). -/
def State.watchFrame (s : State) (i : LineId) (silent : Bool) : State :=
  match (s.line i).watch with
  | none => s
  | some n =>
    let m := if silent then n + 1 else 0
    let s1 := s.modLine i (fun l => { l with watch := some m })
    if runReaches m 3000 && (s1.line i).answersByEar then s1.answered i else s1

/-- A recognised digit: the DIGITS notice, the Line Controller, and then the Voice Engine (R36). -/
def State.digitRecognised (i : LineId) (s : State) (d : Digit) : State :=
  (((s.notifyLine i (.digits [d] false)).finding i .voice .digit)).voiceDigit i d

end Sys2Proof.Machine
end

