-- ==== Sys2Proof/Machine/FaxEvents.lean ====
section
/-! DEFINITION. The meanings of a fax call's events: opening tones, control messages, page data, blocks, waits and END
(R119 to R136, R138). -/

namespace Sys2Proof.Machine

/-! ## Opening and negotiation (R120, R121) -/

/-- FAX_ANSWER_TONE_END: the receiver sends OFFER (R120). -/
def execFaxAnswerToneEnd (i : LineId) (s : State) : Result :=
  .next (match (s.line i).half .receiver with
    | none => s
    | some f =>
      if f.phase = .establish ∧ due s.now f.toneEnd = true then
        (s.modLine i (Line.halfToneOff .receiver)).modFax i .receiver (fun f =>
          ({ f with phase := .negotiate, toneEnd := none } : Fax).await s.now (s.offer (s.line i).copies) 1)
      else s)

/-- FAX_CALL_TONE_EXPIRY: no OFFER within 15000 ms (R120). -/
def execFaxCallToneExpiry (i : LineId) (s : State) : Result :=
  .next (match (s.line i).half .sender with
    | none => s
    | some f =>
      if f.phase = .establish ∧ due s.now f.toneEnd = true then s.endFax i .sender .faxProtocol else s)

/-- The sender takes an OFFER: the terms and the first training, or the end of the call (R121). -/
def State.takeOffer (s : State) (i : LineId) (rate : Nat) (resolutions : List Resolution) (bc : Bool) : State :=
  let c := (s.line i).copies
  match s.chosenStep c rate with
  | none => s.endFax i .sender .trainFail
  | some step =>
    if step < c.faxFloor then s.endFax i .sender .trainFail
    else
      let res : Resolution := if resolutions.contains .fine then .fine else .normal
      (s.modLine i (Line.halfToneOff .sender)).modFax i .sender (fun f =>
        ({ f with toneEnd := none, terms := some ⟨step, res, bc && c.blockCorrection⟩ } : Fax).train s.now step .page)

/-- FAX_OFFER_RECEIVED (R120, R121). -/
def execFaxOfferReceived (i : LineId) (rate : Nat) (resolutions : List Resolution) (bc : Bool) (s : State) : Result :=
  .next (match (s.line i).half .sender with
    | none => s
    | some f => if f.phase = .establish then s.takeOffer i rate resolutions bc else s)

/-! ## Training (R122) -/

/-- A receiver takes CHOOSE in these phases (R119). -/
def Fax.takesChoose (f : Fax) : Bool :=
  match f.phase with
  | .negotiate | .train | .page | .afterPage => true
  | _ => false

/-- A CHOOSE: the first gives the terms, each gives the step; a training must lock within 3000 ms (R121, R122). The step a
later CHOOSE changes is the record's step alone, and the terms keep that of the first: DESIGN CHOICE
(notes/assumptions/12.md). -/
def Fax.takeChoose (now : Ms) (step : Nat) (res : Resolution) (bc : Bool) (f : Fax) : Fax :=
  { f with phase := .train, step := some step, terms := some (f.terms.getD ⟨step, res, bc⟩), awaited := none
           recvWait := none, lockWait := some (now + 3000), checking := false, checkQt := none }

/-- FAX_CHOOSE_RECEIVED (R119, R121, R122). -/
def execFaxChooseReceived (i : LineId) (step : Nat) (res : Resolution) (bc : Bool) (s : State) : Result :=
  .next (match (s.line i).half .receiver with
    | none => s
    | some f =>
      if f.takesChoose then
        (s.modFax i .receiver (Fax.takeChoose s.now step res bc)).modLine i (Line.recordsFrom s.now)
      else s)

/-- FAX_CHECK_END: the receiver answers the training check (R122). -/
def execFaxCheckEnd (i : LineId) (locked : Bool) (errors : Nat) (s : State) : Result :=
  .next (match (s.line i).half .receiver with
    | none => s
    | some f =>
      if decide (f.phase = .train) && (f.lockWait.isSome || f.checking) then
        match s.checkGood (s.line i) f locked errors with
        | some qt => s.trainGood i f qt
        | none    => s.trainBad i
      else s)

/-- FAX_TRAIN_LOCK_TIMEOUT: no training locked within 3000 ms of a CHOOSE (R122). -/
def execFaxTrainLockTimeout (i : LineId) (s : State) : Result :=
  .next (match (s.line i).half .receiver with
    | none => s
    | some f => if f.phase = .train ∧ due s.now f.lockWait = true then s.trainBad i else s)

/-- The half awaits a response to a message of the kind given (R119). -/
def Fax.awaits (f : Fax) (p : FaxMsg → Bool) : Bool := f.awaited.elim false (fun a => p a.msg)

def FaxMsg.isChoose : FaxMsg → Bool
  | .choose _ _ _ => true
  | _ => false

/-- The sender has trained: the current step and the final rate step, and the first CONNECTED; in LOOPBACK the quality
state is the receiving half's (R122, R138). -/
def State.senderTrained (s : State) (i : LineId) (f : Fax) : State :=
  let s1 := s.modLine i (fun l =>
    let l1 := l.modCall (fun c => { c with finalStep := f.step })
    let l2 := if l1.state = .loopback then l1 else { l1 with quality.step := f.step }
    l2.modHalf .sender (fun f => { f with tries := 0, trained := true, awaited := none }))
  if f.trained then s1 else s1.faxConnected i .sender f

/-- What follows a TRAIN_OK at the sender: the next page, or the listed frames again (R122, R128, R131). -/
def State.afterTraining (s : State) (i : LineId) : AfterTrain → State
  | .page           => s.nextPage i
  | .resend missing round => s.modFax i .sender (Fax.sendRound s.now round missing)

/-- FAX_TRAIN_OK_RECEIVED (R122). -/
def execFaxTrainOkReceived (i : LineId) (s : State) : Result :=
  .next (match (s.line i).half .sender with
    | none => s
    | some f =>
      if f.phase = .train ∧ f.awaits FaxMsg.isChoose = true then
        (s.senderTrained i f).afterTraining i f.afterTrain
      else s)

/-- A TRAIN_RETRY: the same step again, the step below, or the end of the call (R122). -/
def State.retryTraining (s : State) (i : LineId) (f : Fax) : State :=
  let step := f.step.getD 0
  if f.tries + 1 < 2 then
    s.modFax i .sender (fun f => ({ f with tries := f.tries + 1 } : Fax).choose s.now step)
  else if (s.line i).copies.faxFloor < step then
    s.modFax i .sender (fun f => ({ f with tries := 0 } : Fax).choose s.now (step - 1))
  else (s.modFax i .sender (fun f => { f with tries := 2 })).endFax i .sender .trainFail

/-- FAX_TRAIN_RETRY_RECEIVED (R122). -/
def execFaxTrainRetryReceived (i : LineId) (s : State) : Result :=
  .next (match (s.line i).half .sender with
    | none => s
    | some f => if f.phase = .train ∧ f.awaits FaxMsg.isChoose = true then s.retryTraining i f else s)

/-! ## Sending a page (R123 to R125, R129) -/

/-- The sender is inside a page whose end it has not reached. -/
def Fax.inPage (f : Fax) : Bool :=
  decide (f.phase = .page) && f.begun && f.ended.isNone && f.awaited.isNone

/-- FAX_PAGE_BEGIN: a host sender's page begins when the TX area holds a byte or a mark (R124). -/
def execFaxPageBegin (i : LineId) (s : State) : Result :=
  .next (match (s.line i).half .sender with
    | none => s
    | some f =>
      if f.phase = .page ∧ f.begun = false ∧ f.source = some .host ∧ s.txHolds i = true then
        s.modFax i .sender Fax.beginPage
      else s)

/-- A spell of fill starts for a host sender in a page, where the TX area holds neither byte nor mark (R124, R129). -/
def State.startFill (s : State) (i : LineId) : State :=
  let f := (s.line i).fax
  if f.inPage ∧ f.source = some .host ∧ s.txHolds i = false ∧ f.fill = none then
    s.modFax i .sender (fun f => { f with fill := s.start 5000 })
  else s

/-- Bytes of the page taken by the sender: line-ends are counted, and a block of 32 frames is closed (R123, R129). -/
def Fax.takeBytes (now : Ms) (bs : List Byte) (f : Fax) : Fax :=
  let f1 := { f with tally := bs.foldl (PageTally.byte false) f.tally }
  if f1.corrects then
    let f2 := { f1 with block := { f1.block with bytes := f1.block.bytes ++ bs } }
    if f2.block.bytes.length < 4096 then f2 else f2.blockEnd now
  else f1

/-- Bytes the sender may take now: with block correction no more than the block in hand has room for (R129). -/
def Fax.mayTake (f : Fax) (n : Nat) : Nat := if f.corrects then min n (4096 - f.block.bytes.length) else n

/-- FAX_PAGE_DATA_SENT: the next `n` bytes of the page go (R123 to R125, R129). -/
def execFaxPageDataSent (i : LineId) (n : Nat) (s : State) : Result :=
  .next (match (s.line i).half .sender, s.pageArea i with
    | some f, some k =>
      if f.inPage then
        let r := s.remove k (f.mayTake n)
        (r.2.modFax i .sender (Fax.takeBytes s.now r.1)).startFill i
      else s
    | _, _ => s)

/-- The mark that ends a store sender's page: LAST after the last record of the list (R125). -/
def State.storeMark (s : State) (f : Fax) : PageMark :=
  match s.document f with
  | some e => if f.docPos + 1 < e.pages.length then .more else .last
  | none   => .last

/-- The end a sender has reached of its page: a mark at the head of the TX area, or the end of the record (R124,
R125). -/
def State.reachedEnd (s : State) (i : LineId) (f : Fax) (k : AreaId) : Option (PageMark × State) :=
  match f.source with
  | some (.store _) => if s.rangeTaken i then some (s.storeMark f, s.stopStage i) else none
  | _ => (s.area k).headMark.map (fun m => (m, s.takeMark k))

/-- FAX_SENDER_PAGE_END (R123 to R125, R129). -/
def execFaxSenderPageEnd (i : LineId) (s : State) : Result :=
  .next (match (s.line i).half .sender, s.pageArea i with
    | some f, some k =>
      if f.inPage then
        match s.reachedEnd i f k with
        | some (m, s1) => s1.pageEnds i m
        | none => s
      else s
    | _, _ => s)

/-- FAX_FILL_EXPIRY: 5000 ms of fill, or of waiting for page data (R124). -/
def execFaxFillExpiry (i : LineId) (s : State) : Result :=
  .next (match (s.line i).half .sender with
    | none => s
    | some f => if f.phase = .page ∧ due s.now f.fill = true then s.endFax i .sender .hostUnderrun else s)

/-! ## Receiving and judging a page (R126, R127) -/

/-- FAX_PAGE_DATA_RECEIVED: bytes of a page without block correction arrive (R126, R132, R133). -/
def execFaxPageDataReceived (i : LineId) (bytes : List Byte) (s : State) : Result :=
  .next (match (s.line i).half .receiver with
    | none => s
    | some f =>
      if f.takesPage && !f.corrects then
        (((s.ensurePage i).modFax i .receiver (fun f => { f with recvWait := none })).receivePage i bytes)
      else s)

/-- FAX_ERROR_BURST: the line being received is bad (R126). -/
def execFaxErrorBurst (i : LineId) (s : State) : Result :=
  .next (s.modFax i .receiver (fun f =>
    if f.phase = .page ∧ f.begun = true ∧ f.corrects = false then { f with tally.lineBad := true } else f))

/-- FAX_PAGE_CLOSE_RECEIVED: MORE_PAGES or LAST_PAGE; a repeat is answered with the verdict given (R119, R126, R127,
R131 to R134). -/
def execFaxPageCloseReceived (i : LineId) (last again : Bool) (s : State) : Result :=
  .next (match (s.line i).half .receiver with
    | none => s
    | some f =>
      if f.phase = .close then s
      else match again, f.given with
      | true, some (v, stop, q) => s.modFax i .receiver (Fax.respond s.now (.verdict v stop q))
      | _, _ => if f.phase = .page ∨ f.phase = .afterPage then s.closeReceived i last else s)

def FaxMsg.isClose : FaxMsg → Bool
  | .morePages | .lastPage => true
  | _ => false

/-- Steps 1 to 3 of a verdict at the sender: Q, PAGE_DONE, the pages count (R128, R138). -/
def State.noteVerdict (s : State) (i : LineId) (f : Fax) (v : Verdict) (stop : Bool) (q : Nat) : State :=
  let s1 := s.modLine i (fun l => if l.state = .loopback then l else { l with quality.a := 8 * q })
  let s2 := s1.notifyLine i (.pageDone f.pageNo v f.tally.lines none none)
  s2.modFax i .sender (fun f => { f with
    pages := if v = .bad then f.pages else up255 f.pages, begun := false, awaited := none, stop := f.stop || stop })

/-- Step 4 of a verdict at the sender (R125, R128, R136). -/
def State.actOnVerdict (s : State) (i : LineId) (v : Verdict) (stop : Bool) (q : Nat) : State :=
  if s.lastToSend i v then s.endFax i .sender .done
  else if stop then s.endFax i .sender .remote
  else
    let s1 := s.modFax i .sender (Fax.afterVerdict v)
    if v = .good then s1.nextPage i else s1.retrainFax i q

/-- FAX_VERDICT_RECEIVED (R128). -/
def execFaxVerdictReceived (i : LineId) (v : Verdict) (stop : Bool) (q : Nat) (s : State) : Result :=
  .next (match (s.line i).half .sender with
    | none => s
    | some f =>
      if f.phase = .afterPage ∧ f.awaits FaxMsg.isClose = true then
        (s.noteVerdict i f v stop q).actOnVerdict i v stop q
      else s)

/-! ## Blocks (R129 to R131) -/

/-- The number of the block that follows: 0 for the first of a page, then one more, from 255 to 0 (R129). -/
def BlockState.following (b : BlockState) : Nat := if b.count = 0 then 0 else (b.number + 1) % 256

/-- The receiver takes frames and BLOCK_END now (R130). -/
def Fax.takesBlock (f : Fax) : Bool := f.takesPage && f.corrects

/-- The block in hand at the receiver, begun here where the last is complete or none has begun (R130). A BLOCK_END before
any frame of its block begins the block itself: DESIGN CHOICE (notes/assumptions/12.md). -/
def State.ensureBlock (s : State) (i : LineId) (number : Option Nat) : State :=
  let s1 := (s.ensurePage i).modFax i .receiver (fun f => { f with recvWait := none })
  match (s1.line i).receiver? with
  | some f => if f.block.inHand then s1 else s1.beginBlock i (number.getD f.block.following)
  | none => s1

/-- A frame's seq is marked received; a copy is discarded (R130). -/
def BlockState.mark (seq : Nat) (payload : List Byte) (b : BlockState) : BlockState :=
  if b.got.any (fun g => g.1 == seq) then b else { b with got := b.got ++ [(seq, payload)] }

/-- FAX_BLOCK_FRAME_RECEIVED: a frame that passes the frame check (R130). -/
def execFaxBlockFrameReceived (i : LineId) (seq : Fin 32) (payload : List Byte) (s : State) : Result :=
  .next (match (s.line i).half .receiver with
    | none => s
    | some f =>
      if f.takesBlock then
        (s.ensureBlock i none).modFax i .receiver (fun f => { f with block := f.block.mark seq.val payload })
      else s)

/-- BLOCK_END gives the block its number and its count, and the frames with a seq of the count or more go (R130). -/
def BlockState.ends (number count : Nat) (b : BlockState) : BlockState :=
  { b with number := number, count := count, got := b.got.filter (fun g => decide (g.1 < count)) }

/-- A BLOCK_END of the block in hand: the map is sent, and a complete block delivered (R130). -/
def State.answerBlock (s : State) (i : LineId) (number count : Nat) : State :=
  let s1 := s.modFax i .receiver (fun f => { f with block := f.block.ends number count })
  match (s1.line i).receiver? with
  | none => s1
  | some f =>
    let m := f.block.missing count
    let s2 := s1.modFax i .receiver (Fax.respond s.now (.blockMap number m))
    if m = [] then s2.deliverBlock i count else s2

/-- BLOCK_END repeats that of a block of the page in hand which has been delivered already (R119). -/
def Fax.repeatsBlock (number : Nat) (f : Fax) : Bool :=
  f.begun && !f.block.inHand && decide (f.block.count ≠ 0) && f.block.number == number

/-- FAX_BLOCK_END_RECEIVED: a repeat for a block already delivered is answered with its empty map (R119, R130). -/
def execFaxBlockEndReceived (i : LineId) (number count : Nat) (s : State) : Result :=
  .next (match (s.line i).half .receiver with
    | none => s
    | some f =>
      if f.takesBlock then
        if f.repeatsBlock number then
          s.modFax i .receiver (Fax.respond s.now (.blockMap number []))
        else (s.ensureBlock i (some number)).answerBlock i number count
      else s)

def FaxMsg.isBlockEnd (number : Nat) : FaxMsg → Bool
  | .blockEnd n _ => n == number
  | _ => false

/-- The block is complete: the next one follows, or the page is closed (R131). -/
def Fax.blockDone (now : Ms) (f : Fax) : Fax :=
  match f.ended with
  | some m => ({ f with block := {} } : Fax).closePage now m
  | none   => { f with awaited := none, block := { number := (f.block.number + 1) % 256 } }

/-- A list after round 4: a training one step lower and round 1 again, at most twice in a block (R131). -/
def State.roundLimit (s : State) (i : LineId) (f : Fax) (missing : List Nat) : State :=
  if 2 ≤ f.block.fallbacks then s.endFax i .sender .faxProtocol
  else
    let t := max (s.line i).copies.faxFloor (f.step.getD 0 - 1)
    s.modFax i .sender (fun f =>
      ({ f with block := { f.block with fallbacks := f.block.fallbacks + 1, round := 0 } } : Fax).train s.now t
        (.resend missing 1))

/-- What the sender does with a BLOCK_MAP of the block in hand (R131). -/
def State.actOnMap (s : State) (i : LineId) (f : Fax) (missing : List Nat) : State :=
  if missing = [] then (s.modFax i .sender (Fax.blockDone s.now)).startFill i
  else if 4 ≤ f.block.round then s.roundLimit i f missing
  else if 8 < missing.length ∧ (s.line i).copies.faxFloor < f.step.getD 0 then
    s.modFax i .sender (Fax.train s.now (f.step.getD 0 - 1) (.resend missing (f.block.round + 1)))
  else s.modFax i .sender (Fax.sendRound s.now (f.block.round + 1) missing)

/-- FAX_BLOCK_MAP_RECEIVED (R119, R131). -/
def execFaxBlockMapReceived (i : LineId) (number : Nat) (missing : List Nat) (s : State) : Result :=
  .next (match (s.line i).half .sender with
    | none => s
    | some f =>
      if f.phase = .page ∧ f.awaits (FaxMsg.isBlockEnd number) = true then s.actOnMap i f missing else s)

/-! ## END and the waits (R119, R136) -/

/-- A page cut off by the round limit is counted and reported PAGE_BAD at the END that follows it (R131). -/
def State.cutOffPage (s : State) (i : LineId) (f : Fax) : State :=
  if f.corrects && f.begun && f.block.inHand then s.reportPage i .bad else s

/-- The reason END gives: DONE after the verdict of the last page, REMOTE at any other time (R136). -/
def Fax.endReason (f : Fax) (r : FaxRole) : EndReason := if r = .receiver ∧ f.final = true then .done else .remote

/-- A half ends: the receiving half of LOOPBACK by itself, any other with its call (R136, R138). -/
def State.releaseFax (s : State) (i : LineId) (r : FaxRole) (why : EndReason) : State :=
  if (s.line i).isEcho r then s.modLine i Line.noEcho else s.release i why

/-- FAX_END_RECEIVED (R131, R136). -/
def execFaxEndReceived (i : LineId) (r : FaxRole) (s : State) : Result :=
  .next (match (s.line i).half r with
    | none => s
    | some f =>
      if f.phase = .close then s
      else (if r = .receiver then s.cutOffPage i f else s).releaseFax i r (f.endReason r))

/-- FAX_END_TRANSMITTED (R136). -/
def execFaxEndTransmitted (i : LineId) (r : FaxRole) (s : State) : Result :=
  .next (match (s.line i).half r with
    | none => s
    | some f =>
      if f.phase = .close then s.releaseFax i r (f.closing.getD .locally) else s)

/-- FAX_RESPONSE_WAIT_EXPIRY: the message goes again, at most three times in all (R119). -/
def execFaxResponseWaitExpiry (i : LineId) (r : FaxRole) (s : State) : Result :=
  .next (match (s.line i).half r with
    | none => s
    | some f =>
      match f.awaited with
      | none => s
      | some a =>
        if a.until_ ≤ s.now then
          if a.sends < 3 then s.modFax i r (Fax.await s.now a.msg (a.sends + 1)) else s.endFax i r .faxProtocol
        else s)

/-- FAX_RECEIVE_WAIT_EXPIRY (R119). -/
def execFaxReceiveWaitExpiry (i : LineId) (s : State) : Result :=
  .next (match (s.line i).half .receiver with
    | none => s
    | some f => if due s.now f.recvWait = true then s.endFax i .receiver .faxProtocol else s)

end Sys2Proof.Machine
end

