-- ==== Sys2Proof/Machine/Operands.lean ====
section
/-! DEFINITION. The operand forms: how the arguments of directives are read, and how results and notice contents are
written, field by field (R171, R172). The choices R172 leaves open are in notes/assumptions/5.md. -/

namespace Sys2Proof.Machine

/-! ## Reading arguments -/

/-- What reading a field from the bytes left gives: a value and the rest, bytes missing, or a form the rule does not
name. -/
inductive Parsed (α : Type) where
  | ok (v : α) (rest : List Byte)
  | short
  | illegal
  deriving DecidableEq, Repr

/-- A reader of arguments. -/
abbrev Arg (α : Type) := List Byte → Parsed α

def Arg.pure (v : α) : Arg α := fun bs => .ok v bs

def Arg.fail : Arg α := fun _ => .illegal

def Arg.bind (p : Arg α) (f : α → Arg β) : Arg β := fun bs =>
  match p bs with
  | .ok v t  => f v t
  | .short   => .short
  | .illegal => .illegal

def Arg.map (f : α → β) (p : Arg α) : Arg β := p.bind (fun v => Arg.pure (f v))

/-- A number from its bytes, least significant first. -/
def leNat : List Byte → Nat
  | [] => 0
  | b :: t => b.toNat + 256 * leNat t

/-- A number of `k` bytes. -/
def argNum (k : Nat) : Arg Nat := fun bs => if bs.length < k then .short else .ok (leNat (bs.take k)) (bs.drop k)

/-- A number of one byte in two's complement. -/
def argSigned : Arg Int := (argNum 1).map (fun n => (byte n).toInt)

/-- Exactly `n` items. -/
def Arg.times (p : Arg α) : Nat → Arg (List α)
  | 0 => Arg.pure []
  | n + 1 => p.bind fun v => (Arg.times p n).map (v :: ·)

/-- A list: its count and its items. -/
def Arg.list (p : Arg α) : Arg (List α) := (argNum 1).bind fun n => p.times n

/-- A text: its count and its characters. -/
def argText : Arg (List Byte) := Arg.list ((argNum 1).map byte)

/-- Absent or present. -/
def Arg.opt (p : Arg α) : Arg (Option α) := (argNum 1).bind fun t =>
  if t = 0 then Arg.pure none else if t = 1 then p.map some else Arg.fail

/-- What the arguments of a directive come to: read whole, wrong in number, or of no form the rule names. -/
inductive ArgRead (α : Type) where
  | good (v : α)
  | count
  | bad
  deriving DecidableEq, Repr

/-- The arguments read to their end: missing or leftover bytes are a wrong count (R175 step 3). -/
def Arg.read (p : Arg α) (bs : List Byte) : ArgRead α :=
  match p bs with
  | .ok v []       => .good v
  | .ok _ (_ :: _) => .count
  | .short         => .count
  | .illegal       => .bad

/-! ## Named values -/

def job? : Nat → Option Job
  | 0 => some .data | 1 => some .fax | 2 => some .voice | _ => none

def purpose? : Nat → Option Purpose
  | 0 => some .tx | 1 => some .rx | 2 => some .stage | _ => none

def action? : Nat → Option Action
  | 0 => some .answer | 1 => some .reject | 2 => some .answerDrop | _ => none

def toneClass? : Nat → Option ToneClass
  | 0 => some .dial | 1 => some .busy | 2 => some .ringback | 3 => some .congestion | 4 => some .dataCall
  | 5 => some .dataAnswer | 6 => some .faxCall | 7 => some .faxAnswer | 8 => some .recordTone | _ => none

def bool? : Nat → Option Bool
  | 0 => some false | 1 => some true | _ => none

/-- A set of jobs from its byte; none where a bit beyond the three is set. -/
def jobSet? (n : Nat) : Option JobSet :=
  if n < 8 then some ⟨n.testBit 0, n.testBit 1, n.testBit 2⟩ else none

/-- A nonempty set of jobs from its byte. -/
def mask? (n : Nat) : Option JobSet := if n = 0 then none else jobSet? n

/-- VOICE or GREETING, the kinds a host recording or a download may have (R153, R166). -/
def soundKind? : Nat → Option MsgKind
  | 0 => some .voice | 1 => some .greeting | _ => none

def within (lo hi n : Nat) : Option Nat := if lo ≤ n ∧ n ≤ hi then some n else none

/-- Every item of a list has a value. -/
def allSome : List (Option α) → Option (List α)
  | [] => some []
  | none :: _ => none
  | some v :: t => (allSome t).map (v :: ·)

/-! ## Arguments of the directives -/

/-- An element of a dial list (R14); none inside where its value is illegal. -/
def argElement : Arg (Option DialElement) := (argNum 1).bind fun t =>
  if t = 0 then (argNum 1).map (fun n => (digitOfPlace? n).map .digit)
  else if t = 1 then (argNum 1).map (fun n => if n = 0 then none else some (.pause n))
  else if t = 2 then Arg.pure (some .awaitTone)
  else if t = 3 then Arg.pure (some .flash)
  else Arg.fail

/-- The arguments of DIAL (R14): job, fax source, dial list. -/
structure DialArgs where
  job    : Job
  source : Option FaxSource
  list   : List (Option DialElement)
  deriving DecidableEq, Repr

def argSource : Arg FaxSource := (argNum 1).bind fun t =>
  if t = 0 then Arg.pure .host else if t = 1 then (argNum 2).map .store else Arg.fail

def argDial : Arg DialArgs := (argNum 1).bind fun j =>
  match job? j with
  | none => Arg.fail
  | some .fax => argSource.bind fun src => argElement.list.map (fun l => ⟨.fax, some src, l⟩)
  | some job => argElement.list.map (fun l => ⟨job, none, l⟩)

/-- A tone table entry as it is sent (R23, R24). -/
structure ToneArgs where
  id : Nat
  cls : Nat
  f1 : Nat
  f2 : Option Nat
  level : Int
  cadence : List Segment
  confirm : Nat
  deriving DecidableEq, Repr

def argSegment : Arg Segment := (argNum 2).bind fun a => (argNum 2).bind fun b => (argNum 2).bind fun c =>
  (argNum 2).map (fun d => ⟨a, b, c, d⟩)

def argTone : Arg ToneArgs := (argNum 1).bind fun id => (argNum 1).bind fun cls => (argNum 2).bind fun f1 =>
  (argNum 2).opt.bind fun f2 => argSigned.bind fun lv => argSegment.list.bind fun cad =>
  (argNum 1).map (fun n => ⟨id, cls, f1, f2, lv, cad, n⟩)

/-- A burst of a ring pattern: least and greatest duration (R11). -/
def argBurst : Arg (Ms × Ms) := (argNum 2).bind fun a => (argNum 2).map (fun b => (a, b))

def argPatterns : Arg (List (List (Ms × Ms))) := argBurst.list.list

/-- The ring match of a routing entry: ANY, a pattern, UNMATCHED (R45); none where the pattern is illegal. -/
def argRingMatch : Arg (Option RingMatch) := (argNum 1).bind fun t =>
  if t = 0 then Arg.pure (some .any)
  else if t = 1 then (argNum 1).map (fun n => (within 1 4 n).map .pattern)
  else if t = 2 then Arg.pure (some .unmatched)
  else Arg.fail

def argNumberMatch : Arg NumberMatch := (argNum 1).bind fun t =>
  if t = 0 then Arg.pure .any else if t = 1 then Arg.pure .withheld else if t = 2 then Arg.pure .none
  else if t = 3 then argText.map .digits else Arg.fail

def argWindow : Arg (Nat × Nat) := (argNum 2).bind fun a => (argNum 2).map (fun b => (a, b))

/-- The arguments of ROUTE_PUT: a position and an entry as it is sent (R45, R47). -/
structure RouteArgs where
  position : Nat
  lines    : Nat
  ring     : Option RingMatch
  number   : NumberMatch
  window   : Option (Nat × Nat)
  action   : Nat
  rings    : Option Nat
  mask     : Nat
  mailbox  : Nat
  greeting : Option Nat
  deriving DecidableEq, Repr

def argRoute : Arg RouteArgs := (argNum 1).bind fun pos => (argNum 1).bind fun ls => argRingMatch.bind fun rg =>
  argNumberMatch.bind fun nm => argWindow.opt.bind fun w => (argNum 1).bind fun act => (argNum 1).opt.bind fun rs =>
  (argNum 1).bind fun mk => (argNum 1).bind fun mb => (argNum 2).opt.map
    (fun g => ⟨pos, ls, rg, nm, w, act, rs, mk, mb, g⟩)

/-- The digits of a prefix are characters 0 to 9, 1 to 15 of them (R45). -/
def NumberMatch.legal : NumberMatch → Bool
  | .digits d => decide (1 ≤ d.length) && decide (d.length ≤ 15) && d.all (fun b => (digitChar? b).isSome)
  | _ => true

/-- The rings an entry carries fit its action: 1 to 15 for ANSWER, absent for any other (R45, R47). -/
def ringsFit : Action → Option Nat → Bool
  | .answer, some n => decide (1 ≤ n) && decide (n ≤ 15)
  | .answer, none => false
  | _, r => r.isNone

/-- The entry a ROUTE_PUT carries, where every field holds a value of R45 (R47 check 2). Of a REJECT entry's mask, which
may be any value, the bits of the three jobs are kept. DESIGN CHOICE (notes/assumptions/5.md). -/
def RouteArgs.entry (a : RouteArgs) : Option RouteEntry :=
  match a.ring, action? a.action with
  | some rg, some act =>
    let mask : Option JobSet :=
      if act = .reject then some ⟨a.mask.testBit 0, a.mask.testBit 1, a.mask.testBit 2⟩ else mask? a.mask
    match mask with
    | none => none
    | some jobs =>
      if 1 ≤ a.lines ∧ a.lines ≤ 15 ∧ a.number.legal ∧ ringsFit act a.rings ∧ a.mailbox ≤ 15 ∧
          a.greeting ≠ some 0 ∧ a.window.all (fun w => decide (w.1 ≤ 1439) && decide (w.2 ≤ 1439)) then
        some ⟨#v[a.lines.testBit 0, a.lines.testBit 1, a.lines.testBit 2, a.lines.testBit 3],
          rg, a.number, a.window, act, a.rings, jobs, a.mailbox, a.greeting⟩
      else none
  | _, _ => none

/-- The cadence class of ROUTE_TEST: PENDING, a pattern, UNMATCHED (R50). -/
def argClass : Arg (Option CadenceClass) := (argNum 1).bind fun t =>
  if t = 0 then Arg.pure (some .pending)
  else if t = 1 then (argNum 1).map (fun n => (within 1 4 n).map .pattern)
  else if t = 2 then Arg.pure (some .unmatched)
  else Arg.fail

/-- A date-time is four numbers of one byte, month, day, hour and minute: R172 names no form for it. DESIGN CHOICE
(notes/assumptions/5.md). -/
def argDate : Arg CidDate := (argNum 1).bind fun a => (argNum 1).bind fun b => (argNum 1).bind fun c =>
  (argNum 1).map (fun d => ⟨a, b, c, d⟩)

/-- A caller identity record as ROUTE_TEST carries it (R40, R50). -/
structure CidArgs where
  status : Nat
  date   : Option CidDate
  number : Option (List Byte)
  name   : Option (List Byte)
  numberWithheld : Option Nat
  nameWithheld   : Option Nat
  deriving DecidableEq, Repr

def argCid : Arg CidArgs := (argNum 1).bind fun st => argDate.opt.bind fun d => argText.opt.bind fun nu =>
  argText.opt.bind fun na => (argNum 1).opt.bind fun w => (argNum 1).opt.map (fun v => ⟨st, d, nu, na, w, v⟩)

def argRouteTest : Arg (Option CadenceClass × CidArgs) := argClass.bind fun c => argCid.map (fun r => (c, r))

/-- A text of 1 to 15 characters, or absent. -/
def textFits : Option (List Byte) → Bool
  | none => true
  | some t => decide (1 ≤ t.length) && decide (t.length ≤ 15)

/-- A withheld reason from its place; the outer option is none where it is illegal. -/
def withheldField : Option Nat → Option (Option Withheld)
  | none => some none
  | some 0 => some (some .priv)
  | some 1 => some (some .unavailable)
  | some _ => none

/-- The record of a ROUTE_TEST; fields sent with DAMAGED or NONE are ignored (R50). -/
def CidArgs.record (a : CidArgs) : Option CidRecord :=
  if a.status = 1 then some { status := .damaged }
  else if a.status = 2 then some { status := .none }
  else if a.status = 0 ∧ textFits a.number ∧ textFits a.name ∧ a.date.all CidDate.valid then
    match withheldField a.numberWithheld, withheldField a.nameWithheld with
    | some w, some v => some ⟨.complete, a.date, a.number, a.name, w, v⟩
    | _, _ => none
  else none

/-- The arguments of AREA_DEFINE (R61). -/
structure DefineArgs where
  id    : Nat
  start : Nat
  units : Nat
  high  : Option Nat
  low   : Option Nat
  deriving DecidableEq, Repr

def argDefine : Arg DefineArgs := (argNum 1).bind fun id => (argNum 1).bind fun st => (argNum 1).bind fun n =>
  (argNum 2).opt.bind fun h => (argNum 2).opt.map (fun l => ⟨id, st, n, h, l⟩)

def argPair : Arg (Nat × Nat) := (argNum 1).bind fun a => (argNum 1).map (fun b => (a, b))

/-- A ladder as LOAD_LADDER carries it: whether it is the fax ladder, and its steps (R79). -/
def argLadder : Arg (Bool × List LadderStep) := (argNum 1).bind fun t =>
  let step : Arg LadderStep := (argNum 2).bind fun r => (argNum 1).bind fun d => (argNum 1).map (fun u => ⟨r, d, u, 0⟩)
  if t = 0 then step.list.map (fun l => (false, l))
  else if t = 1 then (step.bind fun s => (argNum 1).map (fun n => { s with trainLimit := n })).list.map (fun l => (true, l))
  else Arg.fail

/-- The arguments of STORE_FORMAT: the size, which goes as the number of MiB itself, and the guard, if given (R141). DESIGN
CHOICE (notes/assumptions/5.md). -/
def argFormat : Arg (Nat × Option Nat) := (argNum 1).bind fun m => (argNum 1).opt.map (fun g => (m, g))

/-- The arguments of MSG_LIST: a mailbox or ALL, a filter, a starting index (R149). -/
def argList : Arg (Option Nat × Nat × Nat) := (argNum 1).bind fun t =>
  (if t = 0 then (argNum 1).map some else if t = 1 then Arg.pure none else Arg.fail).bind fun m =>
  (argNum 1).bind fun f => (argNum 1).map (fun n => (m, f, n))

def argMark : Arg (Nat × Nat) := (argNum 2).bind fun id => (argNum 1).map (fun n => (id, n))

def argUpload : Arg (Nat × Nat) := (argNum 2).bind fun id => (argNum 3).map (fun n => (id, n))

/-- The arguments of MSG_DOWNLOAD: a kind, a mailbox, and the coding bits, which go as the number itself (R153). DESIGN
CHOICE (notes/assumptions/5.md). -/
def argDownload : Arg (Nat × Nat × Nat) := (argNum 1).bind fun k => (argNum 1).bind fun m =>
  (argNum 1).map (fun b => (k, m, b))

/-- The target of RECORD: STORE with a kind and a mailbox, or HOST (R166). -/
def argRecord : Arg (Option (Nat × Nat)) := (argNum 1).bind fun t =>
  if t = 0 then argPair.map some else if t = 1 then Arg.pure none else Arg.fail

/-- The target of PLAY: STORE with a list of ids, or HOST (R167). -/
def argPlay : Arg (Option (List Nat)) := (argNum 1).bind fun t =>
  if t = 0 then (argNum 2).list.map some else if t = 1 then Arg.pure none else Arg.fail

def argDigits : Arg (List Nat) := (argNum 1).list

/-- The minute and day of SET_CLOCK (R59). -/
def argClock : Arg (Nat × Nat) := (argNum 2).bind fun m => (argNum 2).map (fun d => (m, d))

/-! ## Writing results and contents -/

/-- A number in `k` bytes, least significant first. -/
def encNum : Nat → Nat → List Byte
  | 0, _ => []
  | k + 1, n => byte (n % 256) :: encNum k (n / 256)

def encBool (b : Bool) : List Byte := [if b then 1 else 0]

/-- A number that may be negative, in one byte of two's complement. -/
def encSigned (n : Int) : List Byte := [BitVec.ofInt 8 n]

def encOpt (f : α → List Byte) : Option α → List Byte
  | none => [0]
  | some v => 1 :: f v

def encList (f : α → List Byte) (l : List α) : List Byte := byte l.length :: l.flatMap f

def encText (t : List Byte) : List Byte := byte t.length :: t

/-- An id, or none. -/
def encIdOr : Option Nat → List Byte
  | some id => 0 :: encNum 2 id
  | none => [1]

def encBits (bs : List Bool) : Nat := bs.foldr (fun b n => (if b then 1 else 0) + 2 * n) 0

def JobSet.encode (m : JobSet) : List Byte := [byte (encBits [m.data, m.fax, m.voice])]

def Direction.place : Direction → Nat
  | .none => 0 | .incoming => 1 | .outgoing => 2

/-- A result of classification: DATA, FAX, VOICE (R44). -/
def Job.resultPlace : Job → Nat
  | .data => 0 | .fax => 1 | _ => 2

/-- A basis of CLASSIFIED: R42 and R43 give the six in no single list. DESIGN CHOICE (notes/assumptions/5.md). -/
def Basis.place : Basis → Nat
  | .only => 0 | .timeout => 1 | .greetingEnd => 2 | .tone => 3 | .speech => 4 | .digit => 5

def Action.place : Action → Nat
  | .answer => 0 | .reject => 1 | .answerDrop => 2

def Override.place : Override → Nat
  | .none => 0 | .answer => 1 | .reject => 2

def EndReason.place : EndReason → Nat
  | .locally => 0 | .remote => 1 | .noLine => 2 | .noDialTone => 3 | .busy => 4 | .noAnswer => 5 | .abandoned => 6
  | .rejected => 7 | .noCarrier => 8 | .trainFail => 9 | .linkFail => 10 | .lineQuality => 11 | .faxProtocol => 12
  | .hostUnderrun => 13 | .done => 14 | .reset => 15

def RecEnd.place : RecEnd → Nat
  | .silence => 0 | .tone => 1 | .digit => 2 | .maxLength => 3 | .storeLow => 4 | .remote => 5 | .locally => 6
  | .discarded => 7

def PlayEnd.place : PlayEnd → Nat
  | .done => 0 | .digit => 1 | .locally => 2 | .remote => 3

def TransferEnd.place : TransferEnd → Nat
  | .done => 0 | .storeLow => 1 | .stopped => 2

def verdictPlace : Verdict → Nat
  | .good => 0 | .goodRetrain => 1 | .bad => 2

/-- A cause in RATE_CHANGED, where it is never absent: QUALITY is 0. DESIGN CHOICE (notes/assumptions/5.md). -/
def RateCause.place : RateCause → Nat
  | .quality => 0 | .errors => 1 | .host => 2 | .peer => 3

def MsgKind.place : MsgKind → Nat
  | .voice => 0 | .greeting => 1 | .fax => 2

def MsgState.place : MsgState → Nat
  | .opened => 0 | .new => 1 | .kept => 2

def Purpose.place : Purpose → Nat
  | .tx => 0 | .rx => 1 | .stage => 2

def ContentKind.place : ContentKind → Nat
  | .none => 0 | .data => 1 | .page => 2 | .voice => 3

def FlowState.place : FlowState → Nat
  | .go => 0 | .stop => 1

def ResetKind.place : ResetKind → Nat
  | .powerOn => 0 | .directive => 1 | .lineBreak => 2

def Withheld.place : Withheld → Nat
  | .priv => 0 | .unavailable => 1

def CidStatus.place : CidStatus → Nat
  | .complete => 0 | .damaged => 1 | .none => 2

/-- A cadence class as a field of the call record: absent, PENDING, 1 to 4, UNMATCHED (R56, R172). -/
def encClass : Option CadenceClass → List Byte
  | none => [0]
  | some .pending => [1]
  | some (.pattern n) => [2, byte n]
  | some .unmatched => [3]

def CidDate.encode (d : CidDate) : List Byte := [byte d.month, byte d.day, byte d.hour, byte d.minute]

def CidRecord.encode (r : CidRecord) : List Byte :=
  [byte r.status.place] ++ encOpt CidDate.encode r.date ++ encOpt encText r.number ++ encOpt encText r.name ++
  encOpt (fun w => [byte (Withheld.place w)]) r.numberWithheld ++ encOpt (fun w => [byte (Withheld.place w)]) r.nameWithheld

/-- A position, or DEFAULT. -/
def encPosition : Option Nat → List Byte
  | some n => [0, byte n]
  | none => [1]

def encByteOpt : Option Nat → List Byte := encOpt (fun n => [byte n])

def RoutingCopy.encode (c : RoutingCopy) : List Byte :=
  encPosition c.position ++ [byte c.action.place] ++ encByteOpt c.rings ++ c.mask.encode ++ [byte c.mailbox] ++
  encOpt (encNum 2) c.greeting ++ [byte c.override.place]

/-- A timestamp: (day, minute), or unset. -/
def encStamp : Stamp → List Byte
  | some (d, m) => 0 :: encNum 2 d ++ encNum 2 m
  | none => [1]

/-- The call record, field by field (R56). -/
def CallRecord.encode (c : CallRecord) : List Byte :=
  [byte (c.direction.place - 1), byte c.ringCount] ++ encClass c.cadence ++ encOpt CidRecord.encode c.cid ++
  encOpt RoutingCopy.encode c.routing ++
  encOpt (fun p => [byte (Job.resultPlace p.1), byte (Basis.place p.2)]) c.classification ++
  [byte c.job.place, byte c.ringback] ++ encStamp c.start ++ encOpt (fun r => [byte (EndReason.place r)]) c.endReason ++
  encByteOpt c.finalStep ++ encByteOpt c.pages ++ encOpt (encNum 2) c.messageId

/-- The job of a CONNECTED and its terms (R34, R100, R122). The fax role, never absent there, is 0 for SENDER: DESIGN CHOICE
(notes/assumptions/5.md). Block correction is named on or off, and so is 0 for on (R172). -/
def Terms.encode : Terms → List Byte
  | .data step rate w => [byte Job.data.place, byte step] ++ encNum 2 rate ++ [byte w]
  | .fax role step rate res bc =>
    [byte Job.fax.place, if role = .sender then 0 else 1, byte step] ++ encNum 2 rate ++
    [if res = .normal then 0 else 1, if bc then 0 else 1]
  | .voice => [byte Job.voice.place]

/-- A count of scan lines in two bytes (notes/assumptions/5.md). -/
def encLines (n : Nat) : List Byte := encNum 2 (min 65535 n)

def Signals.encode (r : Signals) : List Byte :=
  [r.ring, r.loop, r.carrier, r.hook, r.fRing, r.fLoop, r.fCarrier, r.fHook, r.trailing].flatMap encBool

/-- The content of a notice (R178). -/
def Notice.content : Notice → List Byte
  | .linkFrameBad n => [byte n]
  | .hostDataDropped n => encNum 2 n
  | .lineOverrun n => encNum 2 n
  | .ready f k => [byte Config.revision] ++ encBool f ++ [byte k.place]
  | .ring n c => byte n :: encClass (some c)
  | .callerId r => r.encode
  | .routed p a m b => encPosition p ++ [byte a.place] ++ m.encode ++ [byte b]
  | .classified j b => [byte j.resultPlace, byte b.place]
  | .connected t => t.encode
  | .callEnded c => c.encode
  | .rateChanged o n c q => [byte o, byte n, byte c.place, byte q]
  | .pageDone n v l b r => [byte n, byte (verdictPlace v)] ++ encLines l ++ encOpt encLines b ++ encOpt encLines r
  | .recordDone id len why => encIdOr id ++ encNum 3 len ++ [byte why.place]
  | .playDone id why sk => encIdOr id ++ [byte why.place] ++ encList (encNum 2) sk
  | .digits ds o => encList (fun d => [byte (digitPlace d)]) ds ++ encBool o
  | .transferDone id why => encIdOr id ++ [byte why.place]
  | .flow l => encList (fun p => [byte p.1.val, byte (FlowState.place p.2)]) l
  | .signals r => r.encode

/-- The payload of a notice frame: kind code, line value, flags, content (R171). -/
def Notice.payload (lineValue : Byte) (lost : Bool) (n : Notice) : List Byte :=
  [byte n.kind.code, lineValue, if lost then 1 else 0] ++ n.content

def Status.code : Status → Byte
  | .ok => 0x00 | .started => 0x01 | .clamped => 0x02 | .refusedState => 0x10 | .refusedBusy => 0x11
  | .refusedArg => 0x12 | .refusedTable => 0x14 | .refusedFull => 0x15 | .refusedArea => 0x16
  | .refusedStore => 0x17 | .refusedNotFound => 0x18 | .refusedUnknown => 0x19

/-- The payload of a reply frame: code, tag, status, results (R171). -/
def Reply.payload (r : Reply) : List Byte := [r.code, r.tag, r.status.code] ++ r.results

/-- A routing entry (R45, R49). -/
def RouteEntry.encode (e : RouteEntry) : List Byte :=
  [byte (encBits e.lines.toList)] ++
  (match e.ring with | .any => [0] | .pattern n => [1, byte n] | .unmatched => [2]) ++
  (match e.number with | .any => [0] | .withheld => [1] | .none => [2] | .digits d => 3 :: encText d) ++
  encOpt (fun w : Nat × Nat => encNum 2 w.1 ++ encNum 2 w.2) e.window ++ [byte e.action.place] ++ encByteOpt e.rings ++
  e.mask.encode ++ [byte e.mailbox] ++ encOpt (encNum 2) e.greeting

/-- The join of an area: unjoined 0, or 1 with a line and a purpose, in the order of R60, where R65 names the join first:
DESIGN CHOICE (notes/assumptions/5.md). -/
def encJoin : Option (LineId × Purpose) → List Byte
  | none => [0]
  | some (i, p) => [1, byte i.val, byte p.place]

/-- The record AREA_READ reports (R65). -/
def Area.encode (a : Area) : List Byte :=
  encBool a.isDefined ++ [byte a.start, byte a.units] ++ encNum 2 a.high ++ encNum 2 a.low ++ encJoin a.join ++
  [byte a.content.place] ++ encNum 2 a.occupancy ++ [byte a.marks.length, byte a.flow.place] ++
  encOpt (fun i : LineId => [byte i.val]) a.inUse

/-- The origin of an entry: a line, or TRANSFER (R145). -/
def encOrigin : Option LineId → List Byte
  | some i => [0, byte i.val]
  | none => [1]

/-- The place of an entry's end reason in the list R146 gives: the recording's ends, the call's end reasons, a
download's, and RESET, one after another (notes/assumptions/5.md). -/
def EntryEnd.place : EntryEnd → Nat
  | .recording r => r.place
  | .call r => 8 + r.place
  | .transfer r => 24 + r.place
  | .reset => 27

def EntryEnd.encode (r : EntryEnd) : List Byte := [byte r.place]

def PageRecord.encode (p : PageRecord) : List Byte :=
  encNum 3 p.start ++ encNum 3 p.length ++ [byte (verdictPlace p.verdict)] ++ encBool p.truncated

def encLineSet (l : List LineId) : List Byte := [byte (encBits (allLines.map (fun i => l.contains i)))]

/-- Every field of a directory entry (R145, R150). They go as one payload, also where they are more than the 255 bytes a
frame holds: R150 is silent. DESIGN CHOICE (notes/assumptions/5.md). -/
def Entry.encode (e : Entry) : List Byte :=
  encNum 2 e.id ++ [byte e.kind.place, byte e.state.place, byte e.mailbox] ++ encOrigin e.origin ++ encStamp e.stamp ++
  encOpt CidRecord.encode e.cid ++ encByteOpt e.bits ++ encNum 3 e.length ++ encNum 2 e.chain.length ++
  encOpt (encNum 2) e.chain.head? ++ encOpt EntryEnd.encode e.endReason ++ encList PageRecord.encode e.pages ++
  encLineSet e.playing ++ encLineSet e.faxing ++ encBool e.uploading

/-- A summary of MSG_LIST: the index and seven fields of the entry (R149). -/
def encSummary (p : Nat × Entry) : List Byte :=
  [byte p.1] ++ encNum 2 p.2.id ++ [byte p.2.kind.place, byte p.2.state.place, byte p.2.mailbox] ++
  encStamp p.2.stamp ++ encNum 3 p.2.length

/-- The transfer as STORE_STATUS reports it (R142). -/
def Transfer.encode : Transfer → List Byte
  | .none => [0]
  | .upload id _ => 1 :: encNum 2 id
  | .download id => 2 :: encNum 2 id
  | .ending _ => [3]

def RateState.place : RateState → Nat
  | .off => 0 | .retraining => 1 | .steady => 2 | .renegotiating => 3

/-- The rate-control state, with its target in RENEGOTIATING and RETRAINING (R93). -/
def Quality.encodeState (k : Quality) : List Byte :=
  match k.rc with
  | .off | .steady => [byte k.rc.place]
  | _ => [byte k.rc.place, byte (k.target.getD 0)]

/-! ## Profile fields (R5) -/

/-- Bytes of the value of a profile field; none for an unknown identifier. -/
def fieldWidth (id : Nat) : Option Nat :=
  if 51 < id then none
  else if id = 51 then some 3
  else if [5, 6, 7, 10, 11, 12, 13, 19, 22, 23, 30, 45, 46, 50].contains id then some 2
  else some 1

/-- The (field, value) pairs of a SET_PROFILE. -/
def argProfile : Arg (List (Nat × Nat)) :=
  Arg.list ((argNum 1).bind fun id =>
    match fieldWidth id with
    | some w => (argNum w).map (fun v => (id, v))
    | none => Arg.fail)

/-- A value brought into its range. -/
def clampTo (lo hi n : Nat) : Nat := max lo (min hi n)

/-- The range of a numeric field; none for the fields whose values are named (R5). -/
def fieldRange : Nat → Option (Nat × Nat)
  | 1 | 2 => some (40, 200)
  | 3 => some (30, 80) | 4 => some (20, 60) | 5 => some (300, 1500) | 6 => some (50, 1000)
  | 7 => some (1000, 10000) | 9 => some (10, 120) | 10 => some (50, 300) | 11 => some (500, 3000)
  | 12 => some (3000, 12000) | 13 => some (0, 5000) | 16 => some (1, 15) | 18 => some (0, 15)
  | 19 => some (2000, 30000) | 20 => some (6, 30) | 21 => some (3, 20) | 22 => some (100, 1000)
  | 23 => some (100, 2500) | 24 | 25 | 26 => some (0, 7) | 27 | 28 => some (0, 5) | 29 => some (1, 15)
  | 30 => some (500, 5000) | 31 => some (1, 15) | 32 => some (5, 60) | 33 => some (0, 8) | 34 => some (1, 16)
  | 35 | 36 => some (8, 255) | 37 => some (2, 16) | 39 => some (0, 20) | 40 => some (0, 40) | 41 => some (1, 64)
  | 44 => some (2, 15) | 45 => some (10, 600) | 46 => some (0, 3000) | 47 => some (0, 10) | 50 => some (0, 1000)
  | _ => none

/-- A numeric field set to a value of its range. -/
def Profile.setNum (p : Profile) (id v : Nat) : Profile :=
  match id with
  | 1 => { p with toneOnMs := v } | 2 => { p with toneOffMs := v } | 3 => { p with pulseBreakMs := v }
  | 4 => { p with pulseMakeMs := v } | 5 => { p with pulseInterdigitMs := v } | 6 => { p with flashMs := v }
  | 7 => { p with dialToneWaitMs := v } | 9 => { p with answerWaitS := v } | 10 => { p with ringQualifyMs := v }
  | 11 => { p with ringGapMs := v } | 12 => { p with ringAbandonMs := v } | 13 => { p with cidWaitMs := v }
  | 16 => { p with defaultRings := v } | 18 => { p with defaultMailbox := v } | 19 => { p with classifyMs := v }
  | 20 => { p with speechMarginDb := v } | 21 => { p with silenceMarginDb := v } | 22 => { p with loopDropMs := v }
  | 23 => { p with carrierLossMs := v } | 24 => { p with dataFloor := v } | 25 => { p with dataStart := v }
  | 26 => { p with dataCeiling := v } | 27 => { p with faxFloor := v } | 28 => { p with faxCeiling := v }
  | 29 => { p with windowMax := v } | 30 => { p with resendMs := v } | 31 => { p with retryLimit := v }
  | 32 => { p with pauseLimitS := v } | 33 => { p with impulsePenalty := v } | 34 => { p with fbPersist := v }
  | 35 => { p with ffPersist := v } | 36 => { p with dropPersist := v } | 37 => { p with errLimit := v }
  | 39 => { p with goodPct := v } | 40 => { p with acceptPct := v } | 41 => { p with runLimit := v }
  | 44 => { p with silenceEndS := v } | 45 => { p with maxRecordS := v } | 46 => { p with minRecordMs := v }
  | 47 => { p with faxWatchS := v } | 50 => { p with recordToneMs := v }
  | _ => p

/-- A field whose values are named; none where the value is not one of them (R5). -/
def Profile.setNamed (p : Profile) (id v : Nat) : Option Profile :=
  match id with
  | 0 => if v = 0 then some { p with dialMethod := .tone } else if v = 1 then some { p with dialMethod := .pulse } else none
  | 8 => (bool? v).map fun b => { p with blindDial := b }
  | 14 => (bool? v).map fun b => { p with cidSetsClock := b }
  | 15 => (bool? v).map fun b => { p with answerEnable := b }
  | 17 => (mask? v).map fun m => { p with defaultMask := m }
  | 38 => (bool? v).map fun b => { p with blockCorrection := b }
  | 42 => if v = 0 then some { p with faxTo := .host } else if v = 1 then some { p with faxTo := .store } else none
  | 43 => (within 2 4 v).map fun n => { p with voiceBits := n }
  | 48 => (bool? v).map fun b => { p with bargeIn := b }
  | 49 => (bool? v).map fun b => { p with voiceHold := b }
  | 51 => if v < 2 ^ 18 then some { p with noticeMask := BitVec.ofNat 18 v } else none
  | _ => none

/-- The pairs applied in order to a copy of the profile, with the fields clamped so far; none where a value refuses the
directive (R5). -/
def Profile.apply (p : Profile) (clamped : List Nat) : List (Nat × Nat) → Option (Profile × List Nat)
  | [] => some (p, clamped)
  | (id, v) :: t =>
    match fieldRange id with
    | some (lo, hi) =>
      let w := clampTo lo hi v
      let c := if w = v ∨ clamped.contains id then clamped else clamped ++ [id]
      (p.setNum id w).apply c t
    | none =>
      match p.setNamed id v with
      | some q => q.apply clamped t
      | none => none

/-- The steps of a profile are consistent (R5). -/
def Profile.consistent (p : Profile) : Bool :=
  decide (p.dataFloor ≤ p.dataCeiling) && decide (p.dataFloor ≤ p.dataStart) &&
  decide (p.dataStart ≤ p.dataCeiling) && decide (p.faxFloor ≤ p.faxCeiling)

end Sys2Proof.Machine
end

