-- ==== Sys2Proof/Machine/HostLink.lean ====
section
/-! DEFINITION. The Host Link Unit and the Directive Decoder: the receive parser (R173), host frames into TX areas and
downloads (R68, R153, R154), the Decoder and the reply list (R175, R176), the outbound arbiter (R177), and the resets
of the whole part (R155, R182). -/

namespace Sys2Proof.Machine

/-! ## Replies and the Decoder (R175, R176) -/

/-- What a directive comes to: the status and results of its reply, and the state it leaves. -/
structure Answer where
  status  : Status
  results : List Byte
  state   : State
  deriving DecidableEq, Repr

def State.answer (s : State) (st : Status) (results : List Byte) : Answer := ⟨st, results, s⟩

/-- A refusal: nothing changes and no results are given. -/
def State.refuse (s : State) (st : Status) : Answer := ⟨st, [], s⟩

/-- Replies made and not yet transmitted (R176). -/
def State.repliesOut (s : State) : Nat :=
  s.replies.length +
  (match s.outFrame with
   | some f => (match f.source with | .reply _ => 1 | _ => 0)
   | none => 0)

def State.replyRoom (s : State) : Bool := decide (s.repliesOut < Config.replyListMax)

def State.reply (s : State) (r : Reply) : State := { s with replies := s.replies ++ [r] }

/-- A directive may be taken into hand at once: none in hand, none waiting, and no part reset on its way. -/
def Decoder.idle (d : Decoder) : Bool := d.hand.isNone && d.input.isEmpty && !d.resetting

/-- The oldest directive of the input list is taken into hand (R175 step 4). -/
def Decoder.next (d : Decoder) : Decoder :=
  if d.resetting then { d with hand := none }
  else match d.input with
    | [] => { d with hand := none }
    | h :: t => { d with hand := some h, input := t }

/-- A complete directive reaches the Decoder: into hand, into the input list, or discarded (R175, R176). -/
def State.arrive (s : State) (h : Handed) : State :=
  if s.decoder.idle then { s with decoder.hand := some h }
  else if s.decoder.input.length < Config.inputListMax then { s with decoder.input := s.decoder.input ++ [h] }
  else if s.replyRoom then s.reply ⟨h.code, h.dir.tag, .refusedFull, []⟩
  else s.notifyPart (.linkFrameBad 1)

/-- A part reset waits for the transmission of the reply to PART_RESET, code 0x01 (R182). -/
def resets (code : Byte) (st : Status) : Bool := code == 0x01 && decide (st = .ok)

/-- The directive in hand is dealt with, where the reply list has room: its block acts, its reply joins the list, and
the next directive is taken into hand (R175, R176). -/
def State.deal (s : State) (h : Handed) (run : Directive → State → Answer) : State :=
  if s.replyRoom then
    let a := run h.dir s
    let s1 := a.state.reply ⟨h.code, h.dir.tag, a.status, a.results⟩
    { s1 with decoder := { s1.decoder with resetting := s1.decoder.resetting || resets h.code a.status }.next }
  else s

/-- A directive as a command: dealt with where it is in hand, taken and dealt with where the Decoder is idle, and
otherwise an arrival (notes/assumptions/4.md). -/
def State.directive (s : State) (code : Byte) (d : Directive) (run : Directive → State → Answer) : State :=
  if s.decoder.hand = some ⟨code, d⟩ then s.deal ⟨code, d⟩ run
  else if s.decoder.idle then ({ s with decoder.hand := some ⟨code, d⟩ } : State).deal ⟨code, d⟩ run
  else s.arrive ⟨code, d⟩

/-! ## Line values and arguments (R175 steps 2 and 3) -/

def lineOf? (b : Byte) : Option LineId := if h : b.toNat < 4 then some ⟨b.toNat, h⟩ else none

/-- A directive that acts on one line: its line value, then its arguments; an argument of no named form reaches the
directive's own checks as none. -/
def onLine (p : Arg α) (f : LineId → Option α → State → Answer) (d : Directive) (s : State) : Answer :=
  match lineOf? d.line with
  | none => s.refuse .refusedUnknown
  | some i =>
    match p.read d.args with
    | .good v => f i (some v) s
    | .bad    => f i none s
    | .count  => s.refuse .refusedArg

/-- A directive sent with line value 0x0E. -/
def onPart (p : Arg α) (f : Option α → State → Answer) (d : Directive) (s : State) : Answer :=
  if d.line = 0x0E then
    match p.read d.args with
    | .good v => f (some v) s
    | .bad    => f none s
    | .count  => s.refuse .refusedArg
  else s.refuse .refusedUnknown

/-- A directive that names one line, or all with 0x0F. -/
def onLines (p : Arg α) (f : List LineId → Bool → Option α → State → Answer) (d : Directive) (s : State) : Answer :=
  let go := fun (ls : List LineId) (all : Bool) =>
    match p.read d.args with
    | .good v => f ls all (some v) s
    | .bad    => f ls all none s
    | .count  => s.refuse .refusedArg
  if d.line = 0x0F then go allLines true
  else match lineOf? d.line with
    | some i => go [i] false
    | none   => s.refuse .refusedUnknown

/-! ## Host frames into TX areas and downloads (R68, R153, R154) -/

/-- The line's job takes a frame kind (R68). -/
def Line.takesFrame (l : Line) : DataKind → Bool
  | .data  => decide (l.job = .data)
  | .page  => decide (l.job = .fax) && decide (l.faxSource = some .host)
  | .voice => decide (l.job = .voice)

/-- A DATA, PAGE or VOICE frame for a line (R68). -/
def State.hostData (s : State) (i : LineId) (k : DataKind) (payload : List Byte) : State :=
  match s.joined i .tx with
  | none => s.dropHost i payload.length
  | some a =>
    if (s.line i).takesFrame k then
      let r := s.append a payload
      (if r.2 = 0 then r.1 else r.1.faxTxArrives i).dropHost i (payload.length - r.2)
    else s.dropHost i payload.length

/-- The page mark a PAGE_END payload names (R68). -/
def pageMark? : List Byte → Option PageMark
  | [b] => if b = 0 then some .more else if b = 1 then some .last else none
  | _ => none

/-- A PAGE_END frame for a line (R68). -/
def State.hostPageEnd (s : State) (i : LineId) (payload : List Byte) : State :=
  if payload = [] then s
  else
    match s.joined i .tx, pageMark? payload with
    | some a, some m =>
      if (s.line i).takesFrame .page then
        match s.addMark a m with
        | some s1 => s1.faxTxArrives i
        | none => s.dropHost i 1
      else s.dropHost i 1
    | _, _ => s.dropHost i 1

/-- A download ends: its entry is closed or deleted, and TRANSFER_DONE queued (R153, R154). -/
def State.endDownload (s : State) (id : Nat) (why : TransferEnd) : State :=
  let s1 := s.closeEntry id (.transfer why)
  ({ s1 with store.transfer := .none } : State).notifyPart
    (.transferDone (if (s1.entry? id).isSome then some id else none) why)

/-- Channel 5 bytes that no transfer takes are dropped (R154). -/
def State.dropStore (s : State) (n : Nat) : State := if n = 0 then s else s.notifyPart (.hostDataDropped n)

/-- A STORE_DATA frame: written whole to the download's entry, each block asked for as GUARDED (R144, R153). -/
def State.hostStoreData (s : State) (payload : List Byte) : State :=
  match s.store.transfer with
  | .download id =>
    let room := ((s.entry? id).map Entry.room).getD 0
    let s1 := s.storeBytes id payload
    let rest := payload.drop room
    if rest = [] then s1
    else
      let s2 := (s1.request ⟨id, .guarded, none⟩).serveAll
      if ((s2.entry? id).map Entry.room).getD 0 = 0 then s2.endDownload id .storeLow
      else s2.storeBytes id rest
  | _ => s.dropStore payload.length

/-- A STORE_END frame (R153, R154). -/
def State.hostStoreEnd (s : State) : State :=
  match s.store.transfer with
  | .download id => s.endDownload id .done
  | _ => s.dropStore 1

/-! ## The receive parser (R173) -/

/-- A bad frame is discarded and counted (R173). -/
def State.badFrame (s : State) : State :=
  ({ s with parser := .hunt, gapTimer := none } : State).notifyPart (.linkFrameBad 1)

/-- A header of a frame defined for the incoming direction (R171). -/
def definedIncoming (channel kind : Nat) : Bool :=
  (channel == 0 && kind == 1) || (decide (1 ≤ channel) && decide (channel ≤ 4) && decide (1 ≤ kind) && decide (kind ≤ 4)) ||
  (channel == 5 && (kind == 1 || kind == 2))

/-- The line of a channel from 1 to 4. -/
def channelLine (channel : Nat) : LineId := ⟨(channel - 1) % 4, Nat.mod_lt _ (by decide)⟩

/-- A complete frame is handed on (R173). -/
def State.handOn (s : State) (channel kind : Nat) (payload : List Byte) : State :=
  let s := { s with parser := ParserState.hunt, gapTimer := none }
  match channel, kind with
  | 0, _ =>
    match payload with
    | code :: line :: tag :: args => s.arrive ⟨code, ⟨line, tag, args⟩⟩
    | _ => s.badFrame
  | 5, 1 => s.hostStoreData payload
  | 5, _ => s.hostStoreEnd
  | c, 1 => s.hostData (channelLine c) .data payload
  | c, 2 => s.hostData (channelLine c) .page payload
  | c, 3 => s.hostPageEnd (channelLine c) payload
  | c, _ => s.hostData (channelLine c) .voice payload

/-- The parser goes on with a frame: the 50 ms to its next byte start (R173). -/
def State.parsing (s : State) (p : ParserState) : State := { s with parser := p, gapTimer := s.start 50 }

/-- A good byte (R173). -/
def State.takeByte (s : State) (b : Byte) : State :=
  match s.parser with
  | .hunt => if b = 0xC5 then s.parsing .header else s
  | .header =>
    if definedIncoming (b.toNat / 16) (b.toNat % 16) then s.parsing (.length (b.toNat / 16) (b.toNat % 16)) else s.badFrame
  | .length c k => if b = 0 then s.handOn c k [] else s.parsing (.payload c k b.toNat [])
  | .payload c k left got =>
    if left ≤ 1 then s.handOn c k (got ++ [b]) else s.parsing (.payload c k (left - 1) (got ++ [b]))

/-- One byte from the incoming line, good or with a framing error; during a break they are skipped (R173, R174). -/
def State.rx (s : State) (b : RxByte) : State :=
  if s.inBreak then s
  else match b with
    | .good b => s.takeByte b
    | .framingError => if s.parser = .hunt then s else s.badFrame

def State.feed (s : State) (bs : List RxByte) : State := bs.foldl State.rx s

/-- The bytes of a frame on the wire (R171). -/
def wireFrame (channel kind : Nat) (payload : List Byte) : List RxByte :=
  ([0xC5, byte (channel * 16 + kind), byte payload.length] ++ payload).map .good

def DataKind.wireKind : DataKind → Nat
  | .data => 1 | .page => 2 | .voice => 4

/-! ## The outbound arbiter (R177) -/

/-- The lines in the order they are looked at after the last one served. -/
def linesAfter (i : LineId) : List LineId := [i + 1, i + 2, i + 3, i]

/-- The data sources in their order, and in the order they are looked at after the last one served. -/
def allSources : List DataSource := [.rx 0, .rx 1, .rx 2, .rx 3, .channel5]

def sourcesAfter (d : DataSource) : List DataSource :=
  match allSources.idxOf? d with
  | some n => allSources.drop (n + 1) ++ allSources.take (n + 1)
  | none => allSources

def State.sendFrame (s : State) (f : OutFrame) : State := { s with outFrame := some f }

/-- The first of the lines given whose queue holds an entry. -/
def State.noticeLine (s : State) (ls : List LineId) : Option LineId :=
  ls.find? (fun i => !(s.line i).queue.entries.isEmpty)

/-- A data source offers a frame (R69, R152). -/
def State.offers (s : State) : DataSource → Bool
  | .rx i =>
    match s.joined i .rx with
    | some k => decide (0 < (s.area k).occupancy) || (s.area k).headMark.isSome
    | none => false
  | .channel5 =>
    match s.store.transfer with
    | .upload _ _ | .ending _ => true
    | _ => false

def ContentKind.wireKind : ContentKind → Nat
  | .page => 2 | .voice => 4 | _ => 1

/-- The RX area of a line gives its next frame: a page mark as PAGE_END, or up to 255 bytes (R69). A mark held by the
Fax Engine, and a pause of the Link Engine, are looked at after the removal (R111, R132). -/
def State.serveRx (s : State) (i : LineId) : State :=
  match s.joined i .rx with
  | none => s
  | some k =>
    match (s.area k).headMark with
    | some m =>
      ((s.takeMark k).addHeldMark i).sendFrame
        ⟨i.val + 1, 3, [if m = .more then 0 else 1], .rx i⟩
    | none =>
      let r := s.remove k 255
      (r.2.checkResume i).sendFrame ⟨i.val + 1, (s.area k).content.wireKind, r.1, .rx i⟩

/-- Channel 5 gives the next frame of the transfer (R152, R154). -/
def State.serveTransfer (s : State) : State :=
  match s.store.transfer with
  | .upload id pos =>
    match s.entry? id with
    | some e =>
      if pos < e.length then
        let n := min 255 (e.length - pos)
        ({ s with store.transfer := .upload id (pos + n) } : State).sendFrame
          ⟨5, 1, s.readEntry e pos n, .upload⟩
      else s.sendFrame ⟨5, 2, [], .uploadEnd⟩
    | none => s.sendFrame ⟨5, 2, [], .uploadEnd⟩
  | .ending _ => s.sendFrame ⟨5, 2, [], .uploadEnd⟩
  | _ => s

def State.serveSource (s : State) : DataSource → State
  | .rx i => s.serveRx i
  | .channel5 => s.serveTransfer

/-- The next frame, in the order of R177: a reply, a part notice, a line notice, or data. -/
def State.choose (s : State) : State :=
  match s.replies with
  | r :: t => ({ s with replies := t } : State).sendFrame ⟨0, 2, r.payload, .reply (resets r.code r.status)⟩
  | [] =>
    match s.partQueue.take? with
    | some (n, lost, q) => ({ s with partQueue := q } : State).sendFrame ⟨0, 3, n.payload 0x0E lost, .partNotice⟩
    | none =>
      match s.noticeLine (linesAfter s.lastLine) with
      | some i =>
        match (s.line i).queue.take? with
        | some (n, lost, q) =>
          ({ s.modLine i (fun l => { l with queue := q }) with lastLine := i } : State).sendFrame
            ⟨0, 3, n.payload (byte i.val) lost, .lineNotice i⟩
        | none => s
      | none =>
        match (sourcesAfter s.lastSource).find? s.offers with
        | some d => ({ s with lastSource := d } : State).serveSource d
        | none => s

/-! ## Resets of the whole part (R155, R182) -/

/-- A line after a part reset or power-on; its input pins stand as they are. -/
def Line.atReset (l : Line) : Line := { realRing := l.realRing, realLoop := l.realLoop }

/-- An OPEN entry is closed with RESET by a reset (R155). -/
def State.closeByReset (s : State) (id : Nat) : State := s.closeEntry id .reset

/-- The store after a part reset: open entries closed, marks cleared, requests and transfer gone (R155). That the entries
are closed in directory order is a DESIGN CHOICE (notes/assumptions/24.md). -/
def State.resetStore (s : State) : State :=
  let ids := (s.store.dir.filter (fun e => decide (e.state = .opened))).map Entry.id
  let s1 := ids.foldl State.closeByReset { s with store.requests := [] }
  { s1 with store := { s1.store with
      transfer := .none
      dir := s1.store.dir.map (fun e => { e with playing := [], faxing := [], uploading := false }) } }

/-- A part reset takes effect: every block takes its reset state; the clock, the store and the DRAM are kept (R182). -/
def State.partReset (s : State) : State :=
  let s1 := s.resetStore
  { now := s.now, lines := s.lines.map Line.atReset, clock := s.clock, store := s1.store, dram := s1.dram
    pending := s.pending }

/-- READY is queued in the part queue (R182). -/
def State.ready (s : State) (k : ResetKind) : State := s.notifyPart (.ready s.store.formatted k)

/-- An upload is over (R154). -/
def State.endUpload (s : State) (id : Nat) (why : TransferEnd) : State :=
  let s1 := s.modEntry id (fun e => { e with uploading := false })
  ({ s1 with store.transfer := .none } : State).notifyPart (.transferDone (some id) why)

/-- The frame in transmission has been sent: a PART_RESET takes effect, an upload ends (R154, R177, R182). -/
def State.frameSent (s : State) (f : OutFrame) : State :=
  let s1 := { s with outFrame := none }
  match f.source with
  | .reply true => s1.partReset.ready .directive
  | .uploadEnd =>
    match s1.store.transfer with
    | .upload id _ => s1.endUpload id .done
    | .ending id   => s1.endUpload id .stopped
    | _ => s1
  | _ => s1
end Sys2Proof.Machine
end

