-- ==== Sys2Proof/Machine/HostEvents.lean ====
section
/-! DEFINITION. The meanings of the host link's commands (R68, R153, R154, R173 to R177, R182). -/

namespace Sys2Proof.Machine

/-- POWER_ON: every block at its reset state, READY queued (R182). -/
def execPowerOn (s : State) : Result :=
  .next { State.reset with lines := s.lines.map Line.atReset, pending := s.pending }

/-- PART_RESET, code 0x01: no arguments, line value 0x0E; the reset follows the transmission of its reply (R182). -/
def runPartReset : Directive → State → Answer := onPart (Arg.pure ()) fun _ s => s.answer .ok []

def execPartReset (d : Directive) (s : State) : Result := .next (s.directive 0x01 d runPartReset)

/-- BREAK: a part reset, once for each break (R174). -/
def execLineBreak (s : State) : Result :=
  .next (if s.inBreak then s else { s.partReset with inBreak := true })

/-- BREAK_END: the line is back at mark, and READY is queued (R174). -/
def execBreakEnd (s : State) : Result :=
  .next (if s.inBreak then ({ s with inBreak := false } : State).ready .lineBreak else s)

/-- HOST_DIRECTIVE_FRAME (R173, R175). -/
def execHostDirectiveFrame (payload : List Byte) (s : State) : Result := .next (s.feed (wireFrame 0 1 payload))

/-- HOST_LINE_DATA_FRAME (R68, R173). -/
def execHostLineDataFrame (i : LineId) (k : DataKind) (payload : List Byte) (s : State) : Result :=
  .next (s.feed (wireFrame (i.val + 1) (DataKind.wireKind k) payload))

/-- HOST_PAGE_END_FRAME (R68, R173). -/
def execHostPageEndFrame (i : LineId) (payload : List Byte) (s : State) : Result :=
  .next (s.feed (wireFrame (i.val + 1) 3 payload))

/-- HOST_STORE_DATA_FRAME (R153, R154, R173). -/
def execHostStoreDataFrame (payload : List Byte) (s : State) : Result := .next (s.feed (wireFrame 5 1 payload))

/-- HOST_STORE_END_FRAME (R153, R154, R173). -/
def execHostStoreEndFrame (payload : List Byte) (s : State) : Result := .next (s.feed (wireFrame 5 2 payload))

/-- HOST_FRAME_BAD: the bytes of a frame that goes wrong (R173). -/
def execHostFrameBad (wire : List RxByte) (s : State) : Result := .next (s.feed wire)

/-- INTER_BYTE_GAP_EXPIRY: a frame in hand is bad after 50 ms without a byte (R173). -/
def execInterByteGapExpiry (s : State) : Result :=
  .next (if s.parser ≠ .hunt ∧ due s.now s.gapTimer = true then s.badFrame else s)

/-- The codes of the directives. -/
def knownCodes : List Byte :=
  [0x01, 0x02, 0x10, 0x11, 0x12, 0x13, 0x14, 0x15, 0x16, 0x17, 0x18, 0x20, 0x21, 0x28, 0x29, 0x2A, 0x2B, 0x2C, 0x2D, 0x2E,
   0x2F, 0x30, 0x31, 0x32, 0x33, 0x34, 0x40, 0x41, 0x42, 0x50, 0x60, 0x61, 0x62, 0x63, 0x64, 0x65, 0x66, 0x67, 0x68, 0x70,
   0x71, 0x72]

/-- UNKNOWN_DIRECTIVE: an unknown code is answered REFUSED_UNKNOWN (R175 step 1). -/
def execUnknownDirective (code : Byte) (d : Directive) (s : State) : Result :=
  .next (if knownCodes.contains code then s else s.directive code d (fun _ s => s.refuse .refusedUnknown))

/-- OUTBOUND_FRAME_CHOICE: with no frame in transmission the arbiter picks the next (R177). -/
def execOutboundFrameChoice (s : State) : Result := .next (if s.outFrame.isSome then s else s.choose)

/-- OUTBOUND_FRAME_SENT (R154, R177, R182). -/
def execOutboundFrameSent (s : State) : Result :=
  .next (match s.outFrame with
    | some f => s.frameSent f
    | none   => s)

end Sys2Proof.Machine
end

