-- ==== Sys2Proof/Machine/LineDirectives.lean ====
section
/-! DEFINITION. The directives on lines and calls: LINE_ENABLE to LOOP_SIGNALS (R2 to R5, R14, R17, R21), SEND_DIGITS
(R37), ANSWER and REJECT (R54, R55), RATE_REQUEST and QUALITY_READ (R92, R93), FAX_DOCUMENT (R137) and LINE_STATUS
(R181). -/

namespace Sys2Proof.Machine

/-! ## Enabling, disabling and resetting a line (R2 to R4) -/

/-- An OFFLINE line is enabled; any other is left as it is (R2). -/
def State.enableLine (s : State) (i : LineId) : State :=
  if (s.line i).state = .offline then (s.pass i .idle).modLine i (Line.resumeRing s.now) else s

def runLineEnable : Directive → State → Answer := onLines (Arg.pure ()) fun ls all _ s =>
  if !all && ls.any (fun i => decide ((s.line i).state ≠ .offline)) then s.refuse .refusedState
  else (ls.foldl State.enableLine s).answer .ok []

/-- A call in ALERTING leaves it, which closes its caller identity window (R38). -/
def State.leaveAlerting (s : State) (i : LineId) : State :=
  if (s.line i).state = .alerting then s.closeWindow i else s

/-- The call in progress, if any, ends with a reason (R18). -/
def State.endCall (s : State) (i : LineId) (why : EndReason) : State :=
  if (s.line i).call.isSome then (s.leaveAlerting i).callEnd i why else s

/-- The substitute signals and the loopback ring at the values of R1. -/
def Line.noLoopback (l : Line) : Line := { l with substRing := false, substLoop := true, loopCount := 0, loopClass := none }

/-- A line is disabled: its call ends LOCAL, and it goes to OFFLINE (R3). That the loopback ring returns to count 0 and
class none as LOOPBACK is left so is a DESIGN CHOICE (notes/assumptions/20.md). -/
def State.disableLine (s : State) (i : LineId) : State :=
  if (s.line i).state = .offline then s
  else ((s.endCall i .locally).modLine i (fun l => { l.noLoopback with guard := none })).pass i .offline

def runLineDisable : Directive → State → Answer := onLines (Arg.pure ()) fun ls _ _ s =>
  (ls.foldl State.disableLine s).answer .ok []

/-- Any entry the line holds OPEN is closed with RESET (R155). -/
def State.closeOpenByReset (s : State) (i : LineId) : State :=
  match s.store.dir.find? (fun e => decide (e.state = .opened) && decide (e.origin = some i)) with
  | some e => s.closeByReset e.id
  | none => s

/-- The areas of the line are flushed and its notice queue emptied (R4 step 3). -/
def State.flushLine (s : State) (i : LineId) : State := (s.resetAreas i).modLine i (fun l => { l with queue := {} })

/-- The engines of a line after a line reset (R22, R74). -/
def Line.resetEngines (l : Line) : Line := { l with tone := {}, quality := {}, guard := none }

/-- A call dropped by a line reset: stopped with no exchange, then reported into the emptied queue (R4 steps 1 to 4). -/
def State.dropByReset (s : State) (i : LineId) : State :=
  let s1 := (s.leaveAlerting i).modLine i (fun l => l.modCall (fun c => { c with endReason := some .reset }))
  let s2 := if (s1.line i).call.isSome then s1.stopEngine i .reset else s1
  let s3 := ((s2.withdraw i).closeOpenByReset i).flushLine i
  let s4 := ((s3.clearFaxing i).clearPlaying i).releaseAreas i
  (s4.reportEnd i).modLine i Line.noCall

/-- The inputs a line reset leaves: measurement without cycles, or none where the line did not measure real ringing. -/
def Line.ringAfterReset (l : Line) : RingMeter := if l.state = .loopback then {} else l.ring.inputs

/-- A line that leaves LOOPBACK by a line reset takes the real values with no change flag (R4 step 6). -/
def Line.realSignals (l : Line) : Line :=
  if l.state = .loopback then { l with signals := { l.signals with ring := false, loop := l.realLoop } } else l

/-- A line is reset (R4). -/
def State.resetLine (s : State) (i : LineId) : State :=
  let off := decide ((s.line i).state = .offline)
  let s1 := (s.dropByReset i).modLine i (fun l =>
    { l.resetEngines.realSignals.noLoopback with signals := l.realSignals.signals.clear, ring := l.ringAfterReset })
  if off then s1 else s1.enterIdle i

def runLineReset : Directive → State → Answer := onLines (Arg.pure ()) fun ls _ _ s =>
  (ls.foldl State.resetLine s).answer .ok []

/-! ## The profile (R5) -/

/-- The profile a list gives on a line; none where it is refused. -/
def State.newProfile (s : State) (pairs : List (Nat × Nat)) (i : LineId) : Option (Profile × List Nat) :=
  match (s.line i).profile.apply [] pairs with
  | some (p, c) => if p.consistent then some (p, c) else none
  | none => none

def State.setProfileOf (pairs : List (Nat × Nat)) (s : State) (i : LineId) : State :=
  match s.newProfile pairs i with
  | some (p, _) => s.modLine i (fun l => { l with profile := p })
  | none => s

def runSetProfile : Directive → State → Answer := onLines argProfile fun ls _ a s =>
  match a with
  | none => s.refuse .refusedArg
  | some pairs =>
    if ls.all (fun i => (s.newProfile pairs i).isSome) then
      let clamped := (ls.head?.bind (s.newProfile pairs)).elim [] Prod.snd
      (ls.foldl (State.setProfileOf pairs) s).answer (if clamped.isEmpty then .ok else .clamped)
        (if clamped.isEmpty then [] else encList (fun n => [byte n]) clamped)
    else s.refuse .refusedArg

/-! ## Dialling (R14) -/

/-- The arguments of DIAL are legal for the line: every element, and the length of the list (R14 check 2). -/
def Line.dialList? (l : Line) (a : DialArgs) : Option (List DialElement) :=
  match allSome a.list with
  | none => none
  | some es =>
    let fits := if l.state = .loopback then es.isEmpty else decide (1 ≤ es.length) && decide (es.length ≤ 40)
    let pulses := es.all (fun e => match e with | .digit d => (digitBreaks? d).isSome | _ => true)
    if fits && (decide (l.profile.dialMethod = .tone) || pulses) then some es else none

/-- A document that may be sent: a FAX in NEW or KEPT (R14, R137). -/
def State.sendable (s : State) (id : Nat) : Bool :=
  match s.entry? id with
  | some e => decide (e.kind = .fax) && decide (e.state ≠ .opened)
  | none => false

/-- The areas an outgoing call's job needs are joined, and which of them it uses (R70). -/
def State.dialReady (s : State) (i : LineId) (a : DialArgs) : Bool :=
  match a.job, a.source with
  | .fax, some (.store _) => s.hasArea i .stage
  | .fax, _ => s.hasArea i .tx
  | .data, _ => s.hasArea i .tx && s.hasArea i .rx
  | _, _ => s.hasArea i .stage || s.hasArea i .rx || s.hasArea i .tx

/-- The areas a dialled job uses (R70), in the order in which they take their kind: DESIGN CHOICE
(notes/assumptions/11.md). -/
def DialArgs.uses (a : DialArgs) : List Purpose :=
  match a.job, a.source with
  | .fax, some (.store _) => [.stage]
  | .fax, _ => [.tx]
  | .data, _ => [.tx, .rx]
  | _, _ => [.stage, .rx, .tx]

/-- The document of a FAX_SEND from the store. -/
def DialArgs.document (a : DialArgs) : Option Nat :=
  match a.source with
  | some (.store id) => some id
  | _ => none

/-- The call record an outgoing call starts with (R14, R56). -/
def State.outgoingCall (s : State) (j : Job) : CallRecord :=
  { direction := .outgoing, ringCount := 0, cadence := none, cid := none, job := j, start := s.stamp }

/-- The line context at DIAL take, with the document's mark and the areas in use (R14, R70). -/
def State.takeDial (s : State) (i : LineId) (a : DialArgs) (es : List DialElement) : State :=
  let s1 := s.modLine i (fun l => { l with
    job := a.job, direction := .outgoing, faxSource := a.source, dialList := es, dialPos := 0
    call := some (s.outgoingCall a.job), copies := s.callCopies l.profile })
  let s2 := match a.document with
    | some id => s1.markFaxing id i
    | none => s1
  s2.useAreas i a.uses a.job.content

/-- A job starts on the loopback path (R21, R22, R30). -/
def State.startLoopJob (s : State) (i : LineId) (j : Job) : State :=
  let s1 := (s.modLine i (fun l =>
    let l1 := { l with
      loopCount := 0, loopClass := none, ring := {}
      tone := { l.tone.pass s.toneTable s.now .idle l.row with nf16 := -960 } }
    { l1 with loopTimer := l1.freshLoopTimer s.now })).signalRing i false false
  match j with
  | .data  => s1.startData i .originate
  | .fax   => s1.startFaxSender i
  | .voice => s1.startHostVoice i
  | .none  => s1

def runDial : Directive → State → Answer := onLine argDial fun i a s =>
  let l := s.line i
  if l.state = .loopback ∧ l.job ≠ .none then s.refuse .refusedBusy
  else if l.state ≠ .idle ∧ l.state ≠ .loopback then s.refuse .refusedState
  else match a with
  | none => s.refuse .refusedArg
  | some a =>
    match l.dialList? a with
    | none => s.refuse .refusedArg
    | some es =>
      if a.document.isSome ∧ s.store.formatted = false then s.refuse .refusedStore
      else if a.document.any (fun id => !s.sendable id) then s.refuse .refusedNotFound
      else if l.state ≠ .loopback ∧ l.profile.blindDial = false ∧ s.hasTone .dial = false then s.refuse .refusedTable
      else if s.dialReady i a = false then s.refuse .refusedArea
      else
        let s1 := s.takeDial i a es
        (if l.state = .loopback then s1.startLoopJob i a.job else s1.seize i).answer .started []

/-! ## Hanging up (R17) -/

/-- The line has a call HANG_UP can act on (R17). -/
def Line.canHangUp (l : Line) : Bool :=
  match l.state with
  | .offline | .idle | .alerting | .release => false
  | .loopback => decide (l.job ≠ .none)
  | _ => true

def runHangUp : Directive → State → Answer := onLine (argNum 1) fun i a s =>
  let l := s.line i
  if l.canHangUp = false then s.refuse .refusedState
  else match a.bind bool? with
  | none => s.refuse .refusedArg
  | some drain =>
    match l.row with
    | .data => (s.hangUpData i drain).answer .started []
    | .fax  => (s.hangUpFax i).answer .started []
    | _     => (s.release i .locally).answer .ok []

/-! ## Loopback (R21) -/

def State.enterLoopback (s : State) (i : LineId) : State :=
  (s.modLine i (fun l => { l.noLoopback with ring := {} })).pass i .loopback

/-- LOOPBACK is left: a job ends LOCAL, the real inputs come back, the line enters IDLE (R21). -/
def State.leaveLoopback (s : State) (i : LineId) : State :=
  ((s.endCall i .locally).modLine i (fun l => { l.noLoopback with ring := {} })).enterIdle i

/-- LOOPBACK, code 0x17, with argument enter (0) or leave (1). -/
def runLoopback : Directive → State → Answer := onLine (argNum 1) fun i a s =>
  match a with
  | some 0 =>
    if (s.line i).state = .idle then (s.enterLoopback i).answer .ok [] else s.refuse .refusedState
  | some 1 =>
    if (s.line i).state = .loopback then (s.leaveLoopback i).answer .ok [] else s.refuse .refusedState
  | _ => s.refuse .refusedArg

/-- The substitute signals take new values, which act as the real inputs would (R21). -/
def State.substitute (s : State) (i : LineId) (ring loop : Bool) : State :=
  let l := s.line i
  let s1 := s.modLine i (fun l =>
    let l1 := { l with substRing := ring, substLoop := loop }
    let l2 := if l.measuresRing && (l.substRing != ring) then l1.ringChange s.now ring else l1
    if l.substLoop = loop then l2 else l2.loopChange s.now)
  if l.substLoop = loop then s1 else s1.signalLoop i loop

def runLoopSignals : Directive → State → Answer := onLine argPair fun i a s =>
  if (s.line i).state ≠ .loopback then s.refuse .refusedState
  else match a.bind (fun p => bool? p.1), a.bind (fun p => bool? p.2) with
  | some r, some l => (s.substitute i r l).answer .ok []
  | _, _ => s.refuse .refusedArg

/-! ## SEND_DIGITS (R37) -/

def runSendDigits : Directive → State → Answer := onLine argDigits fun i a s =>
  let l := s.line i
  if l.inVoice = false then s.refuse .refusedState
  else match a.bind (fun ns => allSome (ns.map digitOfPlace?)) with
  | none => s.refuse .refusedArg
  | some [] => s.refuse .refusedArg
  | some (d :: ds) =>
    if 31 < ds.length then s.refuse .refusedArg
    else if l.tone.sendQueue ≠ [] ∨ l.tone.digitTx.isSome then s.refuse .refusedBusy
    else (s.modLine i (fun l => ({ l with tone.sendQueue := ds } : Line).sendDigit s.now d)).answer .ok []

/-! ## ANSWER and REJECT (R54, R55) -/

/-- The override of a call, with its mark in the routing copy where there is one (R54 to R56). -/
def Line.takeOverride (o : HostOverride) (mark : RoutingCopy → RoutingCopy) (l : Line) : Line :=
  { l.modCall (fun c => { c with routing := c.routing.map mark }) with override := o }

def runAnswer : Directive → State → Answer := onLine (argNum 1) fun i a s =>
  match a.bind mask? with
  | none => s.refuse .refusedArg
  | some m =>
    if (s.line i).state ≠ .alerting then s.refuse .refusedState
    else
      let s1 := s.modLine i (Line.takeOverride (.answer m) (fun c => { c with override := .answer }))
      if (s1.line i).ring.burst.isSome then
        (s1.modLine i (fun l => { l with answerWaiting := true })).answer .ok []
      else (s1.hostAnswer i).answer .ok []

/-- REJECT (R55). On a call the table or answer_enable has already rejected the copy's override still becomes REJECT,
which changes nothing else. DESIGN CHOICE (notes/assumptions/20.md). -/
def runReject : Directive → State → Answer := onLine (Arg.pure ()) fun i _ s =>
  if (s.line i).state ≠ .alerting then s.refuse .refusedState
  else (s.modLine i (fun l =>
    { l.takeOverride .reject (fun c => c.override_ .reject) with answerWaiting := false })).answer .ok []

/-! ## RATE_REQUEST and QUALITY_READ (R92, R93) -/

/-- A data call is in STEADY (R92). -/
def Line.steadyData (l : Line) : Bool := decide (l.row = .data) && decide (l.quality.rc = .steady)

/-- RATE_REQUEST, code 0x41, with trial flag 0 or 1. -/
def runRateRequest : Directive → State → Answer := onLine argPair fun i a s =>
  let l := s.line i
  match a.bind (fun p => (bool? p.2).map (fun t => (p.1, t))) with
  | none => s.refuse .refusedArg
  | some (step, trial) =>
    if l.steadyData = false then s.refuse .refusedState
    else
      let p := l.quality.clampToBounds step
      if trial then
        s.answer .ok [byte p,
          byte (fallBackTarget s.dataLadder (l.quality.floor.getD 0) (l.quality.step.getD 0) l.quality.q)]
      else (s.modLine i (Line.renegotiate s.now p .host)).answer .started [byte p]

def runQualityRead : Directive → State → Answer := onLine (Arg.pure ()) fun i _ s =>
  let l := s.line i
  let k := l.quality
  s.answer .ok ([byte k.lastQi] ++ encNum 2 k.a ++ [byte k.q] ++ encSigned l.tone.nf ++ encByteOpt k.step ++ k.encodeState)

/-! ## FAX_DOCUMENT (R137) -/

/-- The Fax Engine is a sender from the host (R137 check 2). -/
def Line.hostSender (l : Line) : Bool :=
  decide (l.job = .fax) && decide (l.fax.role = some .sender) && decide (l.fax.source = some .host)

/-- The sender takes a stored document from its next page on; one awaiting a host page begins it now (R137). -/
def State.takeDocument (s : State) (i : LineId) (id : Nat) : State :=
  let s1 := (s.modLine i (fun l => { l with
    faxSource := some (.store id)
    fax := { l.fax with source := some (.store id), docPos := 0, docResends := 0, fill := none } })).markFaxing id i
  let s2 := State.useArea .page i s1 .stage
  if (s2.line i).fax.phase = .page then s2.beginStorePage i else s2

def runFaxDocument : Directive → State → Answer := onLine (argNum 2) fun i a s =>
  let l := s.line i
  let id := a.getD 0
  if l.hostSender = false then s.refuse .refusedState
  else if l.fax.begun ∨ l.fax.phase = .close then s.refuse .refusedBusy
  else if s.store.formatted = false then s.refuse .refusedStore
  else if s.sendable id = false then s.refuse .refusedNotFound
  else if s.hasArea i .stage = false then s.refuse .refusedArea
  else (s.takeDocument i id).answer .ok []

/-! ## LINE_STATUS (R181) -/

/-- The occupancy of the area joined for a purpose, or absent. -/
def State.occupancy? (s : State) (i : LineId) (p : Purpose) : Option Nat :=
  (s.joined i p).map (fun k => (s.area k).occupancy)

def runLineStatus : Directive → State → Answer := onLine (Arg.pure ()) fun i _ s =>
  let l := s.line i
  let s1 := s.modLine i (fun l => { l with
    signals := l.signals.clear
    queue := { l.queue with entries := l.queue.entries.filter (fun n => decide (n.kind ≠ .signals)) } })
  s1.answer .ok ([byte l.state.place, byte l.job.place, byte l.direction.place] ++ encByteOpt l.quality.step ++
    [byte l.quality.q] ++ encSigned l.tone.nf ++ encOpt (encNum 2) (s.occupancy? i .tx) ++
    encOpt (encNum 2) (s.occupancy? i .rx) ++ encOpt (encNum 2) (s.occupancy? i .stage) ++ l.signals.encode)

/-! ## The commands -/

def execLineEnable (d : Directive) (s : State) : Result := .next (s.directive 0x10 d runLineEnable)
def execLineDisable (d : Directive) (s : State) : Result := .next (s.directive 0x11 d runLineDisable)
def execLineReset (d : Directive) (s : State) : Result := .next (s.directive 0x12 d runLineReset)
def execSetProfile (d : Directive) (s : State) : Result := .next (s.directive 0x13 d runSetProfile)
def execDial (d : Directive) (s : State) : Result := .next (s.directive 0x15 d runDial)
def execHangUp (d : Directive) (s : State) : Result := .next (s.directive 0x16 d runHangUp)
def execLoopbackEnter (d : Directive) (s : State) : Result := .next (s.directive 0x17 d runLoopback)
def execLoopbackLeave (d : Directive) (s : State) : Result := .next (s.directive 0x17 d runLoopback)
def execLoopSignals (d : Directive) (s : State) : Result := .next (s.directive 0x18 d runLoopSignals)
def execSendDigits (d : Directive) (s : State) : Result := .next (s.directive 0x21 d runSendDigits)
def execAnswer (d : Directive) (s : State) : Result := .next (s.directive 0x2C d runAnswer)
def execReject (d : Directive) (s : State) : Result := .next (s.directive 0x2D d runReject)
def execRateRequestTrial (d : Directive) (s : State) : Result := .next (s.directive 0x41 d runRateRequest)
def execRateRequest (d : Directive) (s : State) : Result := .next (s.directive 0x41 d runRateRequest)
def execQualityRead (d : Directive) (s : State) : Result := .next (s.directive 0x42 d runQualityRead)
def execFaxDocument (d : Directive) (s : State) : Result := .next (s.directive 0x50 d runFaxDocument)
def execLineStatus (d : Directive) (s : State) : Result := .next (s.directive 0x02 d runLineStatus)

end Sys2Proof.Machine
end

