-- ==== Sys2Proof/Machine/LineEvents.lean ====
section
/-! DEFINITION. The meanings of the line's inputs and of the timings of ringing, dialling and release (R8 to R10, R15,
R16, R19, R33). -/

namespace Sys2Proof.Machine

/-- The line looks at the real inputs: not in LOOPBACK (R21). -/
def Line.seesReal (l : Line) : Bool := decide (l.state ≠ .loopback)

/-- RING_INPUT_CHANGE: the real ring input changes (R9). -/
def execRingInputChange (i : LineId) (active : Bool) (s : State) : Result :=
  .next (s.modLine i (fun l =>
    let l1 := { l with realRing := active }
    if l.seesReal && l.measuresRing && (l.realRing != active) then l1.ringChange s.now active else l1))

/-- RING_QUALIFIED: an input active for ring_qualify_ms begins a burst (R9). -/
def execRingQualified (i : LineId) (s : State) : Result :=
  .next (match (s.line i).ring.qual with
    | some (t, q) => if q ≤ s.now then s.burstBegins i t else s
    | none => s)

/-- BURST_TRAILING_EDGE: an input inactive for 100 ms ends the burst (R9). -/
def execBurstTrailingEdge (i : LineId) (s : State) : Result :=
  .next (match (s.line i).ring.burst, (s.line i).ring.quiet with
    | some t, some u => if u + 100 ≤ s.now then s.burstEnds i t u else s
    | _, _ => s)

/-- RING_GAP_EXPIRY: the ring cycle closes (R10, R12, R38, R51, R52). -/
def execRingGapExpiry (i : LineId) (s : State) : Result :=
  .next (
    let l := s.line i
    if due s.now l.ring.gap && l.ring.cycle && l.ring.burst.isNone then
      let s1 := s.modLine i (Line.closeCycle s.now s.patterns)
      if l.state = .alerting then s1.alertingClose i (decide (l.ring.closed = 0)) else s1
    else s)

/-- RING_ABANDON_EXPIRY: an alerting call is abandoned; in LOOPBACK the count starts again (R10, R21). -/
def execRingAbandonExpiry (i : LineId) (s : State) : Result :=
  .next (
    let l := s.line i
    if due s.now l.ring.abandon then
      if l.state = .alerting then
        ((s.endCall i .abandoned).modLine i (fun l => { l with ring := l.ring.inputs })).enterIdle i
      else s.modLine i (fun l => { l with ring := l.ring.inputs, loopCount := 0, loopClass := none })
    else s)

/-- LOOP_INPUT_CHANGE: the loop-current input changes (R8, R20). -/
def execLoopInputChange (i : LineId) (present : Bool) (s : State) : Result :=
  .next (
    let l := s.line i
    let s1 := s.modLine i (fun l => { l with realLoop := present })
    if l.seesReal && decide (l.state ≠ .offline) && (l.realLoop != present) then
      let s2 := s1.modLine i (Line.loopChange s.now)
      if l.holdsLoop then s2 else s2.signalLoop i present
    else s1)

/-- LOOP_DROP: loop current absent for loop_drop_ms releases the call (R8, R21). -/
def execLoopDrop (i : LineId) (s : State) : Result :=
  .next (
    let l := s.line i
    if due s.now l.loopTimer then
      if l.state = .seizing ∨ l.state = .dialling then s.release i .noLine else s.release i .remote
    else s)

/-- RELEASE_GUARD_EXPIRY: the line enters IDLE (R19). -/
def execReleaseGuardExpiry (i : LineId) (s : State) : Result :=
  .next (
    if (s.line i).state = .release ∧ due s.now (s.line i).guard = true then
      (s.modLine i (fun l => { l with guard := none })).enterIdle i
    else s)

/-- DIAL_TONE_WAIT_EXPIRY: dialling begins blind, or the call is released (R15). -/
def execDialToneWaitExpiry (i : LineId) (s : State) : Result :=
  .next (
    let l := s.line i
    if l.state = .seizing ∧ due s.now l.dialWait = true then
      if l.profile.blindDial then s.beginDialling i else s.release i .noDialTone
    else s)

/-- AWAIT_TONE_EXPIRY: the element ends blind, or the call is released (R16). -/
def execAwaitToneExpiry (i : LineId) (s : State) : Result :=
  .next (
    let l := s.line i
    match l.dialStep with
    | .await u =>
      if u ≤ s.now then (if l.profile.blindDial then s.endElement i else s.release i .noDialTone) else s
    | _ => s)

/-- DTMF_DIGIT_ON_END: the pair ends and tone_off_ms of silence begins (R29). -/
def execDtmfDigitOnEnd (i : LineId) (s : State) : Result :=
  .next (match (s.line i).tone.digitTx with
    | some t =>
      if t.isOn = true ∧ t.until_ ≤ s.now then
        s.modLine i (fun l => { l with tone.digitTx := some { t with isOn := false, until_ := s.now + t.offMs } })
      else s
    | none => s)

/-- The next digit of the SEND_DIGITS queue begins, if one waits (R37). -/
def Line.sendNext (now : Ms) (l : Line) : Line :=
  match l.tone.sendQueue with
  | d :: t => ({ l with tone.sendQueue := t } : Line).sendDigit now d
  | [] => l

/-- DTMF_DIGIT_OFF_END: the digit is done, and the dial element or the queue goes on (R16, R29, R37). -/
def execDtmfDigitOffEnd (i : LineId) (s : State) : Result :=
  .next (match (s.line i).tone.digitTx with
    | some t =>
      if t.isOn = false ∧ t.until_ ≤ s.now then
        let s1 := s.modLine i (fun l => { l with tone.digitTx := none })
        if (s1.line i).dialStep = .tone then s1.endElement i else s1.modLine i (Line.sendNext s.now)
      else s
    | none => s)

/-- What follows a break: a make where breaks are left, the interdigit time after the last (R16). -/
def Line.afterBreak (now : Ms) (left : Nat) (l : Line) : DialStep :=
  if left = 0 then .interdigit (now + l.profile.pulseInterdigitMs) else .pulseMake left (now + l.profile.pulseMakeMs)

/-- PULSE_BREAK_END: the relay closes, for a make or for the interdigit time (R16). -/
def execPulseBreakEnd (i : LineId) (s : State) : Result :=
  .next (
    let l := s.line i
    match l.dialStep with
    | .pulseBreak left u =>
      if u ≤ s.now then
        (s.closeRelay i).modLine i (fun l => { l with dialStep := l.afterBreak s.now left })
      else s
    | _ => s)

/-- PULSE_MAKE_END: the next break begins (R16). -/
def execPulseMakeEnd (i : LineId) (s : State) : Result :=
  .next (match (s.line i).dialStep with
    | .pulseMake left u =>
      if u ≤ s.now then
        (s.openRelay i).modLine i (fun l => { l with dialStep := .pulseBreak (left - 1) (s.now + l.profile.pulseBreakMs) })
      else s
    | _ => s)

/-- PULSE_INTERDIGIT_END: the digit element ends (R16). -/
def execPulseInterdigitEnd (i : LineId) (s : State) : Result :=
  .next (match (s.line i).dialStep with
    | .interdigit u => if u ≤ s.now then s.endElement i else s
    | _ => s)

/-- DIAL_PAUSE_END: a PAUSE element ends (R16). -/
def execDialPauseEnd (i : LineId) (s : State) : Result :=
  .next (match (s.line i).dialStep with
    | .pause u => if u ≤ s.now then s.endElement i else s
    | _ => s)

/-- FLASH_END: the relay closes and the element ends (R16). -/
def execFlashEnd (i : LineId) (s : State) : Result :=
  .next (match (s.line i).dialStep with
    | .flash u => if u ≤ s.now then (s.closeRelay i).endElement i else s
    | _ => s)

/-- ANSWER_WAIT_EXPIRY: the call is released with NO_ANSWER (R33). -/
def execAnswerWaitExpiry (i : LineId) (s : State) : Result :=
  .next (
    if (s.line i).state = .progress ∧ due s.now (s.line i).answerWait = true then s.release i .noAnswer else s)

end Sys2Proof.Machine
end

