-- ==== Sys2Proof/Machine/RateEvents.lean ====
section
/-! DEFINITION. The meanings of the Datapump's records and outcomes (R73, R82 to R85, R94), of RATE and RATE_OK (R88,
R89), of the carrier flag (R20, R115), and of the data link's frames and timers (R97, R98, R101 to R106, R110 to R114).
-/

namespace Sys2Proof.Machine

/-! ## Records and decisions -/

/-- Rate Control of a data job is in the state given. -/
def Line.rateIs (l : Line) (c : RateState) : Bool := decide (l.row = .data) && decide (l.quality.rc = c)

/-- A scored record in STEADY before its decisions: qi and s, A and Q, the runs (R83). -/
def Line.steadyRecord (ladder : List LadderStep) (r : MeasRecord) (l : Line) : Line :=
  let k := l.quality.score r l.profile.impulsePenalty
  { l with quality := ({ k with a := accumulate k.a k.lastS } : Quality).updateRuns ladder }

/-- The quality drop: END once and a release at its transmission, or at once where END has been sent (R84). -/
def State.qualityDrop (s : State) (i : LineId) : State :=
  let l := s.line i
  if l.link.dropEnd || l.link.farEnd.isSome then s
  else if l.link.phase = .closing then s.release i .lineQuality
  else s.modLine i (fun l =>
    let l1 := { l with link.dropEnd := true }
    let l2 := l1.sendEnd s.now
    { l2 with link.endOkWait := none })

/-- The decisions on the runs, after each scored record in STEADY (R84, R85). -/
def State.decideRate (s : State) (i : LineId) : State :=
  let l := s.line i
  let k := l.quality
  let c := k.step.getD 0
  let f := k.floor.getD 0
  if f < c ∧ l.profile.fbPersist ≤ k.lowRun then
    s.modLine i (Line.renegotiate s.now (fallBackTarget s.dataLadder f c k.q) .quality)
  else if c = f ∧ l.profile.dropPersist ≤ k.lowRun then s.qualityDrop i
  else if c < k.ceiling.getD 0 ∧ l.profile.ffPersist ≤ k.highRun then
    s.modLine i (Line.renegotiate s.now (c + 1) .quality)
  else s

/-- A record with valid no is not scored; one of a training check still shows that the Datapump has locked (R73,
R122). -/
def Line.unscoredCheck (l : Line) : Line :=
  l.modReceiver (fun f =>
    if f.phase = .train ∧ f.lockWait.isSome = true then { f with checking := true, lockWait := none } else f)

/-- A fax receiver's Datapump delivers records: of a training check, and of a page (R73). -/
def Fax.measured (f : Fax) : Bool :=
  (decide (f.phase = .train) && (f.lockWait.isSome || f.checking)) || (decide (f.phase = .page) && f.begun)

/-- The Datapump delivers a measurement record now: records have begun and an interval of 125 ms has ended (R73). -/
def Line.recordDue (now : Ms) (l : Line) : Bool :=
  due now l.quality.nextRecord &&
  (match l.row with
   | .data => true
   | .fax  => l.receiver?.elim false Fax.measured
   | _     => false)

/-- The next interval of a data call follows the one that has ended; that of a fax receiver ends no earlier than 125 ms
from now (R73; notes/assumptions/22.md). -/
def Line.nextInterval (now : Ms) (l : Line) : Line :=
  if l.row = .data then { l with quality.nextRecord := l.quality.nextRecord.map (· + Config.recordMs) } else l.recordsFrom now

/-- MEASUREMENT_RECORD (R73, R83 to R85, R90, R94). -/
def execMeasurementRecord (i : LineId) (r : MeasRecord) (s : State) : Result :=
  .next (
    if (s.line i).recordDue s.now then
      let s1 := s.modLine i (Line.nextInterval s.now)
      let l := s1.line i
      if r.valid = false then (if l.row = .fax then s1.modLine i Line.unscoredCheck else s1)
      else if l.rateIs .steady then (s1.modLine i (Line.steadyRecord s.dataLadder r)).decideRate i
      else if l.row = .fax then s1.modLine i (Line.faxRecord r)
      else s1
    else s)

/-- A training record of the try in hand; one with valid no is not scored (R73, R82, R90). -/
def Line.trainRecord (now : Ms) (r : MeasRecord) (l : Line) : Line :=
  let l1 := { l with quality.nextTraining := some (now + Config.recordMs) }
  if r.valid then
    let k := l1.quality.score r l.profile.impulsePenalty
    { l1 with quality := { k with tryQt := some k.lastS } }
  else l1

/-- TRAINING_RECORD: 125 ms of the far end's training signal after the lock (R73, R82, R90). -/
def execTrainingRecord (i : LineId) (r : MeasRecord) (s : State) : Result :=
  .next (
    if (s.line i).rateIs .retraining && due s.now (s.line i).quality.nextTraining then
      s.modLine i (Line.trainRecord s.now r)
    else s)

/-- The try in hand can end so now: locked no later than its training time, and with no lock when that time has passed
(R73). -/
def Quality.tryEnds (k : Quality) (now : Ms) (locked : Bool) : Bool :=
  k.tryEnd.elim false (fun d => if locked then decide (now ≤ d) else decide (d ≤ now))

/-- TRAINING_OUTCOME: a try ends (R73, R82, R91). -/
def execTrainingOutcome (i : LineId) (locked : Bool) (s : State) : Result :=
  .next (
    if (s.line i).rateIs .retraining && (s.line i).quality.tryEnds s.now locked then
      match (s.line i).quality.trySucceeds s.dataLadder locked with
      | some qt => s.trySucceeded i qt
      | none    => s.tryFailed i
    else s)

/-- RATE_OK_WAIT_EXPIRY: a full training at the line's own target (R88). -/
def execRateOkWaitExpiry (i : LineId) (s : State) : Result :=
  .next (
    let l := s.line i
    if l.rateIs .renegotiating && due s.now l.quality.rateOkWait then
      s.modLine i (Line.retrain s.now (l.quality.target.getD 0) .full)
    else s)

/-- RATE_OK is sent ahead of every waiting frame (R89, R102). -/
def Line.sendRateOk (p : Nat) (l : Line) : Line := { l with link.rateWait := l.link.rateWait ++ [.rateOk p] }

/-- A RATE taken in STEADY: the step it was and PEER are noted, and the runs become 0 (R89). -/
def Line.peerRate (l : Line) : Line :=
  { l with quality := { l.quality with oldStep := l.quality.step, cause := some .peer, lowRun := 0, highRun := 0 } }

/-- LINK_RATE_RECEIVED (R89). -/
def execLinkRateReceived (i : LineId) (step : Nat) (s : State) : Result :=
  .next (
    let l := s.line i
    if l.takesLink then
      let p := l.quality.clampToBounds step
      let m := min p (l.quality.target.getD 0)
      match l.quality.rc with
      | .steady =>
        s.modLine i (fun l => (((l.peerRate.sendRateOk p).retrain s.now p .short)).kick s.now)
      | .renegotiating =>
        s.modLine i (fun l => ((l.sendRateOk m).retrain s.now m .short).kick s.now)
      | _ => s
    else s)

/-- LINK_RATE_OK_RECEIVED (R88, R89). -/
def execLinkRateOkReceived (i : LineId) (step : Nat) (s : State) : Result :=
  .next (
    let l := s.line i
    if l.takesLink && l.rateIs .renegotiating then
      s.modLine i (Line.retrain s.now (l.quality.clampToBounds step) .short)
    else s)

/-! ## Carrier -/

/-- The carrier-loss timing of a data job (R115). -/
def Line.dataCarrier (now : Ms) (on : Bool) (l : Line) : Line :=
  { l with link := { l.link with
      carrierSeen := l.link.carrierSeen || on
      carrierLoss := if !on && l.link.carrierSeen then some (now + l.profile.carrierLossMs) else none } }

/-- A fax receiver's carrier rises: its receive wait stops, and a page due begins (R119, R126). -/
def State.faxCarrierOn (s : State) (i : LineId) : State :=
  match (s.line i).receiver? with
  | none => s
  | some f =>
    let s1 := s.modFax i .receiver (fun f => { f with recvWait := none })
    if decide (f.phase = .page) && !f.begun then s1.beginReceived i else s1

/-- A fax receiver's carrier falls: the page data of a page without block correction has ended (R117). -/
def State.faxCarrierOff (s : State) (i : LineId) : State :=
  s.modFax i .receiver (fun f =>
    if f.phase = .page ∧ f.begun = true ∧ f.corrects = false then { f with phase := .afterPage } else f)

/-- CARRIER_CHANGE: the Datapump's carrier flag rises or falls (R20, R73, R115, R119). -/
def execCarrierChange (i : LineId) (on : Bool) (s : State) : Result :=
  .next (
    let l := s.line i
    if l.datapump && (l.carrier != on) then
      let s1 := (s.modLine i (fun l => { l with carrier := on })).signalCarrier i on
      if l.row = .data then s1.modLine i (Line.dataCarrier s.now on)
      else if on then s1.faxCarrierOn i else s1.faxCarrierOff i
    else s)

/-- CARRIER_LOSS_EXPIRY (R115). -/
def execCarrierLossExpiry (i : LineId) (s : State) : Result :=
  .next (
    let l := s.line i
    if l.row = .data ∧ due s.now l.link.carrierLoss = true then s.release i .noCarrier else s)

/-! ## The handshake -/

/-- FRAME_CHECK_FAIL: the Link Engine takes no action; the frame counts as missing (R101). -/
def execFrameCheckFail (_i : LineId) (s : State) : Result := .next s

/-- CAPS_RECEIVED: the first in EXCHANGE completes it (R97 to R99). -/
def execCapsReceived (i : LineId) (c : Capability) (s : State) : Result :=
  .next (if (s.line i).link.phase = .exchange then s.completeExchange i c else s)

/-- CAPS is sent again, at most three times in all (R97). -/
def Link.capsAgain (now : Ms) (k : Link) : Link :=
  { k with capsSent := k.capsSent + 1, capsRepeat := if k.capsSent + 1 < 3 then some (now + 1000) else none }

/-- CAPS_REPEAT_EXPIRY (R97). -/
def execCapsRepeatExpiry (i : LineId) (s : State) : Result :=
  .next (
    let k := (s.line i).link
    if k.phase = .exchange ∧ due s.now k.capsRepeat = true then
      s.modLine i (fun l => { l with link := l.link.capsAgain s.now })
    else s)

/-- EXCHANGE_TIMER_EXPIRY (R97, R98). -/
def execExchangeTimerExpiry (i : LineId) (s : State) : Result :=
  .next (
    let k := (s.line i).link
    if k.phase = .exchange ∧ due s.now k.exchangeTimer = true then s.release i .trainFail else s)

/-- The answerer enters EXCHANGE with its first CAPS (R97). -/
def Link.beginExchange (now : Ms) (k : Link) : Link :=
  { k with phase := .exchange, toneEnd := none, capsSent := 1, capsRepeat := some (now + 1000)
           exchangeTimer := some (now + 3000) }

/-- DATA_ANSWER_TONE_END (R97). -/
def execDataAnswerToneEnd (i : LineId) (s : State) : Result :=
  .next (
    let k := (s.line i).link
    if k.phase = .answerTone ∧ due s.now k.toneEnd = true then
      s.modLine i (fun l => { l with tone.gen := none, link := l.link.beginExchange s.now })
    else s)

/-! ## Link frames received -/

/-- LINK_DATA_RECEIVED: its ack field first, then its seq (R101, R104, R108, R109, R111). -/
def execLinkDataReceived (i : LineId) (seq ack : Fin 64) (payload : List Byte) (s : State) : Result :=
  .next (
    if (s.line i).takesLink then
      ((s.modLine i (Line.acknowledge s.now ack.val)).receiveData i seq.val payload).pump i
    else s)

/-- LINK_ACK_RECEIVED (R104). -/
def execLinkAckReceived (i : LineId) (n : Fin 64) (s : State) : Result :=
  .next (if (s.line i).takesLink then (s.modLine i (Line.acknowledge s.now n.val)).pump i else s)

/-- A resend of the entry waits for the transmitter (R105). -/
def Link.resendWaits (k : Link) (seq : Nat) : Bool := k.resendWait.any (fun r => r.1 == seq)

/-- A resend of one entry: its count rises, and it waits for the transmitter (R105, R106). Where a resend of it waits
already no second copy is queued: DESIGN CHOICE (notes/assumptions/21.md). -/
def Line.resend (e : SendEntry) (l : Line) : Line :=
  let k := l.link.raise e.seq
  { l with link := { k with
      resendWait := if k.resendWaits e.seq then k.resendWait else k.resendWait ++ [(e.seq, e.payload)] } }

/-- LINK_RESEND_RECEIVED (R105). -/
def execLinkResendReceived (i : LineId) (seq : Fin 64) (s : State) : Result :=
  .next (
    let l := s.line i
    match l.link.sendQueue.find? (fun e => e.seq == seq.val) with
    | none => s
    | some e =>
      if l.takesLink && !l.link.resendWaits seq.val && !l.link.peerPaused then s.afterRaise i [seq.val] (l.resend e)
      else s)

/-- LINK_PAUSE_RECEIVED (R112). -/
def execLinkPauseReceived (i : LineId) (s : State) : Result :=
  .next (
    let l := s.line i
    if l.takesLink && !l.link.peerPaused then
      s.modLine i (fun l => { l with link := { l.link with
        peerPaused := true, resendTimer := .stopped, pauseTimer := s.start (l.profile.pauseLimitS * 1000) } })
    else s)

/-- The frames waiting for the transmitter whose entries have left the send queue. -/
def Link.stray (k : Link) (w : List (Nat × List Byte)) : List (Nat × List Byte) :=
  w.filter (fun r => !k.sendQueue.any (fun e => e.seq == r.1))

/-- A RESUME: every entry of the send queue is raised and resent, oldest first (R112). -/
def Line.resume (l : Line) : Line :=
  { l with link := { l.link with
      peerPaused := false, pauseTimer := none, newWait := l.link.stray l.link.newWait
      sendQueue := l.link.sendQueue.map SendEntry.raise
      resendWait := l.link.stray l.link.resendWait ++ l.link.sendQueue.map (fun e => (e.seq, e.payload)) } }

/-- LINK_RESUME_RECEIVED (R112). -/
def execLinkResumeReceived (i : LineId) (s : State) : Result :=
  .next (
    let l := s.line i
    if l.takesLink && l.link.peerPaused then s.afterRaise i (l.link.sendQueue.map SendEntry.seq) l.resume else s)

/-- END from the far end: END_OK is sent; its transmission releases the call (R114). -/
def Line.farCloses (now : Ms) (l : Line) : Line :=
  let l1 := l.abandonRate now
  ({ l1 with link := { l1.link with
      drainTimer := none, endWait := l1.link.endWait ++ [.finOk]
      farEnd := some (if l1.link.phase = .closing then .locally else .remote) } } : Line).kick now

/-- LINK_END_RECEIVED (R90, R114). While the END of a quality drop is on its way it changes nothing and is not answered:
DESIGN CHOICE (notes/assumptions/14.md). -/
def execLinkEndReceived (i : LineId) (s : State) : Result :=
  .next (
    let l := s.line i
    if l.takesLink && l.link.farEnd.isNone && !l.link.dropEnd then s.modLine i (Line.farCloses s.now) else s)

/-- LINK_END_OK_RECEIVED (R114). While the END of a quality drop is on its way it changes nothing: DESIGN CHOICE
(notes/assumptions/14.md). -/
def execLinkEndOkReceived (i : LineId) (s : State) : Result :=
  .next (
    let l := s.line i
    if l.takesLink && decide (l.link.phase = .closing) && !l.link.dropEnd then s.release i .locally else s)

/-! ## The transmitter and the timers -/

/-- LINK_FRAME_FORMED: a new DATA frame is cut from the TX area (R103). -/
def execLinkFrameFormed (i : LineId) (s : State) : Result :=
  .next (if (s.line i).mayForm && s.txReady i then s.formFrame i else s)

/-- LINK_FRAME_TRANSMITTED: the transmitter is free; END_OK, and END of a quality drop, release the call (R84, R102,
R114). -/
def execLinkFrameTransmitted (i : LineId) (s : State) : Result :=
  .next (
    let l := s.line i
    let s1 := s.modLine i (fun l => { l with link.txNow := none })
    match l.link.txNow with
    | none => s
    | some .finOk => s1.release i (l.link.farEnd.getD .remote)
    | some .fin => if l.link.dropEnd then s1.release i .lineQuality else s1.pump i
    | some _ => s1.pump i)

/-- RESEND_TIMER_EXPIRY: the head of the send queue is resent, or the call is released (R106). -/
def execResendTimerExpiry (i : LineId) (s : State) : Result :=
  .next (
    let l := s.line i
    match l.link.resendTimer, l.link.sendQueue with
    | .running d, h :: _ =>
      if d ≤ s.now then s.afterRaise i [h.seq] (({ l with link.resendTimer := .stopped } : Line).resend h) else s
    | _, _ => s)

/-- PAUSE_TIMER_EXPIRY: LINK_FAIL, but where an end of the call has been taken before (R112, R116). -/
def execPauseTimerExpiry (i : LineId) (s : State) : Result :=
  .next (
    let k := (s.line i).link
    if k.peerPaused && due s.now k.pauseTimer && k.ending.isNone then s.release i .linkFail else s)

/-- The end of the spacing: an acknowledgement due is made ready and the spacing starts again (R110). -/
def Link.spaced (now : Ms) (k : Link) : Link :=
  if k.ackDue then { k with ackDue := false, ackWait := true, ackSpacing := some (now + 50) }
  else { k with ackSpacing := none }

/-- ACK_SPACING_EXPIRY (R110). -/
def execAckSpacingExpiry (i : LineId) (s : State) : Result :=
  .next (
    if due s.now (s.line i).link.ackSpacing then
      s.modLine i (fun l => ({ l with link := l.link.spaced s.now } : Line).kick s.now)
    else s)

/-- DRAIN_TIMER_EXPIRY (R113). -/
def execDrainTimerExpiry (i : LineId) (s : State) : Result :=
  .next (
    let k := (s.line i).link
    if k.phase = .draining ∧ due s.now k.drainTimer = true then s.modLine i (Line.endDrain s.now) else s)

/-- END_OK_WAIT_EXPIRY (R114). -/
def execEndOkWaitExpiry (i : LineId) (s : State) : Result :=
  .next (
    let k := (s.line i).link
    if k.phase = .closing ∧ due s.now k.endOkWait = true then s.release i .locally else s)

end Sys2Proof.Machine
end

