-- ==== Sys2Proof/Machine/StoreDirectives.lean ====
section
/-! DEFINITION. The directives on the message store (R139, R141, R142, R149 to R154) and the voice directives RECORD,
PLAY and VOICE_STOP (R166, R167, R170). -/

namespace Sys2Proof.Machine

/-! ## The store (R141, R142) -/

/-- The sizes a store may have, in MiB (R141). -/
def sizeLegal (mib : Nat) : Bool := mib == 2 || mib == 4 || mib == 8 || mib == 16

/-- The store cannot be formatted now: an OPEN entry, a use mark, or a transfer (R141 check 3). -/
def Store.inUse (st : Store) : Bool :=
  st.dir.any (fun e => decide (e.state = .opened) || e.marked) || decide (st.transfer ≠ .none)

/-- The store laid out for a size (R140, R141). -/
def formatted (mib guard : Nat) : Store :=
  { formatted := true, size := some mib, guard := guard, free := List.range (messageBlocks mib) }

def runStoreFormat : Directive → State → Answer := onPart argFormat fun a s =>
  match a with
  | none => s.refuse .refusedArg
  | some (mib, g) =>
    if sizeLegal mib = false then s.refuse .refusedArg
    else if s.store.inUse then s.refuse .refusedBusy
    else
      let want := g.getD 16
      ({ s with store := formatted mib (clampTo 1 64 want) } : State).answer
        (if clampTo 1 64 want = want then .ok else .clamped) []

def runStoreStatus : Directive → State → Answer := onPart (Arg.pure ()) fun _ s =>
  let st := s.store
  s.answer .ok (encBool st.formatted ++ encByteOpt st.size ++ encNum 2 st.m ++ encNum 2 st.freeCount ++
    [byte st.guard] ++ encNum 2 st.dir.length ++ st.transfer.encode)

/-- A store directive, refused REFUSED_STORE in an UNFORMATTED store before its own checks (R139). -/
def onStore (p : Arg α) (f : Option α → State → Answer) : Directive → State → Answer := onPart p fun a s =>
  if s.store.formatted then f a s else s.refuse .refusedStore

/-! ## The directory (R149 to R151) -/

/-- The filter of a MSG_LIST: OPEN, NEW, KEPT or ANY (R149). -/
def stateFilter? : Nat → Option (Option MsgState)
  | 0 => some (some .opened) | 1 => some (some .new) | 2 => some (some .kept) | 3 => some none | _ => none

/-- Entries with their indexes. -/
def indexed : Nat → List Entry → List (Nat × Entry)
  | _, [] => []
  | n, e :: t => (n, e) :: indexed (n + 1) t

/-- The entries a MSG_LIST takes: from an index on, those that match, at most 12 (R149). -/
def State.listed (s : State) (mailbox : Option Nat) (st : Option MsgState) (start : Nat) : List (Nat × Entry) :=
  (((indexed 0 s.store.dir).drop start).filter (fun p =>
    mailbox.all (fun m => p.2.mailbox == m) && st.all (fun x => decide (p.2.state = x)))).take 12

/-- The next index: the one after the last summary where 12 were taken, else END (R149). -/
def nextIndex (l : List (Nat × Entry)) : List Byte :=
  if l.length = 12 then 0 :: encNum 2 ((l.getLast?.elim 0 Prod.fst) + 1) else [1]

def runMsgList : Directive → State → Answer := onStore argList fun a s =>
  match a with
  | none => s.refuse .refusedArg
  | some (mailbox, f, start) =>
    match stateFilter? f with
    | none => s.refuse .refusedArg
    | some st =>
      if mailbox.any (fun m => decide (15 < m)) then s.refuse .refusedArg
      else
        let l := s.listed mailbox st start
        s.answer .ok (encList encSummary l ++ nextIndex l)

def runMsgInfo : Directive → State → Answer := onStore (argNum 2) fun a s =>
  match s.entry? (a.getD 0) with
  | none => s.refuse .refusedNotFound
  | some e => s.answer .ok e.encode

/-- The state of a MSG_MARK: NEW or KEPT (R150). -/
def markState? : Nat → Option MsgState
  | 0 => some .new | 1 => some .kept | _ => none

def runMsgMark : Directive → State → Answer := onStore argMark fun a s =>
  match a.bind (fun p => markState? p.2) with
  | none => s.refuse .refusedArg
  | some st =>
    let id := (a.map Prod.fst).getD 0
    match s.entry? id with
    | none => s.refuse .refusedNotFound
    | some e =>
      if e.state = .opened then s.refuse .refusedBusy
      else (s.modEntry id (fun e => { e with state := st })).answer .ok []

def runMsgDelete : Directive → State → Answer := onStore (argNum 2) fun a s =>
  let id := a.getD 0
  match s.entry? id with
  | none => s.refuse .refusedNotFound
  | some e =>
    if e.state = .opened ∨ e.marked then s.refuse .refusedBusy else (s.deleteEntry id).answer .ok []

/-! ## Transfers (R152 to R154) -/

def runMsgUpload : Directive → State → Answer := onStore argUpload fun a s =>
  let id := (a.map Prod.fst).getD 0
  let offset := (a.map Prod.snd).getD 0
  if s.store.transfer ≠ .none then s.refuse .refusedBusy
  else match s.entry? id with
  | none => s.refuse .refusedNotFound
  | some e =>
    if e.state = .opened then s.refuse .refusedBusy
    else if e.length < offset then s.refuse .refusedArg
    else
      let s1 := s.modEntry id (fun e => { e with uploading := true })
      ({ s1 with store.transfer := .upload id offset } : State).answer .started []

def runMsgDownload : Directive → State → Answer := onStore argDownload fun a s =>
  match a with
  | none => s.refuse .refusedArg
  | some (k, mailbox, bits) =>
    match soundKind? k, within 0 15 mailbox, within 2 4 bits with
    | some kind, some _, some _ =>
      if s.store.transfer ≠ .none then s.refuse .refusedBusy
      else if Config.directoryMax ≤ s.store.dir.length then s.refuse .refusedFull
      else if s.store.freeCount ≤ s.store.guard then s.refuse .refusedStore
      else match s.openEntry kind mailbox none none (some bits) with
      | .ok (id, s1) => ({ s1 with store.transfer := .download id } : State).answer .started (encNum 2 id)
      | .error _ => s.refuse .refusedBusy
    | _, _, _ => s.refuse .refusedArg

def runTransferStop : Directive → State → Answer := onStore (Arg.pure ()) fun _ s =>
  match s.store.transfer with
  | .none | .ending _ => s.answer .ok []
  | .upload id _ => ({ s with store.transfer := .ending id } : State).answer .ok []
  | .download id => (s.endDownload id .stopped).answer .ok []

/-! ## Voice (R166, R167, R170) -/

/-- The line stands idle under host control (R166 check 4). -/
def Line.voiceIdle (l : Line) : Bool := decide (l.voice.mode = .host) && decide (l.voice.activity = .none)

def State.runRecordStore (s : State) (i : LineId) (kind : MsgKind) (mailbox : Nat) : Answer :=
  if s.store.formatted = false ∨ s.store.freeCount ≤ s.store.guard then s.refuse .refusedStore
  else if Config.directoryMax ≤ s.store.dir.length then s.refuse .refusedFull
  else if s.hasArea i .stage = false then s.refuse .refusedArea
  else (s.beginStored i kind mailbox false).answer .started []

def runRecord : Directive → State → Answer := onLine argRecord fun i a s =>
  let l := s.line i
  if l.inVoice = false then s.refuse .refusedState
  else match a with
  | none => s.refuse .refusedArg
  | some none =>
    if l.voiceIdle = false then s.refuse .refusedBusy
    else if s.hasArea i .rx = false then s.refuse .refusedArea
    else (s.beginHosted i).answer .started []
  | some (some (k, mailbox)) =>
    match soundKind? k, within 0 15 mailbox with
    | some kind, some _ =>
      if l.voiceIdle = false then s.refuse .refusedBusy else s.runRecordStore i kind mailbox
    | _, _ => s.refuse .refusedArg

/-- A playback begins (R167). -/
def State.startPlaying (s : State) (i : LineId) (t : VoiceTarget) (ids : List Nat) : State :=
  s.modLine i (fun l => { l with voice := { l.voice with
    activity := .playing, playback := some { target := t, ids := ids, bits := l.profile.voiceBits } } })

def State.runPlayStore (s : State) (i : LineId) (ids : List Nat) : Answer :=
  if s.store.formatted = false then s.refuse .refusedStore
  else if s.hasArea i .stage = false then s.refuse .refusedArea
  else (State.playFrom i ids 0 (s.startPlaying i .store ids)).answer .started []

def runPlay : Directive → State → Answer := onLine argPlay fun i a s =>
  let l := s.line i
  if l.inVoice = false then s.refuse .refusedState
  else match a with
  | none => s.refuse .refusedArg
  | some none =>
    if l.voiceIdle = false then s.refuse .refusedBusy
    else if s.hasArea i .tx = false then s.refuse .refusedArea
    else (s.startPlaying i .host []).answer .started []
  | some (some ids) =>
    if ids = [] ∨ 8 < ids.length ∨ ids.contains 0 then s.refuse .refusedArg
    else if l.voiceIdle = false then s.refuse .refusedBusy
    else s.runPlayStore i ids

/-- The action of VOICE_STOP by mode and activity (R170). -/
def State.voiceStop (s : State) (i : LineId) : State :=
  let v := (s.line i).voice
  match v.mode, v.activity with
  | .host, .recording => s.finishRecording i .locally v.codedCount .stayHost
  | .host, .playing   => s.endPlayback i .locally
  | .host, _          => s.release i .locally
  | .auto, .recording => s.finishRecording i .locally v.codedCount .stopped
  | .auto, .greeting | .auto, .recordTone => (s.stopGreeting i).afterStop i
  | _, _ => s

def runVoiceStop : Directive → State → Answer := onLine (Arg.pure ()) fun i _ s =>
  if (s.line i).inVoice = false then s.refuse .refusedState else (s.voiceStop i).answer .ok []

/-! ## The commands -/

def execStoreFormat (d : Directive) (s : State) : Result := .next (s.directive 0x60 d runStoreFormat)
def execStoreStatus (d : Directive) (s : State) : Result := .next (s.directive 0x61 d runStoreStatus)
def execMsgList (d : Directive) (s : State) : Result := .next (s.directive 0x62 d runMsgList)
def execMsgInfo (d : Directive) (s : State) : Result := .next (s.directive 0x63 d runMsgInfo)
def execMsgMark (d : Directive) (s : State) : Result := .next (s.directive 0x65 d runMsgMark)
def execMsgDelete (d : Directive) (s : State) : Result := .next (s.directive 0x64 d runMsgDelete)
def execMsgUpload (d : Directive) (s : State) : Result := .next (s.directive 0x66 d runMsgUpload)
def execMsgDownload (d : Directive) (s : State) : Result := .next (s.directive 0x67 d runMsgDownload)
def execTransferStop (d : Directive) (s : State) : Result := .next (s.directive 0x68 d runTransferStop)
def execRecord (d : Directive) (s : State) : Result := .next (s.directive 0x70 d runRecord)
def execPlay (d : Directive) (s : State) : Result := .next (s.directive 0x71 d runPlay)
def execVoiceStop (d : Directive) (s : State) : Result := .next (s.directive 0x72 d runVoiceStop)

end Sys2Proof.Machine
end

