-- ==== Sys2Proof/Machine/StoreVoiceEvents.lean ====
section
/-! DEFINITION. The meanings of the Store Controller's and the Voice Engine's own events (R144, R148, R157 to R164,
R168, R169). -/

namespace Sys2Proof.Machine

/-! ## The Store Controller -/

/-- STORE_BLOCK_REQUEST: the head of the request list is served (R144). -/
def execStoreBlockRequest (s : State) : Result := .next s.serveRequest

/-- STORE_STAGE_WRITE: a STAGE area is written to the line's OPEN entry (R148). -/
def execStoreStageWrite (i : LineId) (s : State) : Result := .next (s.stageWrite i)

/-- STORE_STAGE_FILL: a STAGE area being read is refilled (R148). -/
def execStoreStageFill (i : LineId) (s : State) : Result := .next (s.stageFill i)

/-! ## Greeting, record tone and recording -/

/-- GREETING_END: the last byte has been decoded (R158). -/
def execGreetingEnd (i : LineId) (s : State) : Result :=
  .next (if (s.line i).voice.activity = .greeting ∧ s.rangeTaken i = true then s.greetingOver i else s)

/-- RECORD_TONE_END: the recording begins (R159, R160). -/
def execRecordToneEnd (i : LineId) (s : State) : Result :=
  .next (
    let v := (s.line i).voice
    if v.activity = .recordTone ∧ due s.now v.toneEnd = true then
      (s.modLine i (fun l => { l with tone.gen := none, voice.toneEnd := none })).beginAutoRecording i
    else s)

/-- Coded bytes accepted into the area raise the coded count (R156, R161). -/
def Line.countCoded (n : Nat) (l : Line) : Line :=
  { l with voice := { l.voice with recording := l.voice.recording.map (fun r => { r with coded := r.coded + n }) } }

/-- The purpose of the area a recording's bytes go into (R161, R166). -/
def VoiceTarget.recordsTo : VoiceTarget → Purpose
  | .store => .stage
  | .host  => .rx

/-- VOICE_BYTES_CODED: bytes go into the area until the limit is reached; those that find it full are lost (R157, R161,
R162, R166). -/
def execVoiceBytesCoded (i : LineId) (bytes : List Byte) (s : State) : Result :=
  .next (match (s.line i).voice.recording with
    | none => s
    | some r =>
      if r.ended.isSome then s
      else
        let bs := bytes.take (r.limit - r.coded)
        let a := match s.joined i r.target.recordsTo with
          | none => (s, 0)
          | some k => s.append k bs
        (a.1.modLine i (Line.countCoded a.2)).overrun i (if a.2 = bs.length then 0 else bytes.length - a.2))

/-- RECORD_MAX_LENGTH: the coded count has reached the limit (R162). -/
def execRecordMaxLength (i : LineId) (s : State) : Result :=
  .next (match (s.line i).voice.recording with
    | none => s
    | some r =>
      if r.limit ≤ r.coded then s.finishRecording i .maxLength r.limit (s.line i).voice.afterRecording else s)

/-- RECORDING_COMPLETE: an ended recording to the store is completed, and what follows it begins (R163 to R165, R170).
-/
def execRecordingComplete (i : LineId) (s : State) : Result :=
  .next (match (s.line i).voice.recording.bind (fun r => r.ended) with
    | none => s
    | some (_, _, next) => (s.completeRecording i).afterRecording i next)

/-- FAX_WATCH_EXPIRY: the watch becomes CLOSED (R164). -/
def execFaxWatchExpiry (i : LineId) (s : State) : Result :=
  .next (s.modLine i (fun l => { l with voice := { l.voice with recording := l.voice.recording.map (fun r =>
    if due s.now r.watchEnd then { r with watchOpen := false, watchEnd := none } else r) } }))

/-! ## Decoding -/

/-- PLAY_ENTRY_END: the last byte of the entry in play has been decoded (R168). -/
def execPlayEntryEnd (i : LineId) (s : State) : Result :=
  .next (
    let v := (s.line i).voice
    let inPlay := v.playback.elim false (fun p => decide (p.target = .store) && p.cur.isSome)
    if v.activity = .playing ∧ inPlay = true ∧ s.rangeTaken i = true then s.entryPlayed i else s)

/-- The purpose of the area the Voice Engine decodes from now, if it decodes (R158, R168, R169). -/
def Voice.decodesFrom (v : Voice) : Option Purpose :=
  match v.activity with
  | .greeting => some .stage
  | .playing  => v.playback.map (fun p => match p.target with | .store => .stage | .host => .tx)
  | _ => none

/-- The coding bits the Voice Engine decodes with: a greeting's those of its entry, and a playback's those it took with
the entry or, from the host, at the PLAY take (R157). -/
def State.decodingBits (s : State) (i : LineId) : Nat :=
  let v := (s.line i).voice
  let own := (s.line i).profile.voiceBits
  match v.activity with
  | .playing => v.playback.elim own Playback.bits
  | _ => ((v.greeting.bind s.entry?).bind Entry.bits).getD own

/-- VOICE_BYTES_DECODED: the next `n` bytes are taken for decoding; with no byte to take, or no area to take it from,
silence is sent (R157, R168, R169). -/
def execVoiceBytesDecoded (i : LineId) (n : Nat) (s : State) : Result :=
  .next (match (s.line i).voice.decodesFrom.bind (s.joined i) with
    | none => s.modLine i (fun l => { l with voice.decoding := none })
    | some k =>
      let r := s.remove k n
      r.2.modLine i (fun l => { l with voice.decoding := if r.1.isEmpty then none else some (s.decodingBits i, r.1) }))

end Sys2Proof.Machine
end

