-- ==== Sys2Proof/Machine/TableDirectives.lean ====
section
/-! DEFINITION. The directives on the tables, the areas and the clock: LOAD_RING_PATTERNS (R11), LOAD_TONES (R24), the
routing directives (R47 to R50), SET_CLOCK (R59), the area directives (R61 to R65) and LOAD_LADDER (R79). -/

namespace Sys2Proof.Machine

/-! ## Ring patterns and tones (R11, R24) -/

/-- A ring pattern may be loaded (R11). -/
def patternLegal (p : List (Ms × Ms)) : Bool :=
  decide (1 ≤ p.length) && decide (p.length ≤ 3) && p.all (fun b => decide (b.1 ≤ b.2) && decide (b.2 ≤ 10000))

def runLoadRingPatterns : Directive → State → Answer := onPart argPatterns fun a s =>
  let ps := a.getD []
  if allLines.any (fun i => decide ((s.line i).state = .alerting)) then s.refuse .refusedBusy
  else if 4 < ps.length ∨ ps.all patternLegal = false then s.refuse .refusedTable
  else ({ s with patterns := ps } : State).answer .ok []

def segmentLegal (g : Segment) : Bool :=
  decide (g.onMin ≤ g.onMax) && decide (g.offMin ≤ g.offMax) && decide (g.onMax ≤ 10000) && decide (g.offMax ≤ 10000)

def frequencyLegal (f : Nat) : Bool := decide (300 ≤ f) && decide (f ≤ 3400)

/-- A continuous entry has one segment, off-min 0 and confirm count 1 (R23). -/
def ToneArgs.continuousLegal (a : ToneArgs) : Bool :=
  if a.cadence.any (fun g => g.offMax = 0) then
    decide (a.cadence.length = 1) && a.cadence.all (fun g => g.offMin = 0) && decide (a.confirm = 1)
  else true

/-- The entry a LOAD_TONES carries, where it may be loaded (R24). -/
def ToneArgs.entry (a : ToneArgs) : Option ToneEntry :=
  match toneClass? a.cls with
  | none => none
  | some c =>
    if a.id ≤ 15 ∧ frequencyLegal a.f1 ∧ a.f2.all frequencyLegal ∧ -45 ≤ a.level ∧ a.level ≤ -10 ∧
        1 ≤ a.cadence.length ∧ a.cadence.length ≤ 4 ∧ a.cadence.all segmentLegal ∧ a.continuousLegal ∧
        1 ≤ a.confirm ∧ a.confirm ≤ 4 then
      some ⟨a.id, c, a.f1, a.f2, a.level, a.cadence, a.confirm⟩
    else none

/-- No number stands twice in a list. -/
def noRepeat : List Nat → Bool
  | [] => true
  | a :: t => !t.contains a && noRepeat t

/-- The table a LOAD_TONES carries, where it may be loaded (R24). -/
def toneTable? (as : List ToneArgs) : Option (List ToneEntry) :=
  if Config.tonesMax < as.length ∨ noRepeat (as.map ToneArgs.id) = false then none
  else allSome (as.map ToneArgs.entry)

/-- A new tone table: on every line whose matching runs, every matcher starts fresh against it (R24). -/
def State.loadTones (s : State) (t : List ToneEntry) : State :=
  { s with
    toneTable := t
    lines := s.lines.map (fun l => { l with tone.matchers := if l.row.matching then freshMatchers t else [] }) }

def runLoadTones : Directive → State → Answer := onPart argTone.list fun a s =>
  match a.bind toneTable? with
  | some t => (s.loadTones t).answer .ok []
  | none => s.refuse .refusedTable

/-! ## Routing (R47 to R50) -/

def runRoutePut : Directive → State → Answer := onPart argRoute fun a s =>
  match a, a.bind RouteArgs.entry with
  | some a, some e =>
    if Config.routesMax ≤ s.routes.length then s.refuse .refusedFull
    else if s.routes.length < a.position then s.refuse .refusedArg
    else ({ s with routes := s.routes.take a.position ++ e :: s.routes.drop a.position } : State).answer .ok []
  | _, _ => s.refuse .refusedArg

def runRouteDrop : Directive → State → Answer := onPart (argNum 1) fun a s =>
  if a.getD 0 < s.routes.length then ({ s with routes := s.routes.eraseIdx (a.getD 0) } : State).answer .ok []
  else s.refuse .refusedNotFound

def runRouteClear : Directive → State → Answer := onPart (Arg.pure ()) fun _ s =>
  ({ s with routes := [] } : State).answer .ok []

def runRouteRead : Directive → State → Answer := onPart (argNum 1) fun a s =>
  match s.routes[a.getD 0]? with
  | some e => s.answer .ok (e.encode ++ [byte s.routes.length])
  | none => s.answer .refusedNotFound [byte s.routes.length]

/-- The result of a ROUTE_TEST: position, action, rings, mask, mailbox, greeting (R50). -/
def RoutingCopy.encodeTest (c : RoutingCopy) : List Byte :=
  encPosition c.position ++ [byte c.action.place] ++ encByteOpt c.rings ++ c.mask.encode ++ [byte c.mailbox] ++
  encOpt (encNum 2) c.greeting

def runRouteTest : Directive → State → Answer := onLine argRouteTest fun i a s =>
  match a.bind Prod.fst, a.bind (fun p => p.2.record) with
  | some c, some r => s.answer .ok (s.route i c r).encodeTest
  | _, _ => s.refuse .refusedArg

/-! ## The clock (R59) -/

def runSetClock : Directive → State → Answer := onPart argClock fun a s =>
  match a with
  | some (m, d) =>
    if m ≤ 1439 then ({ s with clock := ⟨m, d, true, 0⟩ } : State).answer .ok [] else s.refuse .refusedArg
  | none => s.refuse .refusedArg

/-! ## Areas (R61 to R65) -/

def areaOf? (n : Nat) : Option AreaId := if h : n < 12 then some ⟨n, h⟩ else none

/-- Two extents of units share one. -/
def overlaps (a n b m : Nat) : Bool := decide (a < b + m) && decide (b < a + n)

/-- The new extent shares no unit with another defined area (R61 check 5). -/
def State.extentFree (s : State) (k : AreaId) (start units : Nat) : Bool :=
  allAreas.all (fun j => decide (j = k) || !(s.area j).isDefined ||
    !overlaps start units (s.area j).start (s.area j).units)

/-- The marks given are legal for the size (R61 check 4). -/
def DefineArgs.marksLegal (a : DefineArgs) : Bool :=
  match a.high, a.low with
  | none, none => true
  | some h, some l => decide (1 ≤ h) && decide (h ≤ a.units * Config.unitBytes) && decide (l < h)
  | _, _ => false

/-- The area as an AREA_DEFINE leaves it (R61). -/
def State.defineArea (s : State) (k : AreaId) (a : DefineArgs) : State :=
  (s.emptyArea k).modArea k (fun r => { r with
    isDefined := true, start := a.start, units := a.units
    high := a.high.getD (a.units * 192), low := a.low.getD (a.units * 64), content := .none })

def runAreaDefine : Directive → State → Answer := onPart argDefine fun a s =>
  match a with
  | none => s.refuse .refusedArg
  | some a =>
    match areaOf? a.id with
    | none => s.refuse .refusedArg
    | some k =>
      let r := s.area k
      if a.units = 0 then
        if r.join.isSome then s.refuse .refusedBusy else (s.setArea k {}).answer .ok []
      else if Config.bufferUnits < a.start + a.units ∨ a.marksLegal = false then s.refuse .refusedArg
      else if s.extentFree k a.start a.units = false then s.refuse .refusedArg
      else if r.join.any (fun j => decide (a.units < j.2.minUnits)) then s.refuse .refusedArg
      else if r.join.any (fun j => decide ((s.line j.1).job ≠ .none)) then s.refuse .refusedBusy
      else (s.defineArea k a).answer .ok []

/-- The purposes the job of a line uses (R70). -/
def Line.jobUses (l : Line) : List Purpose :=
  match l.job with
  | .none  => []
  | .data  => [.tx, .rx]
  | .voice => [.stage, .rx, .tx]
  | .fax   =>
    match l.faxSource with
    | some .host      => [.tx]
    | some (.store _) => [.stage]
    | none            => [l.copies.faxTo.purpose]

/-- An area is joined: empty, GO, kind NONE, and in use where the line's job uses the purpose (R62). -/
def State.joinArea (s : State) (k : AreaId) (i : LineId) (p : Purpose) : State :=
  let s1 := s.modArea k (fun a => { a with
    join := some (i, p), content := .none, fifo := [], marks := [], flow := .go, inUse := none })
  if (s.line i).jobUses.contains p then State.useArea (s.line i).job.content i s1 p else s1

def runAreaJoin : Directive → State → Answer := onLine argPair fun i a s =>
  match (a.bind (fun p => areaOf? p.1)), (a.bind (fun p => purpose? p.2)) with
  | some k, some p =>
    if (s.area k).isDefined = false then s.refuse .refusedNotFound
    else if (s.area k).units < p.minUnits then s.refuse .refusedArg
    else if (s.area k).join.isSome ∨ (s.joined i p).isSome then s.refuse .refusedBusy
    else (s.joinArea k i p).answer .ok []
  | _, _ => s.refuse .refusedArg

/-- A directive on a defined area that no job uses (R63, R64). -/
def onFreeArea (f : AreaId → State → Answer) : Directive → State → Answer := onPart (argNum 1) fun a s =>
  match areaOf? (a.getD 0) with
  | none => s.refuse .refusedArg
  | some k =>
    if (s.area k).isDefined = false then s.refuse .refusedNotFound
    else if (s.area k).inUse.isSome then s.refuse .refusedBusy
    else f k s

def runAreaUnjoin : Directive → State → Answer := onFreeArea fun k s =>
  if (s.area k).join.isNone then s.answer .ok []
  else ((s.emptyArea k).modArea k (fun a => { a with content := .none, join := none })).answer .ok []

def runAreaFlush : Directive → State → Answer := onFreeArea fun k s => (s.emptyArea k).answer .ok []

def runAreaRead : Directive → State → Answer := onPart (argNum 1) fun a s =>
  match areaOf? (a.getD 0) with
  | none => s.refuse .refusedArg
  | some k => s.answer .ok (s.area k).encode

/-! ## Ladders (R79) -/

/-- Rates strictly ascend, D and U never fall, and every step is in range with D below U (R78, R79). -/
def ladderLegal : List LadderStep → Bool
  | [] => true
  | a :: t =>
    decide (300 ≤ a.rate) && decide (a.rate ≤ 33600) && decide (a.u ≤ 160) && decide (a.d < a.u) &&
    (match t with
     | [] => true
     | b :: _ => decide (a.rate < b.rate) && decide (a.d ≤ b.d) && decide (a.u ≤ b.u)) &&
    ladderLegal t

def runLoadLadder : Directive → State → Answer := onPart argLadder fun a s =>
  match a with
  | none => s.refuse .refusedArg
  | some (fax, steps) =>
    let job : Job := if fax then .fax else .data
    if allLines.any (fun i => decide ((s.line i).job = job)) then s.refuse .refusedBusy
    else if (if fax then Config.faxStepsMax else Config.dataStepsMax) < steps.length ∨ ladderLegal steps = false then
      s.refuse .refusedTable
    else (if fax then { s with faxLadder := steps } else { s with dataLadder := steps } : State).answer .ok []

/-! ## The commands -/

def execLoadRingPatterns (d : Directive) (s : State) : Result := .next (s.directive 0x14 d runLoadRingPatterns)
def execLoadTones (d : Directive) (s : State) : Result := .next (s.directive 0x20 d runLoadTones)
def execRoutePut (d : Directive) (s : State) : Result := .next (s.directive 0x28 d runRoutePut)
def execRouteDrop (d : Directive) (s : State) : Result := .next (s.directive 0x29 d runRouteDrop)
def execRouteClear (d : Directive) (s : State) : Result := .next (s.directive 0x2A d runRouteClear)
def execRouteRead (d : Directive) (s : State) : Result := .next (s.directive 0x2B d runRouteRead)
def execRouteTest (d : Directive) (s : State) : Result := .next (s.directive 0x2F d runRouteTest)
def execSetClock (d : Directive) (s : State) : Result := .next (s.directive 0x2E d runSetClock)
def execAreaDefine (d : Directive) (s : State) : Result := .next (s.directive 0x30 d runAreaDefine)
def execAreaJoin (d : Directive) (s : State) : Result := .next (s.directive 0x31 d runAreaJoin)
def execAreaUnjoin (d : Directive) (s : State) : Result := .next (s.directive 0x32 d runAreaUnjoin)
def execAreaFlush (d : Directive) (s : State) : Result := .next (s.directive 0x33 d runAreaFlush)
def execAreaRead (d : Directive) (s : State) : Result := .next (s.directive 0x34 d runAreaRead)
def execLoadLadder (d : Directive) (s : State) : Result := .next (s.directive 0x40 d runLoadLadder)

end Sys2Proof.Machine
end

