-- ==== Sys2Proof/Machine/ToneEvents.lean ====
section
/-! DEFINITION. The meanings of the Tone Engine's events: detectors and matchers (R25 to R27), generation (R28), power
frames (R30, R31), DTMF (R35, R36), caller identity (R38, R39), classification time (R42), ANSWER_DROP (R53), and the
clock (R58). -/

namespace Sys2Proof.Machine

/-- The frame in progress has had a detector or a pair on (R30). -/
def Line.busyFrame (l : Line) : Line := { l with tone.frameBusy := true }

/-- TONE_DETECTOR_CHANGE: the signal received turns the detector of an entry on, an onset, or off, the end of an
on-period; a tone already on when its matcher started fresh turns its detector on and is no onset (R22, R25 to R27). -/
def execToneDetectorChange (i : LineId) (id : Nat) (heard : List HeardTone) (already : Bool) (s : State) : Result :=
  .next (
    match (s.line i).matcher? id, s.toneEntry? id with
    | some m, some e =>
      if m.det = e.isOn heard then s
      else if e.isOn heard then
        let s1 := s.modLine i Line.busyFrame
        if already then s1.matchEvent i id (fun _ m => { matcher := { m with det := true } })
        else s1.matchEvent i id (fun e m => m.onset e s.now (s.line i).voice.codedCount)
      else s.matchEvent i id (fun e m => m.offset e s.now)
    | _, _ => s)

/-- CADENCE_PERIOD_EXPIRY: the period a segmented matcher times reaches a bound (R26). -/
def execCadencePeriodExpiry (i : LineId) (id : Nat) (s : State) : Result :=
  .next (s.matchEvent i id (fun e m => if e.continuous then { matcher := m } else m.expire e s.now))

/-- CONTINUOUS_TONE_CONFIRM: a continuous entry has been on for on-min (R27). -/
def execContinuousToneConfirm (i : LineId) (id : Nat) (s : State) : Result :=
  .next (s.matchEvent i id (fun e m => if e.continuous then m.expire e s.now else { matcher := m }))

/-- GENERATED_TONE_END: the requested time of a tone ends, or a segment turns over (R28). -/
def execGeneratedToneEnd (i : LineId) (s : State) : Result :=
  .next (s.modLine i (fun l => { l with tone := { l.tone with
    gen := l.tone.gen.bind (ToneGen.goOn s.now), echoGen := l.tone.echoGen.bind (ToneGen.goOn s.now) } }))

/-- The frame in progress ends and the next begins: the noise floor and the run of speech frames (R30, R31). -/
def Line.endFrame (now : Ms) (p : Int) (l : Line) : Line :=
  { l with tone := { l.tone with
      nf16 := if l.quietFrame p then nfStep l.tone.nf16 p else l.tone.nf16
      speechRun := if l.speechFrame p then min 3 (l.tone.speechRun + 1) else 0
      frameBusy := l.tone.anyDetector || l.tone.pairOn, frameStart := now } }

/-- POWER_FRAME_END: the findings of a 32 ms frame (R30, R31, R34, R43, R160, R162). -/
def execPowerFrameEnd (i : LineId) (power : Int) (s : State) : Result :=
  .next (
    let l := s.line i
    if l.row.power = true ∧ l.tone.frameStart + 32 ≤ s.now then
      let p := clampPower power
      let silent := l.silentFrame p
      let s1 := s.modLine i (Line.endFrame s.now p)
      let s2 := if l.speechFrame p && decide (l.tone.speechRun = 2) then s1.speechFound i else s1
      (s2.watchFrame i silent).recordFrame i silent
    else s)

/-- A DTMF event: the detector's next condition, and the digits recognised (R35, R36). -/
def State.dtmfEvent (s : State) (i : LineId) (r : DtmfResult) : State :=
  r.digits.foldl (State.digitRecognised i) (s.modLine i (fun l => { l with tone.dtmf := r.next }))

/-- DTMF detection runs and is not held for the line's own sending (R22, R29). -/
def Line.detectsDtmf (l : Line) : Bool := l.row.dtmf && l.tone.digitTx.isNone

/-- DTMF_PAIR_CHANGE: in the signal received a valid pair starts or stops (R35). While detection is stopped or held no
pair counts as present, for the frames of R30 and R31 too, and a valid pair that the command tells of to an idle detector
is an onset at that moment, also where the pair was on the line before detection ran or a hold ended: the spec is silent.
DESIGN CHOICE (notes/assumptions/18.md). -/
def execDtmfPairChange (i : LineId) (heard : List HeardTone) (s : State) : Result :=
  .next (
    if (s.line i).detectsDtmf then
      match dtmfPair heard with
      | some d =>
        (s.modLine i (fun l => { l with tone := { l.tone with pairOn := true, frameBusy := true } })).dtmfEvent i
          ((s.line i).tone.dtmf.onset s.now d)
      | none =>
        (s.modLine i (fun l => { l with tone.pairOn := false })).dtmfEvent i ((s.line i).tone.dtmf.stop s.now)
    else s)

/-- DTMF_PRESENCE_EXPIRY: a pair present for 40 ms is held (R35). -/
def execDtmfPresenceExpiry (i : LineId) (s : State) : Result :=
  .next (match (s.line i).tone.dtmf with
    | .presence _ _ => s.dtmfEvent i ((s.line i).tone.dtmf.settle s.now)
    | _ => s)

/-- DTMF_ABSENCE_EXPIRY: a held pair absent for 40 ms is recognised (R35, R36). -/
def execDtmfAbsenceExpiry (i : LineId) (s : State) : Result :=
  .next (match (s.line i).tone.dtmf with
    | .held _ _ => s.dtmfEvent i ((s.line i).tone.dtmf.settle s.now)
    | _ => s)

/-- A signal reaches the caller identity receiver while its window is open, one item for each bit time; the end of a
message of type 0x3A closes the window (R38, R39, R41, R51). -/
def State.cidSignal (s : State) (i : LineId) (heard : List HeardTone) : State :=
  let c := (s.line i).tone.cid
  if c.window = .open_ then
    let r := c.feed (heard.filterMap signalBit?)
    let s1 := s.modLine i (fun l => { l with tone.cid := r.1 })
    if r.2 then (s1.closeWindowOn i r.1.record).decide? i else s1
  else s

/-- CID_MESSAGE_END: the signal up to the end of a message (R39). -/
def execCidMessageEnd (i : LineId) (heard : List HeardTone) (s : State) : Result := .next (s.cidSignal i heard)

/-- CID_SYNCHRONISED: the signal up to the 60th consecutive mark (R39). -/
def execCidSynchronised (i : LineId) (heard : List HeardTone) (s : State) : Result := .next (s.cidSignal i heard)

/-- CID_WAIT_EXPIRY: the caller identity window closes (R38, R41, R51). -/
def execCidWaitExpiry (i : LineId) (s : State) : Result :=
  .next (
    let c := (s.line i).tone.cid
    if c.window = .open_ ∧ due s.now c.wait = true then (s.closeWindow i).decide? i else s)

/-- CLASSIFY_TIME_EXPIRY: listening ends with the default of the mask (R42). -/
def execClassifyTimeExpiry (i : LineId) (s : State) : Result :=
  .next (
    let l := s.line i
    if l.listening && due s.now l.classifyTimer then s.classResult i l.defaultJob .timeout else s)

/-- ANSWER_DROP_EXPIRY: the call is released with REJECTED (R53). -/
def execAnswerDropExpiry (i : LineId) (s : State) : Result :=
  .next (
    if (s.line i).state = .classify ∧ due s.now (s.line i).dropTimer = true then s.release i .rejected else s)

/-- The clock one minute on (R58). -/
def Clock.advance (c : Clock) : Clock :=
  { c with
    minute := if c.minute = 1439 then 0 else c.minute + 1
    day := if c.minute = 1439 then (c.day + 1) % 65536 else c.day
    elapsed := c.elapsed - 60000 }

/-- CLOCK_MINUTE_ADVANCE: a full minute has elapsed on a set clock (R58). -/
def execClockMinuteAdvance (s : State) : Result :=
  .next (if s.clock.isSet = true ∧ 60000 ≤ s.clock.elapsed then { s with clock := s.clock.advance } else s)

end Sys2Proof.Machine
end

