-- ==== Sys2Proof/Machine/Dispatch.lean ====
section
/-! DEFINITION. What each command does: one meaning for each constructor of `Instr`. -/

namespace Sys2Proof.Machine

/-- The effect of a command on everything but the queue. -/
def exec (i : Instr) (s : State) : Host.Outcome State Fault Refusal :=
  match i with
  | .powerOn => Sys2Proof.Machine.execPowerOn s
  | .partReset d => Sys2Proof.Machine.execPartReset d s
  | .lineBreak => Sys2Proof.Machine.execLineBreak s
  | .breakEnd => Sys2Proof.Machine.execBreakEnd s
  | .hostDirectiveFrame payload => Sys2Proof.Machine.execHostDirectiveFrame payload s
  | .hostLineDataFrame l k payload => Sys2Proof.Machine.execHostLineDataFrame l k payload s
  | .hostPageEndFrame l payload => Sys2Proof.Machine.execHostPageEndFrame l payload s
  | .hostStoreDataFrame payload => Sys2Proof.Machine.execHostStoreDataFrame payload s
  | .hostStoreEndFrame payload => Sys2Proof.Machine.execHostStoreEndFrame payload s
  | .hostFrameBad wire => Sys2Proof.Machine.execHostFrameBad wire s
  | .interByteGapExpiry => Sys2Proof.Machine.execInterByteGapExpiry s
  | .unknownDirective code d => Sys2Proof.Machine.execUnknownDirective code d s
  | .outboundFrameChoice => Sys2Proof.Machine.execOutboundFrameChoice s
  | .outboundFrameSent => Sys2Proof.Machine.execOutboundFrameSent s
  | .lineEnable d => Sys2Proof.Machine.execLineEnable d s
  | .lineDisable d => Sys2Proof.Machine.execLineDisable d s
  | .lineReset d => Sys2Proof.Machine.execLineReset d s
  | .setProfile d => Sys2Proof.Machine.execSetProfile d s
  | .loadRingPatterns d => Sys2Proof.Machine.execLoadRingPatterns d s
  | .dial d => Sys2Proof.Machine.execDial d s
  | .hangUp d => Sys2Proof.Machine.execHangUp d s
  | .loopbackEnter d => Sys2Proof.Machine.execLoopbackEnter d s
  | .loopbackLeave d => Sys2Proof.Machine.execLoopbackLeave d s
  | .loopSignals d => Sys2Proof.Machine.execLoopSignals d s
  | .loadTones d => Sys2Proof.Machine.execLoadTones d s
  | .sendDigits d => Sys2Proof.Machine.execSendDigits d s
  | .routePut d => Sys2Proof.Machine.execRoutePut d s
  | .routeDrop d => Sys2Proof.Machine.execRouteDrop d s
  | .routeClear d => Sys2Proof.Machine.execRouteClear d s
  | .routeRead d => Sys2Proof.Machine.execRouteRead d s
  | .routeTest d => Sys2Proof.Machine.execRouteTest d s
  | .answer d => Sys2Proof.Machine.execAnswer d s
  | .reject d => Sys2Proof.Machine.execReject d s
  | .setClock d => Sys2Proof.Machine.execSetClock d s
  | .areaDefine d => Sys2Proof.Machine.execAreaDefine d s
  | .areaJoin d => Sys2Proof.Machine.execAreaJoin d s
  | .areaUnjoin d => Sys2Proof.Machine.execAreaUnjoin d s
  | .areaFlush d => Sys2Proof.Machine.execAreaFlush d s
  | .areaRead d => Sys2Proof.Machine.execAreaRead d s
  | .loadLadder d => Sys2Proof.Machine.execLoadLadder d s
  | .rateRequestTrial d => Sys2Proof.Machine.execRateRequestTrial d s
  | .rateRequest d => Sys2Proof.Machine.execRateRequest d s
  | .qualityRead d => Sys2Proof.Machine.execQualityRead d s
  | .faxDocument d => Sys2Proof.Machine.execFaxDocument d s
  | .storeFormat d => Sys2Proof.Machine.execStoreFormat d s
  | .storeStatus d => Sys2Proof.Machine.execStoreStatus d s
  | .msgList d => Sys2Proof.Machine.execMsgList d s
  | .msgInfo d => Sys2Proof.Machine.execMsgInfo d s
  | .msgMark d => Sys2Proof.Machine.execMsgMark d s
  | .msgDelete d => Sys2Proof.Machine.execMsgDelete d s
  | .msgUpload d => Sys2Proof.Machine.execMsgUpload d s
  | .msgDownload d => Sys2Proof.Machine.execMsgDownload d s
  | .transferStop d => Sys2Proof.Machine.execTransferStop d s
  | .record d => Sys2Proof.Machine.execRecord d s
  | .play d => Sys2Proof.Machine.execPlay d s
  | .voiceStop d => Sys2Proof.Machine.execVoiceStop d s
  | .lineStatus d => Sys2Proof.Machine.execLineStatus d s
  | .ringInputChange l active => Sys2Proof.Machine.execRingInputChange l active s
  | .ringQualified l => Sys2Proof.Machine.execRingQualified l s
  | .burstTrailingEdge l => Sys2Proof.Machine.execBurstTrailingEdge l s
  | .ringGapExpiry l => Sys2Proof.Machine.execRingGapExpiry l s
  | .ringAbandonExpiry l => Sys2Proof.Machine.execRingAbandonExpiry l s
  | .loopInputChange l present => Sys2Proof.Machine.execLoopInputChange l present s
  | .loopDrop l => Sys2Proof.Machine.execLoopDrop l s
  | .releaseGuardExpiry l => Sys2Proof.Machine.execReleaseGuardExpiry l s
  | .dialToneWaitExpiry l => Sys2Proof.Machine.execDialToneWaitExpiry l s
  | .awaitToneExpiry l => Sys2Proof.Machine.execAwaitToneExpiry l s
  | .dtmfDigitOnEnd l => Sys2Proof.Machine.execDtmfDigitOnEnd l s
  | .dtmfDigitOffEnd l => Sys2Proof.Machine.execDtmfDigitOffEnd l s
  | .pulseBreakEnd l => Sys2Proof.Machine.execPulseBreakEnd l s
  | .pulseMakeEnd l => Sys2Proof.Machine.execPulseMakeEnd l s
  | .pulseInterdigitEnd l => Sys2Proof.Machine.execPulseInterdigitEnd l s
  | .dialPauseEnd l => Sys2Proof.Machine.execDialPauseEnd l s
  | .flashEnd l => Sys2Proof.Machine.execFlashEnd l s
  | .answerWaitExpiry l => Sys2Proof.Machine.execAnswerWaitExpiry l s
  | .toneDetectorChange l id on already => Sys2Proof.Machine.execToneDetectorChange l id on already s
  | .cadencePeriodExpiry l id => Sys2Proof.Machine.execCadencePeriodExpiry l id s
  | .continuousToneConfirm l id => Sys2Proof.Machine.execContinuousToneConfirm l id s
  | .generatedToneEnd l => Sys2Proof.Machine.execGeneratedToneEnd l s
  | .powerFrameEnd l power => Sys2Proof.Machine.execPowerFrameEnd l power s
  | .dtmfPairChange l pair => Sys2Proof.Machine.execDtmfPairChange l pair s
  | .dtmfPresenceExpiry l => Sys2Proof.Machine.execDtmfPresenceExpiry l s
  | .dtmfAbsenceExpiry l => Sys2Proof.Machine.execDtmfAbsenceExpiry l s
  | .cidMessageEnd l bits => Sys2Proof.Machine.execCidMessageEnd l bits s
  | .cidWaitExpiry l => Sys2Proof.Machine.execCidWaitExpiry l s
  | .classifyTimeExpiry l => Sys2Proof.Machine.execClassifyTimeExpiry l s
  | .answerDropExpiry l => Sys2Proof.Machine.execAnswerDropExpiry l s
  | .clockMinuteAdvance => Sys2Proof.Machine.execClockMinuteAdvance s
  | .measurementRecord l r => Sys2Proof.Machine.execMeasurementRecord l r s
  | .trainingRecord l r => Sys2Proof.Machine.execTrainingRecord l r s
  | .trainingOutcome l locked => Sys2Proof.Machine.execTrainingOutcome l locked s
  | .rateOkWaitExpiry l => Sys2Proof.Machine.execRateOkWaitExpiry l s
  | .linkRateReceived l step => Sys2Proof.Machine.execLinkRateReceived l step s
  | .linkRateOkReceived l step => Sys2Proof.Machine.execLinkRateOkReceived l step s
  | .carrierChange l on => Sys2Proof.Machine.execCarrierChange l on s
  | .carrierLossExpiry l => Sys2Proof.Machine.execCarrierLossExpiry l s
  | .frameCheckFail l => Sys2Proof.Machine.execFrameCheckFail l s
  | .capsReceived l c => Sys2Proof.Machine.execCapsReceived l c s
  | .capsRepeatExpiry l => Sys2Proof.Machine.execCapsRepeatExpiry l s
  | .exchangeTimerExpiry l => Sys2Proof.Machine.execExchangeTimerExpiry l s
  | .dataAnswerToneEnd l => Sys2Proof.Machine.execDataAnswerToneEnd l s
  | .linkDataReceived l seq ack payload => Sys2Proof.Machine.execLinkDataReceived l seq ack payload s
  | .linkAckReceived l n => Sys2Proof.Machine.execLinkAckReceived l n s
  | .linkResendReceived l seq => Sys2Proof.Machine.execLinkResendReceived l seq s
  | .linkPauseReceived l => Sys2Proof.Machine.execLinkPauseReceived l s
  | .linkResumeReceived l => Sys2Proof.Machine.execLinkResumeReceived l s
  | .linkEndReceived l => Sys2Proof.Machine.execLinkEndReceived l s
  | .linkEndOkReceived l => Sys2Proof.Machine.execLinkEndOkReceived l s
  | .linkFrameFormed l => Sys2Proof.Machine.execLinkFrameFormed l s
  | .linkFrameTransmitted l => Sys2Proof.Machine.execLinkFrameTransmitted l s
  | .resendTimerExpiry l => Sys2Proof.Machine.execResendTimerExpiry l s
  | .pauseTimerExpiry l => Sys2Proof.Machine.execPauseTimerExpiry l s
  | .ackSpacingExpiry l => Sys2Proof.Machine.execAckSpacingExpiry l s
  | .drainTimerExpiry l => Sys2Proof.Machine.execDrainTimerExpiry l s
  | .endOkWaitExpiry l => Sys2Proof.Machine.execEndOkWaitExpiry l s
  | .faxAnswerToneEnd l => Sys2Proof.Machine.execFaxAnswerToneEnd l s
  | .faxCallToneExpiry l => Sys2Proof.Machine.execFaxCallToneExpiry l s
  | .faxOfferReceived l rate res blockCorrection => Sys2Proof.Machine.execFaxOfferReceived l rate res blockCorrection s
  | .faxChooseReceived l step res blockCorrection => Sys2Proof.Machine.execFaxChooseReceived l step res blockCorrection s
  | .faxCheckEnd l locked errors => Sys2Proof.Machine.execFaxCheckEnd l locked errors s
  | .faxTrainLockTimeout l => Sys2Proof.Machine.execFaxTrainLockTimeout l s
  | .faxTrainOkReceived l => Sys2Proof.Machine.execFaxTrainOkReceived l s
  | .faxTrainRetryReceived l => Sys2Proof.Machine.execFaxTrainRetryReceived l s
  | .faxPageBegin l => Sys2Proof.Machine.execFaxPageBegin l s
  | .faxSenderPageEnd l => Sys2Proof.Machine.execFaxSenderPageEnd l s
  | .faxFillExpiry l => Sys2Proof.Machine.execFaxFillExpiry l s
  | .faxErrorBurst l => Sys2Proof.Machine.execFaxErrorBurst l s
  | .faxPageCloseReceived l last again => Sys2Proof.Machine.execFaxPageCloseReceived l last again s
  | .faxVerdictReceived l v stop q => Sys2Proof.Machine.execFaxVerdictReceived l v stop q s
  | .faxBlockFrameReceived l seq payload => Sys2Proof.Machine.execFaxBlockFrameReceived l seq payload s
  | .faxBlockEndReceived l number count => Sys2Proof.Machine.execFaxBlockEndReceived l number count s
  | .faxBlockMapReceived l number missing => Sys2Proof.Machine.execFaxBlockMapReceived l number missing s
  | .faxEndReceived l role => Sys2Proof.Machine.execFaxEndReceived l role s
  | .faxEndTransmitted l role => Sys2Proof.Machine.execFaxEndTransmitted l role s
  | .faxResponseWaitExpiry l role => Sys2Proof.Machine.execFaxResponseWaitExpiry l role s
  | .faxReceiveWaitExpiry l => Sys2Proof.Machine.execFaxReceiveWaitExpiry l s
  | .storeBlockRequest => Sys2Proof.Machine.execStoreBlockRequest s
  | .storeStageWrite l => Sys2Proof.Machine.execStoreStageWrite l s
  | .storeStageFill l => Sys2Proof.Machine.execStoreStageFill l s
  | .greetingEnd l => Sys2Proof.Machine.execGreetingEnd l s
  | .recordToneEnd l => Sys2Proof.Machine.execRecordToneEnd l s
  | .recordMaxLength l => Sys2Proof.Machine.execRecordMaxLength l s
  | .recordingComplete l => Sys2Proof.Machine.execRecordingComplete l s
  | .faxWatchExpiry l => Sys2Proof.Machine.execFaxWatchExpiry l s
  | .playEntryEnd l => Sys2Proof.Machine.execPlayEntryEnd l s
  | .cidSynchronised l bits => Sys2Proof.Machine.execCidSynchronised l bits s
  | .faxPageDataReceived l bytes => Sys2Proof.Machine.execFaxPageDataReceived l bytes s
  | .faxPageDataSent l n => Sys2Proof.Machine.execFaxPageDataSent l n s
  | .voiceBytesCoded l bytes => Sys2Proof.Machine.execVoiceBytesCoded l bytes s
  | .voiceBytesDecoded l n => Sys2Proof.Machine.execVoiceBytesDecoded l n s

end Sys2Proof.Machine
end

