-- ==== Sys2Proof/Machine/Time.lean ====
section
/-! DEFINITION. The passing of time: what a step does with no command waiting (notes/assumptions/3.md). -/

namespace Sys2Proof.Machine

/-- The clock's elapsed time goes on while the clock is set (R58). -/
def Clock.tick (c : Clock) : Clock := if c.isSet then { c with elapsed := c.elapsed + 1 } else c

/-- One millisecond passes. -/
def State.tick (s : State) : State := { s with now := s.now + 1, clock := s.clock.tick }

/-- A command put at the front of the queue. -/
def State.withFront (s : State) (c : Option Instr) : State :=
  match c with
  | some c => { s with pending := c :: s.pending }
  | none   => s

end Sys2Proof.Machine
end

