-- ==== Sys2Proof/Machine/Step.lean ====
section
/-! DEFINITION. One step of the part: the command at the front of the queue, or one millisecond. -/

namespace Sys2Proof.Machine

/-- The command at the front of the queue is done with the queue's rest; with an empty queue a millisecond passes. -/
def step (s : State) : Host.Outcome State Fault Refusal :=
  match s.pending with
  | c :: rest => exec c { s with pending := rest }
  | [] => .next s.tick

/-- The state with the command a word spells at the front of its queue. -/
def State.withFetchWord (s : State) (nbits w : Nat) : State := s.withFront (Sys2Proof.decodeTableWord nbits w)

end Sys2Proof.Machine
end

