-- ==== Sys2Proof/Safety.lean ====
section
/-! DEFINITION. The terms the statements use: a directive that is taken at once, what an outcome leaves, and the
invariant of the part. -/

namespace Sys2Proof.Machine

/-- The outcome is a next state with the property given. -/
def nextHolds (o : Result) (p : State → Prop) : Prop := ∃ t, o = .next t ∧ p t

/-- The Decoder deals with a directive at once: none in hand or waiting, no part reset under way, and room in the reply
list (R175, R176). -/
abbrev State.takes (s : State) : Prop := s.decoder = {} ∧ s.replyRoom = true

/-- The outcome of a directive: a state with the property given and the reply list as it was, and then the reply at the end
of that list. -/
def repliesWith (o : Result) (s : State) (r : Reply) (p : State → Prop) : Prop :=
  ∃ t, o = .next (t.reply r) ∧ t.replies = s.replies ∧ p t

/-- The lines but one are the same in both states. -/
def othersSame (i : LineId) (s t : State) : Prop := ∀ j, j ≠ i → t.line j = s.line j

/-- The tables the host loads are the same in both states (R11, R23, R45, R78). -/
def tablesSame (s t : State) : Prop :=
  t.toneTable = s.toneTable ∧ t.patterns = s.patterns ∧ t.routes = s.routes ∧ t.dataLadder = s.dataLadder ∧
  t.faxLadder = s.faxLadder

/-- A line's STAGE area is being written out to an entry (R148). -/
def StageOp.isWriting : StageOp → Bool
  | .writing _ _ _ => true
  | _ => false

/-- The bytes stand in `t` at the offsets of the entry from `o` on, at the DRAM addresses the entry's chain gives them, and
every other address reads as it did in `s` (R140, R146). -/
def writesEntry (s t : State) (e : Entry) (o : Nat) (bs : List Byte) : Prop :=
  t.readEntry e o bs.length = bs ∧
  ∀ x, (∀ k, k < bs.length → x ≠ s.store.byteAddress e (o + k)) → dramRead t.dram x = dramRead s.dram x

/-- The value of a profile field, by the identifiers 0 to 51 of the table of R5 in its order; yes is 1 and no is 0. -/
def Profile.field (p : Profile) (id : Nat) : Nat :=
  [match p.dialMethod with | .tone => 0 | .pulse => 1, p.toneOnMs, p.toneOffMs, p.pulseBreakMs, p.pulseMakeMs,
    p.pulseInterdigitMs, p.flashMs, p.dialToneWaitMs, p.blindDial.toNat, p.answerWaitS, p.ringQualifyMs, p.ringGapMs,
    p.ringAbandonMs, p.cidWaitMs, p.cidSetsClock.toNat, p.answerEnable.toNat, p.defaultRings,
    p.defaultMask.data.toNat + 2 * p.defaultMask.fax.toNat + 4 * p.defaultMask.voice.toNat, p.defaultMailbox,
    p.classifyMs, p.speechMarginDb, p.silenceMarginDb, p.loopDropMs, p.carrierLossMs, p.dataFloor, p.dataStart,
    p.dataCeiling, p.faxFloor, p.faxCeiling, p.windowMax, p.resendMs, p.retryLimit, p.pauseLimitS, p.impulsePenalty,
    p.fbPersist, p.ffPersist, p.dropPersist, p.errLimit, p.blockCorrection.toNat, p.goodPct, p.acceptPct, p.runLimit,
    match p.faxTo with | .host => 0 | .store => 1, p.voiceBits, p.silenceEndS, p.maxRecordS, p.minRecordMs,
    p.faxWatchS, p.bargeIn.toNat, p.voiceHold.toNat, p.recordToneMs, p.noticeMask.toNat].getD id 0

/-- An area holds no more than its size and at most eight page marks, each at a place inside what it holds (R60, R66). -/
def Area.fits (a : Area) : Prop :=
  a.occupancy ≤ a.size ∧ a.marks.length ≤ Config.pageMarksMax ∧ ∀ m ∈ a.marks, m.1 ≤ a.occupancy

/-- A notice queue holds at most sixteen entries (R178). -/
def NoticeQueue.fits (q : NoticeQueue) : Prop := q.entries.length ≤ Config.noticeQueueMax

/-- The invariant of the part: the DRAM is in its canonical form, every notice queue and every area is within its
bounds, and the Decoder's input list and the replies made and not transmitted are within theirs (R60, R66, R175, R176,
R178). -/
def State.Wf (s : State) : Prop :=
  dramWf s.dram = true ∧ s.partQueue.fits ∧ (∀ i, (s.line i).queue.fits) ∧ (∀ k, (s.area k).fits) ∧
  s.decoder.input.length ≤ Config.inputListMax ∧ s.repliesOut ≤ Config.replyListMax

/-- The blocks of a formatted store: no two entries have one id, and the free chain and the chains of the entries together
hold each message block exactly once (R143, R145). -/
def Store.whole (st : Store) : Prop :=
  st.formatted = true → (st.dir.map Entry.id).Nodup ∧
    (st.free ++ st.dir.flatMap Entry.chain).Perm (List.range st.m)

end Sys2Proof.Machine
end

