-- ==== Sys2Proof/WellFormed.lean ====
section
/-! DEFINITION. Which commands carry data that the outside world can give: the ranges the rules state for a frame, a
directive, a record, a link frame and a fax message. -/

namespace Sys2Proof

/-- A directive fits one host frame: its code, line value and tag and at most 252 argument bytes (R171). -/
def Directive.wellFormed (d : Directive) : Bool := decide (d.args.length ≤ 252)

/-- A frame's payload is 0 to 255 bytes (R171). -/
def framePayload (bs : List Byte) : Bool := decide (bs.length ≤ 255)

/-- The fields of a measurement record (R73). -/
def MeasRecord.wellFormed (r : MeasRecord) : Bool :=
  decide (r.es ≤ 2147483647) && decide (r.ee ≤ 2147483647) && decide (r.hits ≤ 255)

/-- The payload of a link DATA frame and of a block frame is 1 to 128 bytes (R101, R129). -/
def unitPayload (bs : List Byte) : Bool := decide (1 ≤ bs.length) && decide (bs.length ≤ 128)

/-- An id of a tone entry (R23). -/
def toneId (n : Nat) : Bool := decide (n < 16)

/-- A list of missing seqs: 0 to 31, ascending (R130). -/
def missingList : List Nat → Bool
  | [] => true
  | [a] => decide (a < 32)
  | a :: b :: t => decide (a < b) && missingList (b :: t)

/-- The data of a command lies in the ranges its rule states. -/
def Instr.wellFormed : Instr → Bool
  | .powerOn | .lineBreak | .breakEnd | .interByteGapExpiry | .outboundFrameChoice
  | .outboundFrameSent | .clockMinuteAdvance | .storeBlockRequest => true
  | .hostDirectiveFrame p | .hostLineDataFrame _ _ p | .hostPageEndFrame _ p | .hostStoreDataFrame p
  | .hostStoreEndFrame p => framePayload p
  | .hostFrameBad w => !w.isEmpty
  | .partReset d | .unknownDirective _ d | .lineEnable d | .lineDisable d | .lineReset d | .setProfile d
  | .loadRingPatterns d | .dial d | .hangUp d | .loopbackEnter d | .loopbackLeave d | .loopSignals d | .loadTones d
  | .sendDigits d | .routePut d | .routeDrop d | .routeClear d | .routeRead d | .routeTest d | .answer d | .reject d
  | .setClock d | .areaDefine d | .areaJoin d | .areaUnjoin d | .areaFlush d | .areaRead d | .loadLadder d
  | .rateRequestTrial d | .rateRequest d | .qualityRead d | .faxDocument d | .storeFormat d | .storeStatus d
  | .msgList d | .msgInfo d | .msgMark d | .msgDelete d | .msgUpload d | .msgDownload d | .transferStop d | .record d
  | .play d | .voiceStop d | .lineStatus d => d.wellFormed
  | .toneDetectorChange _ id _ _ | .cadencePeriodExpiry _ id | .continuousToneConfirm _ id => toneId id
  | .measurementRecord _ r | .trainingRecord _ r => r.wellFormed
  | .linkDataReceived _ _ _ p => unitPayload p
  | .faxVerdictReceived _ _ _ q => decide (q ≤ 160)
  | .faxBlockFrameReceived _ _ p => unitPayload p
  | .faxBlockEndReceived _ n c => decide (n < 256) && decide (1 ≤ c) && decide (c ≤ 32)
  | .faxBlockMapReceived _ n m => decide (n < 256) && missingList m
  | .ringInputChange _ _ | .ringQualified _ | .burstTrailingEdge _ | .ringGapExpiry _ | .ringAbandonExpiry _
  | .loopInputChange _ _ | .loopDrop _ | .releaseGuardExpiry _ | .dialToneWaitExpiry _ | .awaitToneExpiry _
  | .dtmfDigitOnEnd _ | .dtmfDigitOffEnd _ | .pulseBreakEnd _ | .pulseMakeEnd _ | .pulseInterdigitEnd _
  | .dialPauseEnd _ | .flashEnd _ | .answerWaitExpiry _ | .generatedToneEnd _ | .powerFrameEnd _ _
  | .dtmfPairChange _ _ | .dtmfPresenceExpiry _ | .dtmfAbsenceExpiry _ | .cidMessageEnd _ _ | .cidWaitExpiry _
  | .classifyTimeExpiry _ | .answerDropExpiry _ | .trainingOutcome _ _ | .rateOkWaitExpiry _ | .linkRateReceived _ _
  | .linkRateOkReceived _ _ | .carrierChange _ _ | .carrierLossExpiry _ | .frameCheckFail _ | .capsReceived _ _
  | .capsRepeatExpiry _ | .exchangeTimerExpiry _ | .dataAnswerToneEnd _ | .linkAckReceived _ _
  | .linkResendReceived _ _ | .linkPauseReceived _ | .linkResumeReceived _ | .linkEndReceived _ | .linkEndOkReceived _
  | .linkFrameFormed _ | .linkFrameTransmitted _ | .resendTimerExpiry _ | .pauseTimerExpiry _ | .ackSpacingExpiry _
  | .drainTimerExpiry _ | .endOkWaitExpiry _ | .faxAnswerToneEnd _ | .faxCallToneExpiry _ | .faxOfferReceived _ _ _ _
  | .faxChooseReceived _ _ _ _ | .faxCheckEnd _ _ _ | .faxTrainLockTimeout _ | .faxTrainOkReceived _
  | .faxTrainRetryReceived _ | .faxPageBegin _ | .faxSenderPageEnd _ | .faxFillExpiry _ | .faxErrorBurst _
  | .faxPageCloseReceived _ _ _ | .faxEndReceived _ _ | .faxEndTransmitted _ _ | .faxResponseWaitExpiry _ _
  | .faxReceiveWaitExpiry _ | .storeStageWrite _ | .storeStageFill _ | .greetingEnd _ | .recordToneEnd _
  | .recordMaxLength _ | .recordingComplete _ | .faxWatchExpiry _ | .playEntryEnd _ | .cidSynchronised _ _
  | .faxPageDataReceived _ _ | .faxPageDataSent _ _ | .voiceBytesCoded _ _ | .voiceBytesDecoded _ _ => true

end Sys2Proof
end

