-- ==== Sys2Proof/Certificates/Slice0/Obligations.lean ====
section
/-! DEFINITION. The statements for the provers, each citing the rules it formalises in OBLIGATIONS.json. -/

open Sys2Proof Sys2Proof.Machine

/-- A command at the front of the queue is done on the state with the queue's rest. The queue is the model's own: it
stands for the events and directives of the chapters in the order they come (notes/assumptions/16.md). -/
def Obligations.StepRunsFrontCommand : Prop :=
  ∀ (c : Instr) (s : State), step { s with pending := c :: s.pending } = exec c s

/-- With no command waiting a step lets one millisecond pass: the model's choice (notes/assumptions/3.md). A full
minute moves a set clock on by one, through midnight into the next day, and an unset clock stands still. -/
def Obligations.TimePasses : Prop :=
  (∀ s : State, s.pending = [] →
    step s = .next { s with now := s.now + 1, clock := if s.clock.isSet
      then { s.clock with elapsed := s.clock.elapsed + 1 } else s.clock }) ∧
  (∀ s : State, s.clock.isSet = true → 60000 ≤ s.clock.elapsed → s.clock.minute < 1439 →
    exec .clockMinuteAdvance s = .next { s with clock := { s.clock with
      minute := s.clock.minute + 1, elapsed := s.clock.elapsed - 60000 } }) ∧
  (∀ s : State, s.clock.isSet = true → 60000 ≤ s.clock.elapsed → s.clock.minute = 1439 →
    exec .clockMinuteAdvance s = .next { s with clock := { s.clock with
      minute := 0, day := (s.clock.day + 1) % 65536, elapsed := s.clock.elapsed - 60000 } }) ∧
  (∀ s : State, s.clock.isSet = false → exec .clockMinuteAdvance s = .next s)

/-- What power-on leaves, by the reset column of each chapter's record. Where the spec gives no value it is the
model's choice: the DRAM with nothing listed (notes/assumptions/2.md), the inputs (notes/assumptions/15.md), and the
tries and try kind of Rate Control, the block round and the call-start copies (notes/assumptions/17.md). -/
def Obligations.ResetLeaves : Prop :=
  (∀ i, (State.reset.line i).state = .offline ∧ (State.reset.line i).relay = false ∧
    (State.reset.line i).job = .none ∧ (State.reset.line i).call = none ∧ (State.reset.line i).profile = {} ∧
    (State.reset.line i).substLoop = true ∧ (State.reset.line i).link = {} ∧ (State.reset.line i).fax = {} ∧
    (State.reset.line i).voice = {} ∧ (State.reset.line i).quality = {} ∧ (State.reset.line i).queue = {}) ∧
  tablesSame {} State.reset ∧ State.reset.clock.isSet = false ∧ State.reset.store.formatted = false ∧
  (∀ k, (State.reset.area k).isDefined = false ∧ (State.reset.area k).join = none) ∧
  State.reset.decoder = {} ∧ State.reset.replies = [] ∧ State.reset.parser = .hunt ∧
  State.reset.partQueue.entries = [.ready false .powerOn] ∧
  (∀ i, (State.reset.line i).faxSource = none ∧
    (State.reset.line i).direction = .none ∧
    (State.reset.line i).dialList = [] ∧
    (State.reset.line i).dialPos = 0 ∧
    (State.reset.line i).substRing = false ∧
    (State.reset.line i).loopCount = 0 ∧
    (State.reset.line i).loopClass = none ∧
    (State.reset.line i).realRing = false ∧
    (State.reset.line i).realLoop = false) ∧
  (∀ i, (List.range 52).map (State.reset.line i).profile.field = [0, 80, 80, 60, 40, 700, 600, 5000, 0, 60, 150,
      1500, 8000, 3000,
    0, 1, 4, 4, 0, 8000, 12, 6, 300, 1400, 0, 4, 6, 0, 5, 7, 1500, 6, 30, 6, 4, 80, 40, 6, 1, 5, 15, 16, 1, 4, 5, 120,
    1000, 5, 1, 0, 500, 262143]) ∧
  (∀ i, (State.reset.line i).signals.ring = false ∧
    (State.reset.line i).signals.loop = false ∧
    (State.reset.line i).signals.carrier = false ∧
    (State.reset.line i).signals.hook = false ∧
    (State.reset.line i).signals.fRing = false ∧
    (State.reset.line i).signals.fLoop = false ∧
    (State.reset.line i).signals.fCarrier = false ∧
    (State.reset.line i).signals.fHook = false ∧
    (State.reset.line i).signals.trailing = false) ∧
  (∀ i, (State.reset.line i).link.phase = .off ∧
    (State.reset.line i).link.role = none ∧
    (State.reset.line i).link.own = none ∧
    (State.reset.line i).link.peer = none ∧
    (State.reset.line i).link.window = none ∧
    (State.reset.line i).link.exchangeTimer = none ∧
    (State.reset.line i).link.n = 0 ∧
    (State.reset.line i).link.sendQueue = [] ∧
    (State.reset.line i).link.resendTimer = .stopped ∧
    (State.reset.line i).link.peerPaused = false ∧
    (State.reset.line i).link.pauseTimer = none ∧
    (State.reset.line i).link.e = 0 ∧
    (State.reset.line i).link.hold = [] ∧
    (State.reset.line i).link.requested = [] ∧
    (State.reset.line i).link.ackDue = false ∧
    (State.reset.line i).link.ackSpacing = none ∧
    (State.reset.line i).link.localPaused = false ∧
    (State.reset.line i).link.history = [] ∧
    (State.reset.line i).link.drainTimer = none ∧
    (State.reset.line i).link.endOkWait = none ∧
    (State.reset.line i).link.carrierSeen = false ∧
    (State.reset.line i).link.carrierLoss = none ∧
    State.reset.oldestByteTime i = none) ∧
  (∀ i, (State.reset.line i).fax.phase = .off ∧
    (State.reset.line i).fax.role = none ∧
    (State.reset.line i).fax.source = none ∧
    (State.reset.line i).fax.terms = none ∧
    (State.reset.line i).fax.step = none ∧
    (State.reset.line i).fax.tries = 0 ∧
    (State.reset.line i).fax.trained = false ∧
    (State.reset.line i).fax.pageNo = 0 ∧
    (State.reset.line i).fax.pages = 0 ∧
    (State.reset.line i).fax.tally = ⟨0, 0, 0, 0, false, false, 0⟩ ∧
    (State.reset.line i).fax.docPos = 0 ∧
    (State.reset.line i).fax.docResends = 0 ∧
    (State.reset.line i).fax.block = ⟨0, 0, [], [], false, 1, 0, []⟩ ∧
    (State.reset.line i).fax.awaited = none ∧
    (State.reset.line i).fax.recvWait = none ∧
    (State.reset.line i).fax.fill = none ∧
    (State.reset.line i).fax.stop = false ∧
    (State.reset.line i).fax.entry = none ∧
    (State.reset.line i).fax.heldMark = none) ∧
  (∀ i, (State.reset.line i).quality.lastQi = 0 ∧
    (State.reset.line i).quality.lastS = 0 ∧
    (State.reset.line i).quality.a = 0 ∧
    (State.reset.line i).quality.q = 0 ∧
    (State.reset.line i).quality.lowRun = 0 ∧
    (State.reset.line i).quality.highRun = 0 ∧
    (State.reset.line i).quality.rc = .off ∧
    (State.reset.line i).quality.step = none ∧
    (State.reset.line i).quality.target = none ∧
    (State.reset.line i).quality.tries = 0 ∧
    (State.reset.line i).quality.tryKind = .full ∧
    (State.reset.line i).quality.oldStep = none ∧
    (State.reset.line i).quality.cause = none ∧
    (State.reset.line i).quality.floor = none ∧
    (State.reset.line i).quality.ceiling = none) ∧
  (∀ i, (State.reset.line i).voice.mode = .off ∧
    (State.reset.line i).voice.activity = .none ∧
    (State.reset.line i).voice.barge = false ∧
    (State.reset.line i).voice.recording = none ∧
    (State.reset.line i).voice.playback = none ∧
    (State.reset.line i).tone.nf = -60 ∧
    (State.reset.line i).tone.sendQueue = [] ∧
    (State.reset.line i).transmit = .silence) ∧
  (State.reset.store.size = none ∧ State.reset.store.m = 0 ∧ State.reset.store.guard = 16 ∧
      State.reset.store.free = [] ∧ State.reset.store.freeCount = 0 ∧
    State.reset.store.dir = [] ∧ State.reset.store.nextId = 1 ∧ State.reset.store.transfer = .none ∧
      State.reset.store.requests = [] ∧
    State.reset.dram = []) ∧
  (State.reset.toneTable = [] ∧ State.reset.patterns = [] ∧ State.reset.routes = [] ∧ State.reset.dataLadder = [] ∧
      State.reset.faxLadder = [] ∧
    State.reset.lastLine = 3 ∧ State.reset.lastSource = .channel5)

/-- POWER_ON brings every block to its reset state but for the line inputs, which are the outside world's. A break
leaves reset values but for the clock and the store, and its end queues READY. PART_RESET is answered OK and takes
effect when that reply has been transmitted: every line, table, area and queue at its reset value, the clock and the
DRAM kept, and a store without open entries, use marks, requests or transfer. That the inputs stand as they are is the
model's reading (notes/assumptions/15.md), the DRAM emptied at POWER_ON its choice (notes/assumptions/2.md), and so
are the values of a reset line that the spec does not give: the tries and try kind of Rate Control, the block round
and the call-start copies (notes/assumptions/17.md). -/
def Obligations.ResetsOfThePart : Prop :=
  (∀ s : State, nextHolds (exec .powerOn s) (fun t =>
    (∀ i, t.line i = { realRing := (s.line i).realRing, realLoop := (s.line i).realLoop }) ∧
    tablesSame {} t ∧ t.clock = ⟨0, 0, false, 0⟩ ∧ t.store = {} ∧ t.dram = [] ∧ t.areas = State.reset.areas ∧
    t.decoder = {} ∧ t.replies = [] ∧ t.outFrame = none ∧ t.parser = .hunt ∧
    t.partQueue.entries = [.ready false .powerOn] ∧ t.pending = s.pending)) ∧
  (∀ s : State, s.inBreak = false → nextHolds (exec .lineBreak s) (fun t =>
    t.inBreak = true ∧ (∀ i, (t.line i).state = .offline ∧ (t.line i).call = none ∧ (t.line i).profile = {}) ∧
    tablesSame {} t ∧ t.areas = State.reset.areas ∧ t.clock = s.clock ∧ t.store.formatted = s.store.formatted ∧
    t.store.requests = [] ∧ t.store.transfer = .none ∧ t.decoder = {} ∧ t.replies = [] ∧ t.outFrame = none ∧
    t.partQueue = {} ∧ t.pending = s.pending)) ∧
  (∀ s : State, s.inBreak = true → exec .lineBreak s = .next s) ∧
  (∀ s : State, s.inBreak = true → s.partQueue.entries = [] → nextHolds (exec .breakEnd s) (fun t =>
    t.inBreak = false ∧ t.partQueue.entries = [.ready s.store.formatted .lineBreak] ∧ t.lines = s.lines ∧
    t.store = s.store)) ∧
  (∀ (s : State) (tag : Byte), s.takes →
    repliesWith (exec (.partReset ⟨0x0E, tag, []⟩) s) s ⟨0x01, tag, .ok, []⟩ (fun t =>
      t.decoder = { resetting := true } ∧ t.lines = s.lines ∧ t.areas = s.areas ∧ t.store = s.store)) ∧
  (∀ (s : State) (f : OutFrame), s.outFrame = some f → f.source = .reply true →
    nextHolds (exec .outboundFrameSent s) (fun t =>
      (∀ i, t.line i = { realRing := (s.line i).realRing, realLoop := (s.line i).realLoop }) ∧ tablesSame {} t ∧
      t.areas = State.reset.areas ∧ t.decoder = {} ∧ t.clock = s.clock ∧ t.now = s.now ∧ t.replies = [] ∧
      t.partQueue.entries = [.ready s.store.formatted .directive] ∧ t.outFrame = none ∧ t.parser = .hunt ∧
      t.store.formatted = s.store.formatted ∧ t.store.size = s.store.size ∧ t.store.guard = s.store.guard ∧
      t.store.requests = [] ∧ t.store.transfer = .none ∧ t.dram = s.dram ∧ t.pending = s.pending ∧
      ∀ e ∈ t.store.dir, e.state ≠ .opened ∧ e.playing = [] ∧ e.faxing = [] ∧ e.uploading = false))

/-- Every frame defined for the incoming direction is read back whole: its bytes on the wire, given to the parser
while it hunts, hand on the channel, the kind and the payload that were written. -/
def Obligations.WireFrameIsReadBack : Prop :=
  ∀ (s : State) (channel kind : Nat) (payload : List Byte), definedIncoming channel kind = true →
    payload.length ≤ 255 → s.parser = .hunt → s.inBreak = false →
    s.feed (wireFrame channel kind payload) = s.handOn channel kind payload

/-- A directive frame taken by an idle Decoder puts its directive in hand, joins the input list of a busy one, and is
a bad frame below three bytes. A data frame of the line's job joins the TX area as far as it fits; what does not fit,
and every byte of a frame that is not taken, is counted in HOST_DATA_DROPPED. A mark is added at the tail of the TX
area of a fax job from the host, and a full mark list drops it as one byte. What reaches the area of a host sender
ends its fill timer. -/
def Obligations.HostFramesArrive : Prop :=
  (∀ (s : State) (code line tag : Byte) (args : List Byte), args.length ≤ 252 → s.parser = .hunt →
    s.inBreak = false → s.decoder = {} →
    exec (.hostDirectiveFrame (code :: line :: tag :: args)) s =
      .next { s with gapTimer := none, decoder := { hand := some ⟨code, ⟨line, tag, args⟩⟩ } }) ∧
  (∀ (s : State) (i : LineId) (k : DataKind) (a : AreaId) (payload : List Byte), s.parser = .hunt →
    s.inBreak = false → payload.length ≤ 255 → s.joined i .tx = some a → (s.line i).takesFrame k = true →
    nextHolds (exec (.hostLineDataFrame i k payload) s) (fun t =>
      t = { s with lines := t.lines, areas := t.areas, gapTimer := none } ∧
      t.line i = { s.line i with
        queue := (t.line i).queue, fax := { (s.line i).fax with fill := (t.line i).fax.fill } } ∧
      t.area a = { s.area a with
        fifo := (s.area a).fifo ++ (payload.take (s.area a).room).map (fun b => (b, s.now))
        flow := if payload.take (s.area a).room ≠ [] ∧ (s.area a).flow = .go ∧
            (s.area a).high ≤ (s.area a).fifo.length + min payload.length (s.area a).room
          then .stop else (s.area a).flow } ∧
      (t.line i).fax.fill = (if payload.take (s.area a).room ≠ [] ∧ (s.line i).fax.source = some .host ∧
        (s.line i).fax.role = some .sender then none else (s.line i).fax.fill) ∧
      ((s.area a).room < payload.length → (s.line i).queue.entries = [] →
        (s.line i).profile.wants .hostDataDropped = true →
        .hostDataDropped (payload.length - (s.area a).room) ∈ (t.line i).queue.entries) ∧
      (payload.length ≤ (s.area a).room → (t.area a).flow = (s.area a).flow →
        (t.line i).queue = (s.line i).queue) ∧
      (∀ b, b ≠ a → t.area b = s.area b) ∧ othersSame i s t)) ∧
  (∀ (s : State) (i : LineId) (a : AreaId) (m : PageMark), s.parser = .hunt → s.inBreak = false →
    s.joined i .tx = some a → (s.line i).takesFrame .page = true → (s.area a).marks.length < 8 →
    nextHolds (exec (.hostPageEndFrame i [if m = .more then 0 else 1]) s) (fun t =>
      t = { s with lines := t.lines, areas := t.areas, gapTimer := none } ∧
      t.line i = { s.line i with fax := { (s.line i).fax with fill := (t.line i).fax.fill } } ∧
      t.area a = { s.area a with marks := (s.area a).marks ++ [((s.area a).fifo.length, m)] } ∧
      (t.line i).fax.fill = (if (s.line i).fax.source = some .host ∧ (s.line i).fax.role = some .sender then none
        else (s.line i).fax.fill) ∧
      (∀ b, b ≠ a → t.area b = s.area b) ∧ othersSame i s t)) ∧
  (∀ (s : State) (code line tag : Byte) (args : List Byte), args.length ≤ 252 → s.parser = .hunt →
    s.inBreak = false → s.decoder.idle = false → s.decoder.input.length < 4 →
    exec (.hostDirectiveFrame (code :: line :: tag :: args)) s = .next { s with
      gapTimer := none, decoder := { s.decoder with input := s.decoder.input ++ [⟨code, ⟨line, tag, args⟩⟩] } }) ∧
  (∀ (s : State) (payload : List Byte), payload.length < 3 → s.parser = .hunt → s.inBreak = false →
    s.partQueue.entries = [] → exec (.hostDirectiveFrame payload) s = .next { s with
      gapTimer := none, partQueue := { s.partQueue with entries := [.linkFrameBad 1] } }) ∧
  (∀ (s : State) (i : LineId) (k : DataKind) (payload : List Byte), s.parser = .hunt → s.inBreak = false →
    payload.length ≤ 255 → payload ≠ [] → (s.joined i .tx = none ∨ (s.line i).takesFrame k = false) →
    (s.line i).queue.entries = [] → (s.line i).profile.wants .hostDataDropped = true →
    exec (.hostLineDataFrame i k payload) s = .next { s.modLine i (fun l => { l with
      queue := { l.queue with entries := [.hostDataDropped payload.length] } }) with gapTimer := none }) ∧
  (∀ (s : State) (i : LineId) (payload : List Byte), s.parser = .hunt → s.inBreak = false → payload.length ≤ 255 →
    payload ≠ [] → ((payload ≠ [0] ∧ payload ≠ [1]) ∨ (s.line i).takesFrame .page = false ∨
      ∀ a, s.joined i .tx = some a → 8 ≤ (s.area a).marks.length) →
    (s.line i).queue.entries = [] → (s.line i).profile.wants .hostDataDropped = true →
    exec (.hostPageEndFrame i payload) s = .next { s.modLine i (fun l => { l with
      queue := { l.queue with entries := [.hostDataDropped 1] } }) with gapTimer := none })

/-- Bytes for a running download are written to its entry from its length on, and nowhere else in the DRAM. Where the
chain has no room for all of them a block is asked for as GUARDED, and goes to the chain's tail; where it is refused
the bytes that fit are kept and the download ends with STORE_LOW. The end of a download closes its entry, or deletes
an empty one. A freeing is taken after the requests that wait (R144; notes/assumptions/24.md): what follows is said of
the state in which they have been answered. -/
def Obligations.DownloadStoresAndEnds : Prop :=
  (∀ (s : State) (id : Nat) (e : Entry) (payload : List Byte), s.parser = .hunt → s.inBreak = false →
    payload.length ≤ 255 → s.store.transfer = .download id → s.entry? id = some e → s.store.formatted = true →
    s.store.whole → dramWf s.dram = true → payload.length ≤ e.room →
    nextHolds (exec (.hostStoreDataFrame payload) s) (fun t =>
      t = { s with store := { s.store with dir := t.store.dir }, dram := t.dram, gapTimer := none } ∧
      t.entry? id = some { e with length := e.length + payload.length } ∧
      (∀ j, j ≠ id → t.entry? j = s.entry? j) ∧ writesEntry s t e e.length payload)) ∧
  (∀ (s : State) (id : Nat) (e : Entry), s.parser = .hunt → s.inBreak = false →
    s.store.transfer = .download id → s.entry? id = some e → 0 < e.length →
    nextHolds (exec (.hostStoreEndFrame []) s) (fun t =>
      t = { s.serveAll with store := t.store, partQueue := t.partQueue, gapTimer := none } ∧
      t.store.transfer = .none ∧ (t.entry? id).map (fun x => (x.state, x.endReason, x.length)) =
        some (.new, some (.transfer .done), e.length) ∧ t.dram = s.dram ∧
      (s.partQueue.entries = [] → t.partQueue.entries = [.transferDone (some id) .done]))) ∧
  (∀ (s : State) (id b : Nat) (fs : List Nat) (e : Entry) (payload : List Byte), s.parser = .hunt →
      s.inBreak = false →
    payload.length ≤ 255 → s.store.transfer = .download id → s.entry? id = some e → s.store.formatted = true →
    s.store.whole → dramWf s.dram = true → e.room < payload.length →
    e.length ≤ e.chain.length * 1024 → s.store.requests = [] → s.store.free = b :: fs → s.store.guard ≤ fs.length →
    nextHolds (exec (.hostStoreDataFrame payload) s) (fun t =>
      t = { s with store := { s.store with dir := t.store.dir, free := fs }, dram := t.dram, gapTimer := none } ∧
      t.entry? id = some { e with length := e.length + payload.length, chain := e.chain ++ [b] } ∧
      (∀ j, j ≠ id → t.entry? j = s.entry? j) ∧
      writesEntry s t { e with chain := e.chain ++ [b] } e.length payload)) ∧
  (∀ (s : State) (id : Nat) (e : Entry) (payload : List Byte), s.parser = .hunt → s.inBreak = false →
    payload.length ≤ 255 → s.store.transfer = .download id → s.entry? id = some e → s.store.formatted = true →
    s.store.whole → dramWf s.dram = true → e.room < payload.length →
    e.length ≤ e.chain.length * 1024 → s.store.requests = [] → s.store.free.length ≤ s.store.guard →
    0 < e.length + e.room → nextHolds (exec (.hostStoreDataFrame payload) s) (fun t =>
      t = { s with
        store := { s.store with dir := t.store.dir, transfer := .none }
        dram := t.dram, gapTimer := none, partQueue := t.partQueue } ∧
      t.entry? id = some { e with
        length := e.length + e.room, state := .new, endReason := some (.transfer .storeLow) } ∧
      (∀ j, j ≠ id → t.entry? j = s.entry? j) ∧ writesEntry s t e e.length (payload.take e.room) ∧
      (s.partQueue.entries = [] → t.partQueue.entries = [.transferDone (some id) .storeLow]))) ∧
  (∀ (s : State) (id : Nat) (e : Entry) (payload : List Byte), s.parser = .hunt → s.inBreak = false →
    payload.length ≤ 255 → s.store.transfer = .download id → s.entry? id = some e → e.room < payload.length →
    (∀ r ∈ s.store.requests, r.entry ≠ id) →
    exec (.hostStoreDataFrame payload) s = exec (.hostStoreDataFrame payload) s.serveAll) ∧
  (∀ (s : State) (id : Nat) (e : Entry), s.parser = .hunt → s.inBreak = false → s.store.transfer = .download id →
    s.entry? id = some e → e.length = 0 → nextHolds (exec (.hostStoreEndFrame []) s) (fun t =>
      t = { s.serveAll with store := t.store, partQueue := t.partQueue, gapTimer := none } ∧
      t.store.transfer = .none ∧ t.entry? id = none ∧ t.dram = s.dram ∧
      (s.partQueue.entries = [] → t.partQueue.entries = [.transferDone none .done]))) ∧
  (∀ (s : State) (payload : List Byte), s.parser = .hunt → s.inBreak = false → payload.length ≤ 255 → payload ≠ [] →
    (∀ id, s.store.transfer ≠ .download id) → s.partQueue.entries = [] →
    exec (.hostStoreDataFrame payload) s = .next { s with
      gapTimer := none, partQueue := { s.partQueue with entries := [.hostDataDropped payload.length] } } ∧
    exec (.hostStoreEndFrame []) s = .next { s with
      gapTimer := none, partQueue := { s.partQueue with entries := [.hostDataDropped 1] } })

/-- A frame that goes wrong is discarded and counted, at a bad header and after 50 ms without a byte; an unknown code
is answered REFUSED_UNKNOWN and changes nothing. -/
def Obligations.BadFramesAndUnknownCodes : Prop :=
  (∀ (s : State) (h : Byte), s.parser = .hunt → s.inBreak = false →
    definedIncoming (h.toNat / 16) (h.toNat % 16) = false → s.partQueue.entries = [] →
    nextHolds (exec (.hostFrameBad [.good 0xC5, .good h]) s) (fun t =>
      t = { s with partQueue := t.partQueue, gapTimer := t.gapTimer } ∧
      t.parser = .hunt ∧ t.partQueue.entries = [.linkFrameBad 1] ∧ t.decoder = s.decoder ∧ t.lines = s.lines)) ∧
  (∀ (s : State) (d : Ms), s.parser ≠ .hunt → s.gapTimer = some d → d ≤ s.now → s.partQueue.entries = [] →
    nextHolds (exec .interByteGapExpiry s) (fun t =>
      t = { s with parser := t.parser, gapTimer := t.gapTimer, partQueue := t.partQueue } ∧
      t.parser = .hunt ∧ t.gapTimer = none ∧ t.partQueue.entries = [.linkFrameBad 1] ∧ t.decoder = s.decoder ∧
      t.lines = s.lines)) ∧
  (∀ (s : State) (code : Byte) (d : Directive), s.takes → knownCodes.contains code = false →
    exec (.unknownDirective code d) s = .next (s.reply ⟨code, d.tag, .refusedUnknown, []⟩))

/-- The arbiter takes a reply before a part notice, a part notice before a line notice, and a line notice before data:
lines and data sources are looked at from the one after the last served, and of one queue the oldest entry of the
highest priority goes, with the lost flag. An RX area gives a page mark at its head or up to 255 bytes before the next
mark, and an upload up to 255 bytes from its place. A frame sent frees the outgoing line; at the end of an upload's
last frame the mark is cleared and TRANSFER_DONE queued. A notice offered joins its queue's waiting entry of the same
coalescing kind, and otherwise a full queue drops its oldest entry of the lowest priority, or the notice, and sets the
lost flag. -/
def Obligations.OutboundArbiter : Prop :=
  (∀ (s : State) (r : Reply) (rest : List Reply), s.outFrame = none → s.replies = r :: rest →
    nextHolds (exec .outboundFrameChoice s) (fun t =>
      t = { s with replies := t.replies, outFrame := t.outFrame } ∧
      t.replies = rest ∧ t.outFrame.map OutFrame.payload = some r.payload ∧
      t.outFrame.map OutFrame.channel = some 0 ∧ t.partQueue = s.partQueue ∧ t.lines = s.lines ∧ t.areas = s.areas)) ∧
  (∀ (s : State) (n : Notice), s.outFrame = none → s.replies = [] → s.partQueue.entries = [n] →
    nextHolds (exec .outboundFrameChoice s) (fun t =>
      t = { s with outFrame := t.outFrame, partQueue := t.partQueue } ∧
      t.partQueue = {} ∧ t.outFrame.map OutFrame.payload = some (n.payload 0x0E s.partQueue.lost) ∧
      t.lines = s.lines ∧ t.areas = s.areas)) ∧
  (∀ (s : State) (f : OutFrame), s.outFrame = some f → exec .outboundFrameChoice s = .next s) ∧
  (∀ (s : State) (f : OutFrame), s.outFrame = some f → f.source ≠ .reply true → f.source ≠ .uploadEnd →
    exec .outboundFrameSent s = .next { s with outFrame := none }) ∧
  (∀ (s : State) (f : OutFrame) (id pos : Nat), s.outFrame = some f → f.source = .uploadEnd →
    s.store.transfer = .upload id pos → s.partQueue.entries = [] →
    nextHolds (exec .outboundFrameSent s) (fun t =>
      t = { s with store := t.store, outFrame := t.outFrame, partQueue := t.partQueue } ∧
      t.store.transfer = .none ∧ t.partQueue.entries = [.transferDone (some id) .done] ∧ t.outFrame = none ∧
      ∀ e, t.entry? id = some e → e.uploading = false)) ∧
  (∀ (s : State) (i : LineId) (n : Notice) (before after : List LineId) (a b : List Notice), s.outFrame = none →
      s.replies = [] →
    s.partQueue.entries = [] →
    [s.lastLine + 1, s.lastLine + 2, s.lastLine + 3, s.lastLine] = before ++ i :: after →
    (∀ j ∈ before, (s.line j).queue.entries = []) → (s.line i).queue.entries = a ++ n :: b →
    (∀ m ∈ a, n.priority < m.priority) → (∀ m ∈ b, n.priority ≤ m.priority) →
    exec .outboundFrameChoice s = .next { s.modLine i (fun l => { l with queue := ⟨a ++ b, false⟩ }) with
      lastLine := i
      outFrame := some ⟨0, 3, n.payload (byte i.val) (s.line i).queue.lost, .lineNotice i⟩ }) ∧
  (∀ (s : State) (i : LineId) (k : AreaId) (before after : List DataSource) (m : PageMark)
    (ms : List (Nat × PageMark)), s.outFrame = none → s.replies = [] →
    s.partQueue.entries = [] → (∀ j, (s.line j).queue.entries = []) →
    sourcesAfter s.lastSource = before ++ .rx i :: after → (∀ e ∈ before, s.offers e = false) →
    s.joined i .rx = some k → (s.area k).marks = (0, m) :: ms → (s.line i).fax.heldMark = none →
    exec .outboundFrameChoice s = .next { s.setArea k { s.area k with marks := ms } with
      lastSource := .rx i, outFrame := some ⟨i.val + 1, 3, [if m = .more then 0 else 1], .rx i⟩ }) ∧
  (∀ (s : State) (i : LineId) (k : AreaId) (before after : List DataSource) (n : Nat), s.outFrame = none →
      s.replies = [] →
    s.partQueue.entries = [] → (∀ j, (s.line j).queue.entries = []) →
    sourcesAfter s.lastSource = before ++ .rx i :: after → (∀ e ∈ before, s.offers e = false) →
    s.joined i .rx = some k → n = min 255 (((s.area k).marks.head?.map Prod.fst).getD (s.area k).fifo.length) →
    0 < n → n ≤ (s.area k).fifo.length → nextHolds (exec .outboundFrameChoice s) (fun t =>
      t = { s with areas := t.areas, lines := t.lines, outFrame := t.outFrame, lastSource := .rx i } ∧
      t.outFrame = some ⟨i.val + 1, match (s.area k).content with | .page => 2 | .voice => 4 | _ => 1,
        ((s.area k).fifo.take n).map Prod.fst, .rx i⟩ ∧
      t.area k = { s.area k with
        fifo := (s.area k).fifo.drop n, marks := (s.area k).marks.map (fun q => (q.1 - n, q.2))
        flow := if (s.area k).flow = .stop ∧ (s.area k).fifo.length - n ≤ (s.area k).low then .go
          else (s.area k).flow } ∧
      (∀ j, j ≠ k → t.area j = s.area j) ∧
      t.line i = { s.line i with queue := (t.line i).queue, link := (t.line i).link } ∧
      ((s.line i).link.localPaused = false ∨ (s.area k).low < (s.area k).fifo.length - n →
        (t.line i).link = (s.line i).link) ∧
      ((s.line i).link.localPaused = true → (s.area k).fifo.length - n ≤ (s.area k).low →
        (t.line i).link.localPaused = false ∧ ((s.line i).link.txNow.isSome = true →
          (t.line i).link.pauseWait = (s.line i).link.pauseWait ++ [.resume])) ∧ othersSame i s t)) ∧
  (∀ (s : State) (id pos : Nat) (e : Entry) (before after : List DataSource), s.outFrame = none → s.replies = [] →
    s.partQueue.entries = [] → (∀ j, (s.line j).queue.entries = []) →
    sourcesAfter s.lastSource = before ++ .channel5 :: after → (∀ x ∈ before, s.offers x = false) →
    s.store.transfer = .upload id pos → s.entry? id = some e →
    exec .outboundFrameChoice s = .next (if pos < e.length then { s with
        lastSource := .channel5, store := { s.store with transfer := .upload id (pos + min 255 (e.length - pos)) }
        outFrame := some ⟨5, 1, s.readEntry e pos (min 255 (e.length - pos)), .upload⟩ }
      else { s with lastSource := .channel5, outFrame := some ⟨5, 2, [], .uploadEnd⟩ })) ∧
  (∀ s : State, s.outFrame = none → s.replies = [] →
    s.partQueue.entries = [] → (∀ j, (s.line j).queue.entries = []) → (∀ x, s.offers x = false) →
    exec .outboundFrameChoice s = .next s) ∧
  (sourcesAfter .channel5 = [.rx 0, .rx 1, .rx 2, .rx 3, .channel5] ∧
    sourcesAfter (.rx 0) = [.rx 1, .rx 2, .rx 3, .channel5, .rx 0] ∧
    sourcesAfter (.rx 1) = [.rx 2, .rx 3, .channel5, .rx 0, .rx 1] ∧
    sourcesAfter (.rx 2) = [.rx 3, .channel5, .rx 0, .rx 1, .rx 2] ∧
    sourcesAfter (.rx 3) = [.channel5, .rx 0, .rx 1, .rx 2, .rx 3]) ∧
  (∀ (q : NoticeQueue) (n m m' : Notice) (a b : List Notice), q.entries = a ++ m :: b →
    (∀ x ∈ a, x.kind ≠ n.kind) → m.merge n = some m' → q.offer n = ⟨a ++ m' :: b, q.lost⟩) ∧
  (∀ m n : Notice, (m.merge n).isSome = true ↔ m.kind = n.kind ∧
    n.kind ∈ [.linkFrameBad, .hostDataDropped, .lineOverrun, .ring, .digits, .flow, .signals]) ∧
  (∀ (a b : Nat) (c d : CadenceClass) (x y : List Digit) (o p : Bool) (u v : Signals),
    (Notice.linkFrameBad a).merge (.linkFrameBad b) = some (.linkFrameBad (min 255 (a + b))) ∧
    (Notice.hostDataDropped a).merge (.hostDataDropped b) = some (.hostDataDropped (min 65535 (a + b))) ∧
    (Notice.lineOverrun a).merge (.lineOverrun b) = some (.lineOverrun (min 65535 (a + b))) ∧
    (Notice.ring a c).merge (.ring b d) = some (.ring b d) ∧
    (Notice.digits x o).merge (.digits y p) =
      some (.digits ((x ++ y).take 16) (o || p || decide (16 < (x ++ y).length))) ∧
    (Notice.signals u).merge (.signals v) = some (.signals ⟨v.ring, v.loop, v.carrier, v.hook, u.fRing || v.fRing,
      u.fLoop || v.fLoop, u.fCarrier || v.fCarrier, u.fHook || v.fHook, u.trailing || v.trailing⟩)) ∧
  (∀ (l : List (AreaId × FlowState)) (k : AreaId) (f : FlowState), (l.map Prod.fst).Nodup →
    (Notice.flow l).merge (.flow [(k, f)]) = some (.flow (if k ∈ l.map Prod.fst
      then l.map (fun p => if p.1 = k then (k, f) else p) else l ++ [(k, f)]))) ∧
  (∀ (q : NoticeQueue) (n : Notice), q.entries.length < 16 → (∀ m ∈ q.entries, m.merge n = none) →
    q.offer n = ⟨q.entries ++ [n], q.lost⟩) ∧
  (∀ (q : NoticeQueue) (n m : Notice) (a b : List Notice), 16 ≤ q.entries.length → q.entries = a ++ m :: b →
    (∀ x ∈ q.entries, x.merge n = none) → (∀ x ∈ a, x.priority < m.priority) →
    (∀ x ∈ b, x.priority ≤ m.priority) →
    q.offer n = if n.priority ≤ m.priority then ⟨a ++ b ++ [n], true⟩ else ⟨q.entries, true⟩)

/-- LINE_ENABLE takes an OFFLINE line to IDLE with its inputs sampled; LINE_DISABLE takes any line to OFFLINE with no
call; the profile is kept by both, and the other lines are left alone by the first. With line value 0x0F the first
enables every OFFLINE line and leaves the others, and the second disables each line, both answered OK; 0x0E is
refused. -/
def Obligations.LineEnableAndDisable : Prop :=
  (∀ (s : State) (i : LineId) (d : Directive), s.takes → lineOf? d.line = some i → d.args = [] →
    (s.line i).state = .offline → repliesWith (exec (.lineEnable d) s) s ⟨0x10, d.tag, .ok, []⟩ (fun t =>
      t = { s with lines := t.lines } ∧
      t.line i = { s.line i with
        state := (t.line i).state, signals := (t.line i).signals, queue := (t.line i).queue
        ring := (t.line i).ring, relay := (t.line i).relay, loopTimer := (t.line i).loopTimer
        tone := (t.line i).tone, carrier := (t.line i).carrier } ∧
      (t.line i).state = .idle ∧ (t.line i).relay = false ∧ (t.line i).signals.loop = (s.line i).realLoop ∧
      (t.line i).signals.carrier = false ∧ (t.line i).signals.hook = false ∧ (t.line i).signals.ring = false ∧
      (t.line i).profile = (s.line i).profile ∧ othersSame i s t)) ∧
  (∀ (s : State) (i : LineId) (d : Directive), s.takes → lineOf? d.line = some i → d.args = [] →
    (s.line i).state ≠ .offline → exec (.lineEnable d) s = .next (s.reply ⟨0x10, d.tag, .refusedState, []⟩)) ∧
  (∀ (s : State) (i : LineId) (d : Directive), s.takes → lineOf? d.line = some i → d.args = [] →
    repliesWith (exec (.lineDisable d) s) s ⟨0x11, d.tag, .ok, []⟩ (fun t =>
      t = { s with lines := t.lines, areas := t.areas, store := t.store, dram := t.dram } ∧
      (t.line i).state = .offline ∧ (t.line i).profile = (s.line i).profile ∧ tablesSame s t ∧
      ((s.line i).call = none → othersSame i s t ∧ t.areas = s.areas ∧ t.store = s.store) ∧
      ((s.line i).state ≠ .offline → (t.line i).call = none ∧ (t.line i).relay = false ∧
        (t.line i).signals.ring = false ∧ (t.line i).signals.loop = false ∧
        (t.line i).signals.carrier = false ∧ (t.line i).signals.hook = false) ∧
      ((s.line i).stage.isWriting = false → t.dram = s.dram))) ∧
  (∀ (s : State) (d : Directive), s.takes → d.line = 0x0F → d.args = [] →
    repliesWith (exec (.lineEnable d) s) s ⟨0x10, d.tag, .ok, []⟩ (fun t =>
      t = { s with lines := t.lines } ∧ ∀ i,
      ((s.line i).state ≠ .offline → t.line i = s.line i) ∧
      ((s.line i).state = .offline →
        t.line i = { s.line i with
          state := (t.line i).state, signals := (t.line i).signals, queue := (t.line i).queue
          ring := (t.line i).ring, relay := (t.line i).relay, loopTimer := (t.line i).loopTimer
          tone := (t.line i).tone, carrier := (t.line i).carrier } ∧
        (t.line i).state = .idle ∧ (t.line i).relay = false ∧ (t.line i).signals.loop = (s.line i).realLoop ∧
        (t.line i).signals.carrier = false ∧ (t.line i).signals.hook = false ∧
        (t.line i).signals.ring = false))) ∧
  (∀ (s : State) (d : Directive), s.takes → d.line = 0x0F → d.args = [] →
    repliesWith (exec (.lineDisable d) s) s ⟨0x11, d.tag, .ok, []⟩ (fun t =>
      t = { s with lines := t.lines, areas := t.areas, store := t.store, dram := t.dram } ∧ tablesSame s t ∧ ∀ i,
      (t.line i).state = .offline ∧ (t.line i).profile = (s.line i).profile ∧
      ((s.line i).state ≠ .offline → (t.line i).call = none ∧ (t.line i).relay = false ∧
        (t.line i).signals.ring = false ∧ (t.line i).signals.loop = false ∧
        (t.line i).signals.carrier = false ∧ (t.line i).signals.hook = false))) ∧
  (∀ (s : State) (d : Directive), s.takes → d.line = 0x0E →
    exec (.lineEnable d) s = .next (s.reply ⟨0x10, d.tag, .refusedUnknown, []⟩) ∧
    exec (.lineDisable d) s = .next (s.reply ⟨0x11, d.tag, .refusedUnknown, []⟩) ∧
    exec (.lineReset d) s = .next (s.reply ⟨0x12, d.tag, .refusedUnknown, []⟩))

/-- SET_PROFILE applies its pairs in order: a number is brought into its range and its identifier is reported once
with CLAMPED, a later pair replaces an earlier one, and a value that is none of a field's named ones, or a profile
whose steps do not fit together, refuses the whole directive. A legal table replaces the table in place whole, and an
illegal one leaves it; with LOAD_TONES every matcher starts fresh on the new table. That an undefined bit of
default_mask or notice_mask is a value not named, and voice_bits coded as the number itself, is the model's choice
(notes/assumptions/5.md). -/
def Obligations.ProfileAndTablesReplaced : Prop :=
  (∀ (s : State) (i : LineId) (d : Directive) (pairs : List (Nat × Nat)) (p : Profile) (c : List Nat), s.takes →
    lineOf? d.line = some i → argProfile.read d.args = .good pairs →
    (s.line i).profile.apply [] pairs = some (p, c) → p.dataFloor ≤ p.dataStart → p.dataStart ≤ p.dataCeiling →
    p.faxFloor ≤ p.faxCeiling → exec (.setProfile d) s =
      .next ((s.modLine i (fun l => { l with profile := p })).reply ⟨0x13, d.tag, if c = [] then .ok else .clamped,
      if c = [] then [] else byte c.length :: c.map (fun k => byte k)⟩)) ∧
  (∀ (s : State) (i : LineId) (d : Directive) (pairs : List (Nat × Nat)), s.takes →
    lineOf? d.line = some i → argProfile.read d.args = .good pairs →
    (∀ q ∈ (s.line i).profile.apply [] pairs, q.1.dataStart < q.1.dataFloor ∨ q.1.dataCeiling < q.1.dataStart ∨
      q.1.faxCeiling < q.1.faxFloor) →
    exec (.setProfile d) s = .next (s.reply ⟨0x13, d.tag, .refusedArg, []⟩)) ∧
  (∀ (s : State) (d : Directive) (ps : List (List (Ms × Ms))), s.takes → d.line = 0x0E →
    argPatterns.read d.args = .good ps → (∀ i, (s.line i).state ≠ .alerting) → ps.length ≤ 4 →
    ps.all patternLegal = true →
    exec (.loadRingPatterns d) s = .next (({ s with patterns := ps } : State).reply ⟨0x14, d.tag, .ok, []⟩)) ∧
  (∀ (s : State) (d : Directive) (as : List ToneArgs) (es : List ToneEntry), s.takes → d.line = 0x0E →
    argTone.list.read d.args = .good as → toneTable? as = some es →
    repliesWith (exec (.loadTones d) s) s ⟨0x20, d.tag, .ok, []⟩ (fun t =>
      t = { s with toneTable := es, lines := t.lines } ∧
      ∀ i, t.line i = { s.line i with tone := { (s.line i).tone with
        matchers := if (s.line i).row.matching then es.map (fun e => ⟨e.id, false, .waiting, 0, 0, 0⟩) else [] } })) ∧
  (∀ (s : State) (d : Directive) (fax : Bool) (steps : List LadderStep), s.takes → d.line = 0x0E →
    argLadder.read d.args = .good (fax, steps) → (∀ i, (s.line i).job ≠ if fax then .fax else .data) →
    steps.length ≤ (if fax then 6 else 8) → ladderLegal steps = true →
    repliesWith (exec (.loadLadder d) s) s ⟨0x40, d.tag, .ok, []⟩ (fun t =>
      t = { s with faxLadder := t.faxLadder, dataLadder := t.dataLadder } ∧
      t.faxLadder = (if fax then steps else s.faxLadder) ∧ t.dataLadder = (if fax then s.dataLadder else steps) ∧
      t.lines = s.lines ∧ t.toneTable = s.toneTable ∧ t.patterns = s.patterns ∧ t.routes = s.routes)) ∧
  (List.range 53).map fieldRange = [none, some (40, 200), some (40, 200), some (30, 80), some (20, 60), some (300,
      1500), some (50, 1000), some
      (1000, 10000), none, some (10, 120), some (50, 300), some (500, 3000), some (3000, 12000), some (0, 5000),
      none, none, some (1, 15), none, some (0, 15), some (2000, 30000), some (6, 30), some (3, 20), some (100,
      1000), some (100, 2500), some (0, 7), some (0, 7), some (0, 7), some (0, 5), some (0, 5), some (1, 15),
      some (500, 5000), some (1, 15), some (5, 60), some (0, 8), some (1, 16), some (8, 255), some (8, 255),
      some (2, 16), none, some (0, 20), some (0, 40), some (1, 64), none, none, some (2, 15), some (10, 600),
      some (0, 3000), some (0, 10), none, none, some (0, 1000), none, none] ∧
  (∀ p : Profile, p.apply [] [] = some (p, [])) ∧
  (∀ (p q : Profile) (pairs : List (Nat × Nat)) (c : List Nat) (id v lo hi : Nat), p.apply [] pairs = some (q, c) →
    fieldRange id = some (lo, hi) → ∃ r, p.apply [] (pairs ++ [(id, v)]) =
      some (r, if max lo (min hi v) = v ∨ id ∈ c then c else c ++ [id]) ∧
      r.field id = max lo (min hi v) ∧ ∀ j, j ≠ id → r.field j = q.field j) ∧
  (∀ (p q : Profile) (pairs : List (Nat × Nat)) (c : List Nat) (id v : Nat), p.apply [] pairs = some (q, c) →
    ((id ∈ [0, 8, 14, 15, 38, 42, 48, 49] ∧ v ≤ 1) ∨ (id = 17 ∧ 1 ≤ v ∧ v ≤ 7) ∨
      (id = 43 ∧ 2 ≤ v ∧ v ≤ 4) ∨ (id = 51 ∧ v < 262144)) →
    ∃ r, p.apply [] (pairs ++ [(id, v)]) = some (r, c) ∧ r.field id = v ∧ ∀ j, j ≠ id → r.field j = q.field j) ∧
  (∀ (p : Profile) (pairs : List (Nat × Nat)) (id v : Nat), fieldRange id = none →
    ¬ ((id ∈ [0, 8, 14, 15, 38, 42, 48, 49] ∧ v ≤ 1) ∨ (id = 17 ∧ 1 ≤ v ∧ v ≤ 7) ∨
      (id = 43 ∧ 2 ≤ v ∧ v ≤ 4) ∨ (id = 51 ∧ v < 262144)) →
    p.apply [] (pairs ++ [(id, v)]) = none) ∧
  (∀ (p : Profile) (pairs : List (Nat × Nat)) (x : Nat × Nat), p.apply [] pairs = none →
    p.apply [] (pairs ++ [x]) = none) ∧
  (∀ (s : State) (d : Directive) (pairs : List (Nat × Nat)) (q : Profile) (c : List Nat), s.takes → d.line = 0x0F →
    argProfile.read d.args = .good pairs → (s.line 0).profile.apply [] pairs = some (q, c) →
    (∀ i, ∃ p k, (s.line i).profile.apply [] pairs = some (p, k) ∧ p.consistent = true) →
    repliesWith (exec (.setProfile d) s) s ⟨0x13, d.tag, if c = [] then .ok else .clamped,
      if c = [] then [] else byte c.length :: c.map (fun k => byte k)⟩ (fun t => t = { s with lines := t.lines } ∧
      ∀ i p k, (s.line i).profile.apply [] pairs = some (p, k) → t.line i = { s.line i with profile := p })) ∧
  (∀ (s : State) (d : Directive) (pairs : List (Nat × Nat)) (i : LineId), s.takes → d.line = 0x0F →
    argProfile.read d.args = .good pairs →
    (∀ q ∈ (s.line i).profile.apply [] pairs, q.1.consistent = false) →
    exec (.setProfile d) s = .next (s.reply ⟨0x13, d.tag, .refusedArg, []⟩)) ∧
  (∀ (s : State) (d : Directive) (as : List ToneArgs), s.takes → d.line = 0x0E →
    argTone.list.read d.args = .good as → toneTable? as = none →
    exec (.loadTones d) s = .next (s.reply ⟨0x20, d.tag, .refusedTable, []⟩)) ∧
  (∀ (as : List ToneArgs) (es : List ToneEntry), toneTable? as = some es ↔
    as.length ≤ 16 ∧ (as.map ToneArgs.id).Nodup ∧ as.map ToneArgs.entry = es.map some) ∧
  (∀ (a : ToneArgs) (e : ToneEntry), a.entry = some e ↔
    toneClass? a.cls = some e.cls ∧ e = ⟨a.id, e.cls, a.f1, a.f2, a.level, a.cadence, a.confirm⟩ ∧
    a.id ≤ 15 ∧ 300 ≤ a.f1 ∧ a.f1 ≤ 3400 ∧ (∀ f ∈ a.f2, 300 ≤ f ∧ f ≤ 3400) ∧ -45 ≤ a.level ∧ a.level ≤ -10 ∧
    1 ≤ a.cadence.length ∧ a.cadence.length ≤ 4 ∧
    (∀ g ∈ a.cadence, g.onMin ≤ g.onMax ∧ g.onMax ≤ 10000 ∧ g.offMin ≤ g.offMax ∧ g.offMax ≤ 10000) ∧
    ((∃ g ∈ a.cadence, g.offMax = 0) → a.cadence.length = 1 ∧ a.confirm = 1) ∧ 1 ≤ a.confirm ∧ a.confirm ≤ 4) ∧
  (∀ (s : State) (d : Directive) (ps : List (List (Ms × Ms))), s.takes → d.line = 0x0E →
    argPatterns.read d.args = .good ps → exec (.loadRingPatterns d) s = .next (
      if ∃ i, (s.line i).state = .alerting then s.reply ⟨0x14, d.tag, .refusedBusy, []⟩
      else if 4 < ps.length ∨ ps.all patternLegal = false then s.reply ⟨0x14, d.tag, .refusedTable, []⟩
      else ({ s with patterns := ps } : State).reply ⟨0x14, d.tag, .ok, []⟩)) ∧
  (∀ p : List (Ms × Ms), patternLegal p = true ↔
    1 ≤ p.length ∧ p.length ≤ 3 ∧ ∀ b ∈ p, b.1 ≤ b.2 ∧ b.2 ≤ 10000) ∧
  (∀ (s : State) (d : Directive) (fax : Bool) (steps : List LadderStep), s.takes → d.line = 0x0E →
    argLadder.read d.args = .good (fax, steps) →
    ((∃ i, (s.line i).job = if fax then .fax else .data) ∨ (if fax then 6 else 8) < steps.length ∨
      ladderLegal steps = false) →
    exec (.loadLadder d) s = .next (s.reply ⟨0x40, d.tag,
      if ∃ i, (s.line i).job = if fax then .fax else .data then .refusedBusy else .refusedTable, []⟩)) ∧
  (∀ st : List LadderStep, ladderLegal st = true ↔
    (∀ a ∈ st, 300 ≤ a.rate ∧ a.rate ≤ 33600 ∧ a.d < a.u ∧ a.u ≤ 160) ∧
    ∀ n a b, st[n]? = some a → st[n + 1]? = some b → a.rate < b.rate ∧ a.d ≤ b.d ∧ a.u ≤ b.u)

/-- A legal DIAL on an IDLE line starts an outgoing call: the line seizes, with its relay closed. HANG_UP releases at
once a call that is being dialled, watched or classified, is in VOICE, or has not yet a link or terms; a linked data
call goes to its END, after its drain where one is asked for, and a fax with terms to CLOSE. A line with no call to
hang up refuses it. That the phase is CLOSING and the END_OK wait runs as soon as END is made ready is the model's
choice (notes/assumptions/21.md). -/
def Obligations.DialAndHangUp : Prop :=
  (∀ (s : State) (i : LineId) (d : Directive) (a : DialArgs) (es : List DialElement), s.takes →
    lineOf? d.line = some i → argDial.read d.args = .good a → (s.line i).state = .idle →
    (s.line i).dialList? a = some es → a.document = none → s.hasTone .dial = true → s.dialReady i a = true →
    repliesWith (exec (.dial d) s) s ⟨0x15, d.tag, .started, []⟩ (fun t =>
      t = { s with lines := t.lines, areas := t.areas } ∧
      (t.line i).state = .seizing ∧ (t.line i).relay = true ∧ (t.line i).job = a.job ∧
      (t.line i).direction = .outgoing ∧ (t.line i).dialList = es ∧ (t.line i).dialPos = 0 ∧
      (t.line i).call = some (s.outgoingCall a.job) ∧ (t.line i).signals.hook = true ∧
      (t.line i).dialWait = some (s.now + (s.line i).profile.dialToneWaitMs) ∧ othersSame i s t ∧
        t.store = s.store)) ∧
  (∀ (s : State) (i : LineId) (d : Directive) (n : Nat), s.takes → lineOf? d.line = some i →
    (argNum 1).read d.args = .good n → n ≤ 1 →
    ((s.line i).state = .seizing ∨ (s.line i).state = .dialling ∨ (s.line i).state = .progress ∨
      (s.line i).state = .classify ∨ (s.line i).state = .voice) →
    repliesWith (exec (.hangUp d) s) s ⟨0x16, d.tag, .ok, []⟩ (fun t =>
      t = { s with lines := t.lines, areas := t.areas, store := t.store, dram := t.dram } ∧
      (t.line i).state = .release ∧ (t.line i).relay = false ∧ (t.line i).call = none ∧ (t.line i).job = .none ∧
      (t.line i).guard = some (s.now + 1500) ∧ (t.line i).profile = (s.line i).profile ∧
      ((s.line i).stage.isWriting = false → t.dram = s.dram))) ∧
  (∀ (s : State) (i : LineId) (d : Directive) (n : Nat), s.takes → lineOf? d.line = some i →
    (argNum 1).read d.args = .good n →
    ((s.line i).state = .offline ∨ (s.line i).state = .idle ∨ (s.line i).state = .alerting ∨
      (s.line i).state = .release) →
    exec (.hangUp d) s = .next (s.reply ⟨0x16, d.tag, .refusedState, []⟩)) ∧
  (∀ (s : State) (i : LineId) (d : Directive) (n : Nat), s.takes → lineOf? d.line = some i →
    (argNum 1).read d.args = .good n → n ≤ 1 → (s.line i).row = .data →
    (s.line i).link.farEnd = none →
    ((s.line i).quality.rc = .steady ∧ (s.line i).link.rateWait = [] ∨ (s.line i).quality.rc = .renegotiating) →
    (s.line i).link.txNow = none → (s.line i).link.endWait = [] → (s.line i).link.endOnSteady = false →
    ((s.line i).link.phase = .draining ∨ (s.line i).link.phase = .linked ∧
      (n = 0 ∨ (s.line i).link.sendQueue = [] ∧ s.txEmpty i = true)) →
    repliesWith (exec (.hangUp d) s) s ⟨0x16, d.tag, .started, []⟩ (fun t =>
      t = { s with lines := t.lines } ∧
      t.line i = { s.line i with
        quality := { (s.line i).quality with
          rc := .steady, cause := (t.line i).quality.cause, target := (t.line i).quality.target
          oldStep := (t.line i).quality.oldStep, rateOkWait := (t.line i).quality.rateOkWait }
        link := { (s.line i).link with
          phase := .closing, drainTimer := none, endOkWait := some (s.now + 2000), sendQueue := [], resendWait := []
          newWait := [], rateWait := [], resendTimer := .stopped, txNow := some .fin } } ∧ othersSame i s t)) ∧
  (∀ (s : State) (i : LineId) (d : Directive) (n : Nat) (f : LinkFrame), s.takes → lineOf? d.line = some i →
    (argNum 1).read d.args = .good n → n ≤ 1 → (s.line i).row = .data →
    (s.line i).link.farEnd = none → (s.line i).link.phase = .linked → (s.line i).quality.rc = .steady →
    n = 1 → ((s.line i).link.sendQueue ≠ [] ∨ s.txEmpty i = false) → (s.line i).link.txNow = some f →
    exec (.hangUp d) s = .next ((s.modLine i (fun l => { l with link := { l.link with
      phase := .draining, drainTimer := some (s.now + 10000) } })).reply ⟨0x16, d.tag, .started, []⟩)) ∧
  (∀ (s : State) (i : LineId) (d : Directive) (n : Nat), s.takes → lineOf? d.line = some i →
    (argNum 1).read d.args = .good n → n ≤ 1 →
    ((s.line i).row = .data ∧ ((s.line i).link.farEnd.isSome = true ∨ (s.line i).link.phase = .closing) ∨
      (s.line i).row = .fax ∧ (s.line i).fax.phase = .close ∧ (s.line i).fax.role = some .sender) →
    exec (.hangUp d) s = .next (s.reply ⟨0x16, d.tag, .started, []⟩)) ∧
  (∀ (s : State) (i : LineId) (d : Directive) (n : Nat), s.takes → lineOf? d.line = some i →
    (argNum 1).read d.args = .good n → n ≤ 1 →
    ((s.line i).row = .data ∧ (s.line i).link.farEnd = none ∧ (s.line i).link.phase ≠ .closing ∧
        ((s.line i).link.phase ∉ [.linked, .draining] ∨ (s.line i).quality.rc = .retraining) ∨
      (s.line i).row = .fax ∧ (s.line i).fax.role.isSome = true ∧ (s.line i).fax.phase ≠ .close ∧
        (s.line i).fax.terms = none) →
    exec (.hangUp d) s = .next ((s.release i .locally).reply ⟨0x16, d.tag, .started, []⟩)) ∧
  (∀ (s : State) (i : LineId) (d : Directive) (n : Nat), s.takes → lineOf? d.line = some i →
    (argNum 1).read d.args = .good n → n ≤ 1 → (s.line i).row = .fax → (s.line i).fax.role.isSome = true →
    (s.line i).fax.phase ≠ .close → (s.line i).fax.terms.isSome = true →
    exec (.hangUp d) s = .next ((s.modLine i (fun l => { l with
      tone.gen := none, stage := if l.fax.role = some .sender then .idle else l.stage
      fax := { l.fax with
        phase := .close, closing := some .locally, sent := some .fin, awaited := none, recvWait := none, fill := none
        toneEnd := none, lockWait := none, checking := false } })).reply ⟨0x16, d.tag, .started, []⟩)) ∧
  (∀ (s : State) (i : LineId) (d : Directive) (n : Nat), s.takes → lineOf? d.line = some i →
      (argNum 1).read d.args = .good n →
    2 ≤ n → (s.line i).state ∈ [.seizing, .dialling, .progress, .classify, .data, .fax, .voice] →
    exec (.hangUp d) s = .next (s.reply ⟨0x16, d.tag, .refusedArg, []⟩))

/-- A line reset takes a line to IDLE with its engines and its areas empty and its change flags clear, and drops its
call with RESET: CALL_ENDED is the first entry of a queue that has been emptied. A burst in progress becomes the first
burst of a new incoming call, and an OFFLINE line stays OFFLINE. With line value 0x0F each of the four lines is reset.
That the tries, the try kind and the block round return to their reset values too is the model's choice
(notes/assumptions/17.md). -/
def Obligations.LineResetLeaves : Prop :=
  (∀ (s : State) (i : LineId) (d : Directive), s.takes → lineOf? d.line = some i → d.args = [] →
    (s.line i).state ≠ .offline → (s.line i).ring.burst = none → (s.line i).signals.ring = false →
    repliesWith (exec (.lineReset d) s) s ⟨0x12, d.tag, .ok, []⟩ (fun t =>
      t = { s with lines := t.lines, areas := t.areas, store := t.store, dram := t.dram } ∧
      (t.line i).state = .idle ∧ (t.line i).relay = false ∧ (t.line i).call = none ∧
      (t.line i).direction = .none ∧ (t.line i).guard = none ∧
      (t.line i).profile = (s.line i).profile ∧
      (t.line i).job = .none ∧ (t.line i).dialList = [] ∧ (t.line i).dialPos = 0 ∧
      (t.line i).faxSource = none ∧ (t.line i).substRing = false ∧ (t.line i).substLoop = true ∧
      (t.line i).loopCount = 0 ∧ (t.line i).loopClass = none ∧ (t.line i).quality = {} ∧ (t.line i).link = {} ∧
      (t.line i).fax = {} ∧ (t.line i).voice = {} ∧ (t.line i).queue.lost = false ∧ tablesSame s t ∧
      t.dram = s.dram ∧ (t.line i).signals.fRing = false ∧ (t.line i).signals.trailing = false ∧
      ((s.line i).state ≠ .loopback → (s.line i).signals.loop = (s.line i).realLoop →
        (t.line i).signals.fLoop = false) ∧
      ((s.line i).signals.hook = false → (t.line i).signals.fHook = false) ∧
      (∀ c, (s.line i).call = some c → (s.line i).profile.wants .callEnded = true →
        ∃ c' rest, (t.line i).queue.entries = .callEnded c' :: rest ∧ c'.endReason = some .reset ∧
          c'.start = c.start) ∧
      ((s.line i).call = none → ∀ n ∈ (t.line i).queue.entries, n.kind = .signals) ∧
      ∀ k p, (s.area k).join = some (i, p) → (t.area k).fifo = [] ∧ (t.area k).marks = [])) ∧
  (∀ (s : State) (i : LineId) (d : Directive), s.takes → lineOf? d.line = some i → d.args = [] →
    ((s.line i).state = .idle ∨ (s.line i).state = .alerting ∨ (s.line i).state = .release) →
    (s.line i).ring.burst.isSome = true → (s.line i).signals.ring = true →
    repliesWith (exec (.lineReset d) s) s ⟨0x12, d.tag, .ok, []⟩ (fun t =>
      t = { s with lines := t.lines, areas := t.areas, store := t.store, dram := t.dram } ∧
      (t.line i).state = .alerting ∧ (t.line i).relay = false ∧ (t.line i).call = some s.incomingCall ∧
      (t.line i).direction = .incoming ∧ (t.line i).ring.burst = (s.line i).ring.burst ∧
      (t.line i).ring.closed = 0 ∧ (t.line i).guard = none ∧
      (t.line i).profile = (s.line i).profile ∧
      (t.line i).job = .none ∧ (t.line i).dialList = [] ∧ (t.line i).dialPos = 0 ∧
      (t.line i).faxSource = none ∧ (t.line i).substRing = false ∧ (t.line i).substLoop = true ∧
      (t.line i).loopCount = 0 ∧ (t.line i).loopClass = none ∧ (t.line i).quality = {} ∧ (t.line i).link = {} ∧
      (t.line i).fax = {} ∧ (t.line i).voice = {} ∧ (t.line i).queue.lost = false ∧ tablesSame s t ∧
      t.dram = s.dram ∧ (t.line i).signals.fRing = false ∧ (t.line i).signals.trailing = false ∧
      ((s.line i).state ≠ .loopback → (s.line i).signals.loop = (s.line i).realLoop →
        (t.line i).signals.fLoop = false) ∧
      ((s.line i).signals.hook = false → (t.line i).signals.fHook = false) ∧
      (∀ c, (s.line i).call = some c → (s.line i).profile.wants .callEnded = true →
        ∃ c' rest, (t.line i).queue.entries = .callEnded c' :: rest ∧ c'.endReason = some .reset ∧
          c'.start = c.start) ∧
      ((s.line i).call = none → ∀ n ∈ (t.line i).queue.entries, n.kind = .signals ∨ n.kind = .ring) ∧
      ∀ k p, (s.area k).join = some (i, p) → (t.area k).fifo = [] ∧ (t.area k).marks = [])) ∧
  (∀ (s : State) (i : LineId) (d : Directive), s.takes → lineOf? d.line = some i → d.args = [] →
    (s.line i).state = .offline → (s.line i).call = none →
    repliesWith (exec (.lineReset d) s) s ⟨0x12, d.tag, .ok, []⟩ (fun t =>
      t = { s with lines := t.lines, areas := t.areas, store := t.store, dram := t.dram } ∧
      (t.line i).state = .offline ∧ (t.line i).relay = (s.line i).relay ∧ (t.line i).call = none ∧
      (t.line i).profile = (s.line i).profile ∧ (t.line i).queue = {} ∧
      (t.line i).signals = { (s.line i).signals with
        fRing := false, fLoop := false, fCarrier := false, fHook := false, trailing := false } ∧
      tablesSame s t ∧ t.dram = s.dram ∧
      ∀ k p, (s.area k).join = some (i, p) → (t.area k).fifo = [] ∧ (t.area k).marks = [])) ∧
  (∀ (s : State) (d : Directive), s.takes → d.line = 0x0F → d.args = [] →
    repliesWith (exec (.lineReset d) s) s ⟨0x12, d.tag, .ok, []⟩ (fun t =>
      t = { s with lines := t.lines, areas := t.areas, store := t.store, dram := t.dram } ∧ tablesSame s t ∧
      t.dram = s.dram ∧ (∀ k, (s.area k).join ≠ none → (t.area k).fifo = [] ∧ (t.area k).marks = []) ∧ ∀ i,
      (t.line i).profile = (s.line i).profile ∧ (t.line i).queue.lost = false ∧
      ((s.line i).state = .offline → (t.line i).state = .offline) ∧
      ((s.line i).state ≠ .offline → (s.line i).ring.burst = none → (s.line i).signals.ring = false →
        (t.line i).state = .idle ∧ (t.line i).relay = false ∧ (t.line i).call = none ∧
        (t.line i).direction = .none ∧ (t.line i).job = .none ∧ (t.line i).faxSource = none ∧
        (t.line i).dialList = [] ∧ (t.line i).link = {} ∧ (t.line i).fax = {} ∧ (t.line i).voice = {} ∧
        (t.line i).quality = {} ∧ (t.line i).substRing = false ∧ (t.line i).substLoop = true ∧
        ∀ c, (s.line i).call = some c → (s.line i).profile.wants .callEnded = true →
          ∃ c' rest, (t.line i).queue.entries = .callEnded c' :: rest ∧ c'.endReason = some .reset ∧
            c'.start = c.start)))

/-- LOOPBACK is entered from IDLE and left to IDLE; LOOP_SIGNALS sets the substitute signals. DIAL in LOOPBACK takes
an empty list and starts its job on the loopback path at once, and a second job is refused. In LOOPBACK the line port
is sent silence and the line receives what it sends itself; elsewhere the port is sent what the line sends and the
line receives the port; an OFFLINE line has neither. That the tones of a fax job's two halves are sent at the same
time there is the model's choice (notes/assumptions/10.md). -/
def Obligations.LoopbackEntersAndLeaves : Prop :=
  (∀ (s : State) (i : LineId) (d : Directive), s.takes → lineOf? d.line = some i →
    (argNum 1).read d.args = .good 0 → (s.line i).state = .idle →
    repliesWith (exec (.loopbackEnter d) s) s ⟨0x17, d.tag, .ok, []⟩ (fun t =>
      t = { s with lines := t.lines } ∧
      (t.line i).state = .loopback ∧ (t.line i).relay = false ∧ (t.line i).substRing = false ∧
      (t.line i).substLoop = true ∧ (t.line i).loopCount = 0 ∧ (t.line i).loopClass = none ∧
      (t.line i).signals.ring = false ∧ (t.line i).signals.loop = true ∧ othersSame i s t)) ∧
  (∀ (s : State) (i : LineId) (d : Directive), s.takes → lineOf? d.line = some i →
    (argNum 1).read d.args = .good 1 → (s.line i).state = .loopback → (s.line i).call = none →
    repliesWith (exec (.loopbackLeave d) s) s ⟨0x17, d.tag, .ok, []⟩ (fun t =>
      t = { s with lines := t.lines } ∧
      (t.line i).state = .idle ∧ (t.line i).substRing = false ∧ (t.line i).substLoop = true ∧
      (t.line i).signals.loop = (s.line i).realLoop ∧ othersSame i s t)) ∧
  (∀ (s : State) (i : LineId) (d : Directive) (r l : Nat), s.takes → lineOf? d.line = some i →
    argPair.read d.args = .good (r, l) → r ≤ 1 → l ≤ 1 → (s.line i).state = .loopback →
    repliesWith (exec (.loopSignals d) s) s ⟨0x18, d.tag, .ok, []⟩ (fun t =>
      t = { s with lines := t.lines } ∧
      t.line i = { s.line i with
        substRing := (t.line i).substRing, substLoop := (t.line i).substLoop, ring := (t.line i).ring
        loopTimer := (t.line i).loopTimer, signals := (t.line i).signals, queue := (t.line i).queue } ∧
      (t.line i).substRing = (r == 1) ∧ (t.line i).substLoop = (l == 1) ∧ (t.line i).state = .loopback ∧
      ((s.line i).signals.loop = (s.line i).substLoop → (t.line i).signals.loop = (l == 1)) ∧ othersSame i s t)) ∧
  (∀ (s : State) (i : LineId) (d : Directive) (a : DialArgs), s.takes → lineOf? d.line = some i →
    argDial.read d.args = .good a → (s.line i).state = .loopback → (s.line i).job = .none → a.list = [] →
      a.document = none →
    s.dialReady i a = true → s.dataLadder ≠ [] → s.faxLadder ≠ [] →
    repliesWith (exec (.dial d) s) s ⟨0x15, d.tag, .started, []⟩ (fun t =>
      t = { s with lines := t.lines, areas := t.areas } ∧
      (t.line i).state = .loopback ∧ (t.line i).job = a.job ∧ (t.line i).direction = .outgoing ∧
      (t.line i).call = some (s.outgoingCall a.job) ∧ (t.line i).dialList = [] ∧ (t.line i).relay = (s.line i).relay ∧
      (a.job = .data → (t.line i).link.phase = .exchange ∧ (t.line i).link.role = some .originate ∧
        (t.line i).link.exchangeTimer = some (s.now + 6000) ∧ (t.line i).link.capsSent = 1) ∧
      (a.job = .fax → (t.line i).fax.phase = .establish ∧ (t.line i).fax.role = some .sender ∧
        (t.line i).fax.toneEnd = some (s.now + 15000) ∧ (t.line i).faxEcho.role = some .receiver ∧
        (t.line i).faxEcho.toneEnd = some (s.now + 3000) ∧
        (t.line i).tone.gen = toneRequest s.toneTable s.now .faxCall 15000 ∧
        (t.line i).tone.echoGen = toneRequest s.toneTable s.now .faxAnswer 3000) ∧
      (a.job = .voice → (t.line i).voice = { mode := .host }) ∧
      (t.line i).profile = (s.line i).profile ∧ othersSame i s t)) ∧
  (∀ (s : State) (i : LineId) (d : Directive) (a : DialArgs), s.takes → lineOf? d.line = some i →
    argDial.read d.args = .good a → (s.line i).state = .loopback → (s.line i).job = .none → a.list ≠ [] →
    exec (.dial d) s = .next (s.reply ⟨0x15, d.tag, .refusedArg, []⟩)) ∧
  (∀ (s : State) (i : LineId) (d : Directive) (a : DialArgs), s.takes → lineOf? d.line = some i →
    argDial.read d.args = .good a → (s.line i).state = .loopback → (s.line i).job ≠ .none →
    exec (.dial d) s = .next (s.reply ⟨0x15, d.tag, .refusedBusy, []⟩)) ∧
  (∀ (l : Line) (far : Transmit), (l.state = .loopback → l.portTransmit = .silence ∧ l.receive far = l.transmit) ∧
    (l.state ≠ .loopback → l.portTransmit = l.transmit) ∧
    (l.state ≠ .loopback → l.state ≠ .offline → l.receive far = far) ∧
    (l.state = .offline → l.portTransmit = .silence ∧ l.receive far = .silence))

/-- SEND_DIGITS in VOICE with nothing being sent begins the first digit and queues the rest. A valid pair has one
frequency of each group within 1.5 percent, each at −30 dBm or more and within 8 dB of the other; a valid pair is held
after 40 ms of presence and recognised after 40 ms of absence, which queues the digit. That the level of a pair is
judged of each frequency alone, and that a pair counts as present for the power frames only while detection runs and
is not held by a digit being sent, is the model's choice (notes/assumptions/18.md). -/
def Obligations.DigitsSentAndRecognised : Prop :=
  (∀ (s : State) (i : LineId) (d : Directive) (ns : List Nat) (x : Digit) (ds : List Digit), s.takes →
    lineOf? d.line = some i → argDigits.read d.args = .good ns → allSome (ns.map digitOfPlace?) = some (x :: ds) →
    ds.length ≤ 31 → (s.line i).inVoice = true → (s.line i).tone.sendQueue = [] → (s.line i).tone.digitTx = none →
    exec (.sendDigits d) s = .next ((s.modLine i (fun l => { l with tone := { l.tone with
      sendQueue := ds, dtmf := .idle, pairOn := false
      digitTx := some ⟨x, true, s.now + l.profile.toneOnMs, l.profile.toneOffMs⟩ } })).reply ⟨0x21, d.tag, .ok,
        []⟩)) ∧
  (∀ (s : State) (i : LineId) (d : Digit) (heard : List HeardTone), dtmfPair heard = some d →
    (s.line i).state = .voice → (s.line i).tone.digitTx = none →
    (s.line i).tone.dtmf = .idle → exec (.dtmfPairChange i heard) s = .next (s.modLine i (fun l =>
      { l with tone := { l.tone with pairOn := true, frameBusy := true, dtmf := .presence d s.now } }))) ∧
  (∀ (s : State) (i : LineId) (d : Digit) (b : Ms), (s.line i).tone.dtmf = .presence d b → b + 40 ≤ s.now →
    exec (.dtmfPresenceExpiry i) s = .next (s.modLine i (fun l => { l with tone.dtmf := .held d none }))) ∧
  (∀ (s : State) (i : LineId) (d : Digit) (b : Ms), (s.line i).tone.dtmf = .held d (some b) → b + 40 ≤ s.now →
    (s.line i).state = .voice → (s.line i).voice = { mode := .host } → (s.line i).profile.wants .digits = true →
    (s.line i).queue.entries = [] → nextHolds (exec (.dtmfAbsenceExpiry i) s) (fun t =>
      t = { s with lines := t.lines } ∧
      t.line i = { s.line i with tone := (t.line i).tone, queue := (t.line i).queue } ∧
      (t.line i).tone.dtmf = .idle ∧ (t.line i).queue.entries = [.digits [d] false] ∧
      (t.line i).voice = (s.line i).voice ∧ (t.line i).state = .voice ∧ othersSame i s t)) ∧
  (∀ (x y : Nat) (p q : Int) (d : Digit), dtmfPair [⟨x, p⟩, ⟨y, q⟩] = some d ↔
    -3000 ≤ p ∧ -3000 ≤ q ∧ p - q ≤ 800 ∧ q - p ≤ 800 ∧
    ((985 * (digitPair d).1 ≤ x ∧ x ≤ 1015 * (digitPair d).1 ∧
        985 * (digitPair d).2 ≤ y ∧ y ≤ 1015 * (digitPair d).2) ∨
      (985 * (digitPair d).1 ≤ y ∧ y ≤ 1015 * (digitPair d).1 ∧
        985 * (digitPair d).2 ≤ x ∧ x ≤ 1015 * (digitPair d).2))) ∧
  (∀ p : HeardTone, dtmfPair [] = none ∧ dtmfPair [p] = none) ∧
  (∀ (s : State) (i : LineId) (d : Digit) (heard : List HeardTone), dtmfPair heard = none →
    (s.line i).state = .voice → (s.line i).tone.digitTx = none → (s.line i).tone.dtmf = .held d none →
    exec (.dtmfPairChange i heard) s = .next (s.modLine i (fun l =>
      { l with tone := { l.tone with pairOn := false, dtmf := .held d (some s.now) } }))) ∧
  (∀ (s : State) (i : LineId) (d : Digit) (b : Ms) (heard : List HeardTone), dtmfPair heard = none →
    (s.line i).state = .voice → (s.line i).tone.digitTx = none → (s.line i).tone.dtmf = .presence d b →
    s.now < b + 40 → exec (.dtmfPairChange i heard) s = .next (s.modLine i (fun l =>
      { l with tone := { l.tone with pairOn := false, dtmf := .idle } })))

/-- ANSWER during a burst waits with its mask; REJECT before the decision is remembered for it; outside ALERTING both
are refused. What REJECT leaves of a copy already made is the model's reading of R55 (notes/assumptions/20.md), and
that an undefined bit of the mask is an illegal value, refused REFUSED_ARG, its choice (notes/assumptions/5.md). -/
def Obligations.AnswerAndReject : Prop :=
  (∀ (s : State) (i : LineId) (d : Directive) (n : Nat) (m : JobSet) (b : Ms), s.takes → lineOf? d.line = some i →
    (argNum 1).read d.args = .good n → mask? n = some m → (s.line i).state = .alerting →
    (s.line i).ring.burst = some b →
    repliesWith (exec (.answer d) s) s ⟨0x2C, d.tag, .ok, []⟩ (fun t =>
      t = { s with lines := t.lines } ∧
      t.line i = { s.line i with
        override := (t.line i).override, answerWaiting := (t.line i).answerWaiting, call := (t.line i).call } ∧
      (t.line i).answerWaiting = true ∧ (t.line i).override = .answer m ∧ (t.line i).state = .alerting ∧
      othersSame i s t)) ∧
  (∀ (s : State) (i : LineId) (d : Directive) (n : Nat) (m : JobSet), s.takes → lineOf? d.line = some i →
    (argNum 1).read d.args = .good n → mask? n = some m → (s.line i).state = .alerting →
    (s.line i).ring.burst = none → (s.line i).call.isSome = true →
    repliesWith (exec (.answer d) s) s ⟨0x2C, d.tag, .ok, []⟩ (fun t =>
      t = { s with lines := t.lines, areas := t.areas, store := t.store, dram := t.dram } ∧
      (t.line i).state ≠ .alerting ∧ ((s.line i).stage.isWriting = false → t.dram = s.dram) ∧
      (m = ⟨true, true, false⟩ → (t.line i).state = .classify ∧ (t.line i).relay = true ∧
        (t.line i).classifyTimer = some (s.now + (s.line i).profile.classifyMs)))) ∧
  (∀ (s : State) (i : LineId) (d : Directive), s.takes → lineOf? d.line = some i → d.args = [] →
    (s.line i).state = .alerting → repliesWith (exec (.reject d) s) s ⟨0x2D, d.tag, .ok, []⟩ (fun t =>
      t = { s with lines := t.lines } ∧
      t.line i = { s.line i with
        override := (t.line i).override, call := (t.line i).call, answerWaiting := (t.line i).answerWaiting } ∧
      (t.line i).override = .reject ∧ (t.line i).answerWaiting = false ∧ (t.line i).state = .alerting ∧
      othersSame i s t ∧ ∀ c, (s.line i).routing = some c → ∃ c', (t.line i).routing = some c' ∧
        c'.action = .reject ∧ c'.rings = none ∧ c'.override = .reject)) ∧
  (∀ (s : State) (i : LineId) (d : Directive), s.takes → lineOf? d.line = some i → d.args = [] →
    (s.line i).state ≠ .alerting → exec (.reject d) s = .next (s.reply ⟨0x2D, d.tag, .refusedState, []⟩)) ∧
  (∀ (s : State) (i : LineId) (d : Directive) (n : Nat) (m : JobSet), s.takes → lineOf? d.line = some i →
    (argNum 1).read d.args = .good n → mask? n = some m → (s.line i).state ≠ .alerting →
    exec (.answer d) s = .next (s.reply ⟨0x2C, d.tag, .refusedState, []⟩)) ∧
  (∀ (s : State) (i : LineId) (d : Directive) (n : Nat), s.takes → lineOf? d.line = some i →
    (argNum 1).read d.args = .good n → (n = 0 ∨ 8 ≤ n) →
    exec (.answer d) s = .next (s.reply ⟨0x2C, d.tag, .refusedArg, []⟩))

/-- The release of a call that is not in LOOPBACK: RELEASE with the relay open and a guard of 1500 ms, a context with
no call, engines off, areas let go, and CALL_ENDED with the reason, which is that of the end taken first where the
call, of data or of fax, was already ending. No other line's state, call or profile changes. That reading of the first
end taken is the model's (notes/assumptions/24.md). -/
def Obligations.ReleaseLeaves : Prop :=
  ∀ (s : State) (i : LineId) (why : EndReason), (s.line i).state ≠ .loopback →
    ((s.release i why).line i).state = .release ∧ ((s.release i why).line i).relay = false ∧
    ((s.release i why).line i).guard = some (s.now + 1500) ∧ ((s.release i why).line i).job = .none ∧
    ((s.release i why).line i).direction = .none ∧ ((s.release i why).line i).call = none ∧
    ((s.release i why).line i).dialList = [] ∧ ((s.release i why).line i).link = {} ∧
    ((s.release i why).line i).fax = {} ∧ ((s.release i why).line i).voice = {} ∧
    ((s.release i why).line i).carrier = false ∧ ((s.release i why).line i).signals.hook = false ∧
    ((s.release i why).line i).signals.carrier = false ∧
    ((s.release i why).line i).profile = (s.line i).profile ∧ tablesSame s (s.release i why) ∧
    ((s.line i).stage.isWriting = false → (s.release i why).dram = s.dram) ∧
    (∀ k, ((s.release i why).area k).inUse ≠ some i) ∧
    (∀ j, j ≠ i → ((s.release i why).line j).state = (s.line j).state ∧
      ((s.release i why).line j).call = (s.line j).call ∧
      ((s.release i why).line j).profile = (s.line j).profile) ∧
    (∀ c, (s.line i).call = some c → (s.line i).profile.wants .callEnded = true → (s.line i).fax.role = none →
      (s.line i).voice.activity = .none → (s.line i).queue.entries = [] →
      ∃ c', .callEnded c' ∈ ((s.release i why).line i).queue.entries ∧
        c'.endReason = some (((s.line i).link.ending.or (s.line i).fax.ending).getD why) ∧ c'.start = c.start)

/-- The ring input starts and ends the timing of a burst, and an input active long enough begins one: in IDLE that is
an incoming call. -/
def Obligations.RingInputBeginsCall : Prop :=
  (∀ (s : State) (i : LineId), (s.line i).state = .idle → (s.line i).realRing = false → (s.line i).ring.burst = none →
    exec (.ringInputChange i true) s = .next (s.modLine i (fun l =>
      { l with realRing := true, ring.qual := some (s.now, s.now + l.profile.ringQualifyMs) }))) ∧
  (∀ (s : State) (i : LineId) (b : Ms), (s.line i).state = .alerting → (s.line i).realRing = true →
    (s.line i).ring.burst = some b →
    exec (.ringInputChange i false) s = .next (s.modLine i (fun l =>
      { l with realRing := false, ring.quiet := some s.now }))) ∧
  (∀ (s : State) (i : LineId) (b q : Ms), (s.line i).state = .idle → (s.line i).ring.qual = some (b, q) →
    q ≤ s.now → nextHolds (exec (.ringQualified i) s) (fun t =>
      t = { s with lines := t.lines } ∧
      (t.line i).state = .alerting ∧ (t.line i).direction = .incoming ∧ (t.line i).call = some s.incomingCall ∧
      (t.line i).copies = s.callCopies (s.line i).profile ∧ (t.line i).ring.burst = some b ∧
      (t.line i).ring.cycle = true ∧ (t.line i).signals.ring = true ∧ (t.line i).relay = false ∧
      (t.line i).profile = (s.line i).profile ∧ othersSame i s t ∧ t.areas = s.areas ∧ t.store = s.store))

/-- A burst ends 100 ms after its input went inactive; ring_gap_ms later the cycle closes. The first close decides the
cadence class and starts the wait of an open caller identity window, or, with the window closed, makes the routing
decision. At a later close the line goes on waiting while the copy is REJECT or its rings have not been reached, and
is answered at the close that reaches them; an ANSWER_DROP copy is answered with its drop timer running. Ringing that
stays away for ring_abandon_ms ends the call. -/
def Obligations.RingCycleCloses : Prop :=
  (∀ (s : State) (i : LineId) (b q : Ms), (s.line i).ring.burst = some b → (s.line i).ring.quiet = some q →
    q + 100 ≤ s.now → (s.line i).answerWaiting = false → (s.line i).ring.cycle = true →
    nextHolds (exec (.burstTrailingEdge i) s) (fun t =>
      t = { s with lines := t.lines } ∧
      t.line i = { s.line i with
        ring := (t.line i).ring, signals := (t.line i).signals, queue := (t.line i).queue, tone := (t.line i).tone } ∧
      (t.line i).ring.burst = none ∧ (t.line i).ring.gap = some (s.now + (s.line i).profile.ringGapMs) ∧
      (t.line i).ring.durs = (if (s.line i).ring.closed = 0 then (s.line i).ring.durs ++ [q - b]
        else (s.line i).ring.durs) ∧
      (t.line i).signals.ring = false ∧ (t.line i).signals.trailing = true ∧
      (t.line i).state = (s.line i).state ∧ (t.line i).call = (s.line i).call ∧ othersSame i s t)) ∧
  (∀ (s : State) (i : LineId) (g : Ms) (c : CallRecord), (s.line i).state = .alerting → (s.line i).call = some c →
    (s.line i).ring.gap = some g → g ≤ s.now → (s.line i).ring.cycle = true → (s.line i).ring.burst = none →
    (s.line i).ring.closed = 0 → c.routing = none → (s.line i).tone.cid.window = .open_ →
    nextHolds (exec (.ringGapExpiry i) s) (fun t =>
      t = { s with lines := t.lines } ∧
      t.line i = { s.line i with call := (t.line i).call, ring := (t.line i).ring, tone := (t.line i).tone } ∧
      (t.line i).state = .alerting ∧ (t.line i).ring.cycle = false ∧ (t.line i).ring.closed = 1 ∧
      (t.line i).call = some { c with cadence := some (cadenceClass (s.line i).ring.durs 1 s.patterns) } ∧
      (t.line i).ring.abandon = some (s.now + (s.line i).profile.ringAbandonMs) ∧
      (t.line i).tone.cid.wait = some (s.now + (s.line i).tone.cid.waitMs) ∧ othersSame i s t)) ∧
  (∀ (s : State) (i : LineId) (d : Ms), (s.line i).state = .alerting → (s.line i).call.isSome = true →
    (s.line i).ring.abandon = some d → d ≤ s.now → (s.line i).ring.burst = none →
    nextHolds (exec (.ringAbandonExpiry i) s) (fun t =>
      t = { s with lines := t.lines, areas := t.areas, store := t.store, dram := t.dram } ∧
      (t.line i).state = .idle ∧ (t.line i).call = none ∧ (t.line i).direction = .none ∧
      (t.line i).ring.cycle = false ∧ (t.line i).ring.closed = 0 ∧ (t.line i).profile = (s.line i).profile ∧
      ((s.line i).stage.isWriting = false → t.dram = s.dram))) ∧
  (∀ (s : State) (i : LineId) (g : Ms) (c : CallRecord) (cp : RoutingCopy) (k : Nat), (s.line i).state = .alerting →
    (s.line i).call = some c → c.routing = some cp → (s.line i).ring.gap = some g → g ≤ s.now →
    (s.line i).ring.cycle = true → (s.line i).ring.burst = none → 1 ≤ (s.line i).ring.closed →
    (cp.action = .reject ∨ (cp.action = .answer ∧ cp.rings = some k ∧ min 255 ((s.line i).ring.closed + 1) < k)) →
    exec (.ringGapExpiry i) s = .next (s.modLine i (fun l => { l with ring := { l.ring with
      cycle := false, gap := none, closed := min 255 (l.ring.closed + 1)
      abandon := some (s.now + l.profile.ringAbandonMs) } }))) ∧
  (∀ (s : State) (i : LineId) (g : Ms) (c : CallRecord) (cp : RoutingCopy) (k : Nat), (s.line i).state = .alerting →
    (s.line i).call = some c → c.routing = some cp → (s.line i).ring.gap = some g → g ≤ s.now →
    (s.line i).ring.cycle = true → (s.line i).ring.burst = none → 1 ≤ (s.line i).ring.closed →
    cp.action = .answer → cp.rings = some k → k ≤ min 255 ((s.line i).ring.closed + 1) →
    cp.mask = ⟨true, true, false⟩ → nextHolds (exec (.ringGapExpiry i) s) (fun t =>
      t = { s with lines := t.lines } ∧ othersSame i s t ∧
      t.line i = { s.line i with
        state := .classify, relay := true, ring := {}
        classifyTimer := some (s.now + (s.line i).profile.classifyMs)
        signals := (t.line i).signals, queue := (t.line i).queue, tone := (t.line i).tone
        carrier := (t.line i).carrier, loopTimer := (t.line i).loopTimer } ∧
      (t.line i).signals.hook = true)) ∧
  (∀ (s : State) (i : LineId) (g : Ms) (c : CallRecord) (cp : RoutingCopy), (s.line i).state = .alerting →
    (s.line i).call = some c → c.routing = some cp → (s.line i).ring.gap = some g → g ≤ s.now →
    (s.line i).ring.cycle = true → (s.line i).ring.burst = none → 1 ≤ (s.line i).ring.closed →
    cp.action = .answerDrop → nextHolds (exec (.ringGapExpiry i) s) (fun t =>
      t = { s with lines := t.lines } ∧ othersSame i s t ∧
      t.line i = { s.line i with
        state := .classify, relay := true, ring := {}, dropTimer := some (s.now + 1000)
        signals := (t.line i).signals, queue := (t.line i).queue, tone := (t.line i).tone
        carrier := (t.line i).carrier, loopTimer := (t.line i).loopTimer })) ∧
  (∀ (s : State) (i : LineId) (g : Ms) (c : CallRecord) (cp : RoutingCopy), (s.line i).state = .alerting →
    (s.line i).call = some c → c.routing = none → (s.line i).ring.gap = some g → g ≤ s.now →
    (s.line i).ring.cycle = true → (s.line i).ring.burst = none → (s.line i).ring.closed = 0 →
    (s.line i).tone.cid.window = .closed → (s.line i).override = .none →
    cp = s.route i (cadenceClass (s.line i).ring.durs 1 s.patterns) (c.cid.getD { status := .none }) →
    (cp.action = .reject ∨ (cp.action = .answer ∧ 1 < cp.rings.getD 1)) →
    nextHolds (exec (.ringGapExpiry i) s) (fun t =>
      t = { s with lines := t.lines } ∧ othersSame i s t ∧
      t.line i = { s.line i with
        call := some { c with
          cadence := some (cadenceClass (s.line i).ring.durs 1 s.patterns), routing := some cp }
        ring := { (s.line i).ring with
          cycle := false, gap := none, closed := 1, abandon := some (s.now + (s.line i).profile.ringAbandonMs) }
        queue := (t.line i).queue } ∧
      ((s.line i).queue.entries = [] → (s.line i).profile.wants .routed = true →
        (t.line i).queue.entries = [.routed cp.position cp.action cp.mask cp.mailbox])))

/-- The cadence class is the lowest-numbered pattern that has as many bursts as the first cycle and whose ranges hold
each of them in order, and UNMATCHED where none does, as after more than three bursts or with an empty table. It is
decided when the first cycle closes, written to the call record, and the routing decision of that close is made with
it. Later cycles and later bursts leave the class, and RING of a later cycle carries it. -/
def Obligations.CadenceClassIsLowestMatch : Prop :=
  (∀ (durs : List Ms) (ps : List (List (Ms × Ms))),
    (∀ n, cadenceClass durs 1 ps = .pattern n ↔
      ∃ p, 1 ≤ n ∧ ps[n - 1]? = some p ∧ p.length = durs.length ∧
        (∀ (k d : Nat) (r : Ms × Ms), durs[k]? = some d → p[k]? = some r → r.1 ≤ d ∧ d ≤ r.2) ∧
        ∀ m p', m < n - 1 → ps[m]? = some p' → ¬ (p'.length = durs.length ∧
          ∀ (k d : Nat) (r : Ms × Ms), durs[k]? = some d → p'[k]? = some r → r.1 ≤ d ∧ d ≤ r.2)) ∧
    cadenceClass durs 1 ps ≠ .pending) ∧
  (∀ (durs : List Ms) (ps : List (List (Ms × Ms))), (∀ p ∈ ps, ¬ (p.length = durs.length ∧
      ∀ (k d : Nat) (r : Ms × Ms), durs[k]? = some d → p[k]? = some r → r.1 ≤ d ∧ d ≤ r.2)) →
        cadenceClass durs 1 ps = .unmatched) ∧
  (∀ (durs : List Ms) (ps : List (List (Ms × Ms))), (∀ p ∈ ps, p.length ≤ 3) → (3 < durs.length ∨ ps = []) →
    cadenceClass durs 1 ps = .unmatched) ∧
  (∀ (s : State) (i : LineId) (g : Ms) (c : CallRecord), (s.line i).state = .alerting → (s.line i).call = some c →
    (s.line i).ring.gap = some g → g ≤ s.now → (s.line i).ring.cycle = true → (s.line i).ring.burst = none →
    (s.line i).ring.closed = 0 → c.routing = none → (s.line i).tone.cid.window = .open_ →
    nextHolds (exec (.ringGapExpiry i) s) (fun t => (t.line i).call =
      some { c with cadence := some (cadenceClass (s.line i).ring.durs 1 s.patterns) })) ∧
  (∀ (s : State) (i : LineId) (g : Ms) (c : CallRecord) (cp : RoutingCopy), (s.line i).state = .alerting →
      (s.line i).call = some c →
    (s.line i).ring.gap = some g → g ≤ s.now → (s.line i).ring.cycle = true → (s.line i).ring.burst = none →
    (s.line i).ring.closed = 0 → c.routing = none → (s.line i).tone.cid.window = .closed →
    (s.line i).override = .none →
    cp = s.route i (cadenceClass (s.line i).ring.durs 1 s.patterns) (c.cid.getD { status := .none }) →
    (cp.action = .reject ∨ (cp.action = .answer ∧ 1 < cp.rings.getD 1)) →
    nextHolds (exec (.ringGapExpiry i) s) (fun t => (t.line i).call = some { c with
      cadence := some (cadenceClass (s.line i).ring.durs 1 s.patterns), routing := some cp })) ∧
  (∀ (s : State) (i : LineId) (g : Ms) (c : CallRecord), (s.line i).state = .alerting → (s.line i).call = some c →
    (s.line i).ring.gap = some g → g ≤ s.now → (s.line i).ring.cycle = true → (s.line i).ring.burst = none →
    1 ≤ (s.line i).ring.closed → nextHolds (exec (.ringGapExpiry i) s) (fun t => ∀ c', (t.line i).call = some c' →
      c'.cadence = c.cadence)) ∧
  (∀ (s : State) (i : LineId) (b q : Ms) (c : CallRecord), (s.line i).state = .alerting → (s.line i).call = some c →
    (s.line i).ring.burst = some b → (s.line i).ring.quiet = some q → q + 100 ≤ s.now → 1 ≤ (s.line i).ring.closed →
    nextHolds (exec (.burstTrailingEdge i) s) (fun t => ∀ c', (t.line i).call = some c' → c'.cadence = c.cadence)) ∧
  (∀ (s : State) (i : LineId) (b q : Ms) (c : CallRecord) (cls : CadenceClass), (s.line i).state = .alerting →
    (s.line i).call = some c → (s.line i).ring.qual = some (b, q) → q ≤ s.now → (s.line i).ring.cycle = false →
    c.cadence = some cls → nextHolds (exec (.ringQualified i) s) (fun t =>
      (∀ c', (t.line i).call = some c' → c'.cadence = c.cadence) ∧
      ((s.line i).queue.entries = [] → (s.line i).profile.wants .ring = true →
        ∃ n, .ring n cls ∈ (t.line i).queue.entries)))

/-- Loop current lost in a call starts the absence timer and changes the signal record; the timer's end releases the
call, with NO_LINE while it seizes or dials and REMOTE after; the guard's end takes the line to IDLE. -/
def Obligations.LoopDropReleases : Prop :=
  (∀ (s : State) (i : LineId), (s.line i).state = .progress → (s.line i).relay = true → (s.line i).realLoop = true →
    (s.line i).signals.loop = true → nextHolds (exec (.loopInputChange i false) s) (fun t =>
      t = { s with lines := t.lines } ∧
      t.line i = { s.line i with
        realLoop := (t.line i).realLoop, loopTimer := (t.line i).loopTimer, signals := (t.line i).signals
        queue := (t.line i).queue } ∧
      (t.line i).realLoop = false ∧ (t.line i).loopTimer = some (s.now + (s.line i).profile.loopDropMs) ∧
      (t.line i).signals.loop = false ∧ (t.line i).signals.fLoop = true ∧ (t.line i).state = .progress ∧
      (t.line i).call = (s.line i).call ∧ othersSame i s t)) ∧
  (∀ (s : State) (i : LineId), (s.line i).state = .progress → (s.line i).relay = true → (s.line i).realLoop = false →
    nextHolds (exec (.loopInputChange i true) s) (fun t =>
      t = { s with lines := t.lines } ∧
      t.line i = { s.line i with
        realLoop := (t.line i).realLoop, signals := (t.line i).signals, queue := (t.line i).queue
        loopTimer := (t.line i).loopTimer } ∧
      (t.line i).realLoop = true ∧ (t.line i).loopTimer = none ∧ (t.line i).signals.loop = true ∧
      (t.line i).state = .progress ∧ othersSame i s t)) ∧
  (∀ (s : State) (i : LineId) (d : Ms), (s.line i).loopTimer = some d → d ≤ s.now →
    exec (.loopDrop i) s = .next (s.release i
      (if (s.line i).state = .seizing ∨ (s.line i).state = .dialling then .noLine else .remote))) ∧
  (∀ (s : State) (i : LineId) (d : Ms), (s.line i).state = .release → (s.line i).guard = some d → d ≤ s.now →
    (s.line i).ring.burst = none → nextHolds (exec (.releaseGuardExpiry i) s) (fun t =>
      t = { s with lines := t.lines } ∧
      t.line i = { s.line i with
        state := (t.line i).state, guard := (t.line i).guard, ring := (t.line i).ring
        signals := (t.line i).signals, queue := (t.line i).queue, relay := (t.line i).relay
        loopTimer := (t.line i).loopTimer, tone := (t.line i).tone, carrier := (t.line i).carrier } ∧
      (t.line i).state = .idle ∧ (t.line i).guard = none ∧ (t.line i).relay = false ∧
      (t.line i).profile = (s.line i).profile ∧ othersSame i s t))

/-- The waits of dialling end: blind dialling goes on to the first element, else the call is released, and the answer
wait releases with NO_ANSWER. Inside an element: pulses, interdigit time, pause, flash and the two parts of a DTMF
digit. That blind_dial is read as the wait expires is the model's reading of the rule (notes/assumptions/13.md). -/
def Obligations.DialTimings : Prop :=
  (∀ (s : State) (i : LineId) (d : Ms), (s.line i).state = .seizing → (s.line i).dialWait = some d → d ≤ s.now →
    (s.line i).profile.blindDial = false → exec (.dialToneWaitExpiry i) s = .next (s.release i .noDialTone)) ∧
  (∀ (s : State) (i : LineId) (d : Ms) (n : Nat) (es : List DialElement), (s.line i).state = .seizing →
    (s.line i).dialWait = some d → d ≤ s.now → (s.line i).profile.blindDial = true →
    (s.line i).dialList = .pause n :: es → (s.line i).dialPos = 0 →
    nextHolds (exec (.dialToneWaitExpiry i) s) (fun t =>
      t = { s with lines := t.lines } ∧
      t.line i = { s.line i with
        state := (t.line i).state, relay := (t.line i).relay, signals := (t.line i).signals
        dialWait := (t.line i).dialWait, dialStep := (t.line i).dialStep, queue := (t.line i).queue
        ring := (t.line i).ring, tone := (t.line i).tone, carrier := (t.line i).carrier } ∧
      (t.line i).state = .dialling ∧ (t.line i).dialStep = .pause (s.now + 100 * n) ∧ (t.line i).dialWait = none ∧
      (t.line i).relay = true ∧ (t.line i).call = (s.line i).call ∧ othersSame i s t)) ∧
  (∀ (s : State) (i : LineId) (u : Ms), (s.line i).dialStep = .await u → u ≤ s.now →
    exec (.awaitToneExpiry i) s = .next (if (s.line i).profile.blindDial = true then s.endElement i
      else s.release i .noDialTone)) ∧
  (∀ (s : State) (i : LineId) (d : Ms), (s.line i).state = .progress → (s.line i).answerWait = some d → d ≤ s.now →
    exec (.answerWaitExpiry i) s = .next (s.release i .noAnswer)) ∧
  (∀ (s : State) (i : LineId) (left : Nat) (u : Ms), (s.line i).dialStep = .pulseBreak left u → u ≤ s.now →
    nextHolds (exec (.pulseBreakEnd i) s) (fun t =>
      t = { s with lines := t.lines } ∧
      t.line i = { s.line i with
        relay := (t.line i).relay, loopTimer := (t.line i).loopTimer, dialStep := (t.line i).dialStep
        signals := (t.line i).signals, queue := (t.line i).queue } ∧
      (t.line i).relay = true ∧
      (t.line i).dialStep = (if left = 0 then .interdigit (s.now + (s.line i).profile.pulseInterdigitMs)
        else .pulseMake left (s.now + (s.line i).profile.pulseMakeMs)) ∧
      (t.line i).dialPos = (s.line i).dialPos ∧ othersSame i s t)) ∧
  (∀ (s : State) (i : LineId) (left : Nat) (u : Ms), (s.line i).dialStep = .pulseMake left u → u ≤ s.now →
    exec (.pulseMakeEnd i) s = .next (s.modLine i (fun l => { l with
      relay := false, loopTimer := none
      dialStep := .pulseBreak (left - 1) (s.now + l.profile.pulseBreakMs) }))) ∧
  (∀ (s : State) (i : LineId) (u : Ms), (s.line i).dialStep = .interdigit u → u ≤ s.now →
    exec (.pulseInterdigitEnd i) s = .next (s.endElement i)) ∧
  (∀ (s : State) (i : LineId) (u : Ms), (s.line i).dialStep = .pause u → u ≤ s.now →
    exec (.dialPauseEnd i) s = .next (s.endElement i)) ∧
  (∀ (s : State) (i : LineId) (u : Ms), (s.line i).dialStep = .flash u → u ≤ s.now →
    exec (.flashEnd i) s = .next ((s.closeRelay i).endElement i)) ∧
  (∀ (s : State) (i : LineId) (x : DigitTx), (s.line i).tone.digitTx = some x → x.isOn = true → x.until_ ≤ s.now →
    exec (.dtmfDigitOnEnd i) s = .next (s.modLine i (fun l =>
      { l with tone.digitTx := some { x with isOn := false, until_ := s.now + x.offMs } }))) ∧
  (∀ (s : State) (i : LineId) (x : DigitTx) (d : Digit) (ds : List Digit), (s.line i).tone.digitTx = some x →
    x.isOn = false → x.until_ ≤ s.now → (s.line i).dialStep = .idle → (s.line i).tone.sendQueue = d :: ds →
    nextHolds (exec (.dtmfDigitOffEnd i) s) (fun t =>
      t = { s with lines := t.lines } ∧
      t.line i = { s.line i with tone := (t.line i).tone } ∧
      (t.line i).tone.digitTx = some ⟨d, true, s.now + (s.line i).profile.toneOnMs, (s.line i).profile.toneOffMs⟩ ∧
      (t.line i).tone.sendQueue = ds ∧ othersSame i s t))

/-- The end of an element begins the next in order, and the end of the list enters PROGRESS with the answer wait. -/
def Obligations.DialListGoesOn : Prop :=
  (∀ (s : State) (i : LineId), (s.line i).dialList.length ≤ (s.line i).dialPos + 1 →
    ((s.endElement i).line i).state = .progress ∧
    ((s.endElement i).line i).answerWait = some (s.now + (s.line i).profile.answerWaitS * 1000) ∧
    ((s.endElement i).line i).dialStep = .idle ∧ ((s.endElement i).line i).relay = true ∧
    ((s.endElement i).line i).ringbackSeen = false ∧ othersSame i s (s.endElement i)) ∧
  (∀ (s : State) (i : LineId) (d : Digit) (n : Nat), (s.line i).dialList[(s.line i).dialPos + 1]? = some (.digit d) →
    (s.line i).profile.dialMethod = .pulse → digitBreaks? d = some n →
    ((s.endElement i).line i).dialStep = .pulseBreak (n - 1) (s.now + (s.line i).profile.pulseBreakMs) ∧
    ((s.endElement i).line i).relay = false ∧ ((s.endElement i).line i).dialPos = (s.line i).dialPos + 1 ∧
    othersSame i s (s.endElement i)) ∧
  (∀ (s : State) (i : LineId) (d : Digit), (s.line i).dialList[(s.line i).dialPos + 1]? = some (.digit d) →
    (s.line i).profile.dialMethod = .tone →
    ((s.endElement i).line i).dialStep = .tone ∧ ((s.endElement i).line i).dialPos = (s.line i).dialPos + 1 ∧
    ((s.endElement i).line i).tone.digitTx =
      some ⟨d, true, s.now + (s.line i).profile.toneOnMs, (s.line i).profile.toneOffMs⟩ ∧
    othersSame i s (s.endElement i)) ∧
  (∀ (s : State) (i : LineId), (s.line i).dialList[(s.line i).dialPos + 1]? = some .awaitTone →
    ((s.endElement i).line i).dialStep = .await (s.now + (s.line i).profile.dialToneWaitMs) ∧
    othersSame i s (s.endElement i)) ∧
  (∀ (s : State) (i : LineId), (s.line i).dialList[(s.line i).dialPos + 1]? = some .flash →
    ((s.endElement i).line i).dialStep = .flash (s.now + (s.line i).profile.flashMs) ∧
    ((s.endElement i).line i).relay = false ∧ othersSame i s (s.endElement i))

/-- Matching of a tone in SEIZING: a detector is on where each frequency of its entry is heard within 1.5 percent at
its least level, its onset starts the on-period and its end stops a continuous entry; a BUSY-class entry whose last
off-period reaches off-min releases the call, and a continuous DIAL-class entry on for on-min begins dialling. That
each frequency is judged by its own level is the model's choice (notes/assumptions/18.md), and so is the operand that
says whether a tone was there when the detector began to listen (notes/assumptions/9.md). -/
def Obligations.ToneMatchingInSeizing : Prop :=
  (∀ (s : State) (i : LineId) (e : ToneEntry) (m : Matcher) (heard : List HeardTone),
    e.isOn heard = true → (s.line i).tone.matchers = [m] →
    s.toneTable = [e] → m.id = e.id → m.det = false → m.phase = .waiting → e.cls ≠ .ringback →
    exec (.toneDetectorChange i e.id heard false) s = .next (s.modLine i (fun l => { l with tone := { l.tone with
      frameBusy := true
      matchers := [{ m with
        det := true, phase := .on s.now, seg := 0, reps := 0, first := l.voice.codedCount }] } }))) ∧
  (∀ (s : State) (i : LineId) (e : ToneEntry) (m : Matcher) (b : Ms), (s.line i).state = .seizing →
    (s.line i).voice = {} → (s.line i).tone.matchers = [m] → s.toneTable = [e] → m.id = e.id → e.cls = .busy →
    e.continuous = false → m.phase = .off b false → b + (e.segment m.seg).offMin ≤ s.now →
    m.seg + 1 = e.cadence.length → m.reps + 1 = e.confirm →
    nextHolds (exec (.cadencePeriodExpiry i e.id) s) (fun t =>
      t = { s with lines := t.lines, areas := t.areas, store := t.store, dram := t.dram } ∧
      (t.line i).state = .release ∧ (t.line i).call = none ∧ (t.line i).guard = some (s.now + 1500) ∧
      ((s.line i).stage.isWriting = false → t.dram = s.dram))) ∧
  (∀ (s : State) (i : LineId) (e : ToneEntry) (m : Matcher) (b n : Nat), (s.line i).state = .seizing →
    (s.line i).voice = {} → (s.line i).tone.matchers = [m] → s.toneTable = [e] → m.id = e.id → e.cls = .dial →
    e.continuous = true → m.phase = .on b → b + (e.segment m.seg).onMin ≤ s.now →
    (s.line i).dialList = [.pause n] → (s.line i).dialPos = 0 →
    nextHolds (exec (.continuousToneConfirm i e.id) s) (fun t =>
      t = { s with lines := t.lines } ∧
      t.line i = { s.line i with
        state := (t.line i).state, relay := (t.line i).relay, signals := (t.line i).signals
        dialStep := (t.line i).dialStep, tone := (t.line i).tone, queue := (t.line i).queue
        ring := (t.line i).ring, dialWait := (t.line i).dialWait, carrier := (t.line i).carrier } ∧
      (t.line i).state = .dialling ∧ (t.line i).dialStep = .pause (s.now + 100 * n) ∧ othersSame i s t)) ∧
  (∀ (e : ToneEntry) (heard : List HeardTone), e.isOn heard = true ↔
    ∀ f ∈ e.f1 :: e.f2.toList, ∃ p ∈ heard, 985 * f ≤ p.mHz ∧ p.mHz ≤ 1015 * f ∧ 100 * e.level ≤ p.cdBm) ∧
  (∀ (s : State) (i : LineId) (e : ToneEntry) (m : Matcher) (heard : List HeardTone) (already : Bool),
    e.isOn heard = false → (s.line i).tone.matchers = [m] → s.toneTable = [e] → m.id = e.id → m.det = true →
    e.continuous = true → e.cls ≠ .ringback → m.phase = .confirmed →
    exec (.toneDetectorChange i e.id heard already) s = .next (s.modLine i (fun l => { l with
      tone.matchers := [{ m with det := false, phase := .waiting, seg := 0, reps := 0 }] }))) ∧
  (∀ (s : State) (i : LineId) (e : ToneEntry) (m : Matcher) (heard : List HeardTone), e.isOn heard = true →
    (s.line i).tone.matchers = [m] → s.toneTable = [e] → m.id = e.id → m.det = false →
    exec (.toneDetectorChange i e.id heard true) s = .next (s.modLine i (fun l => { l with tone := { l.tone with
      frameBusy := true, matchers := [{ m with det := true }] } })))

/-- A tone requested is sent by the entry of its class with the lowest id, at −10 dBm in all, half of it in each
frequency of a dual tone, and a digit by its pair at −9 and −7 dBm, a digit in the place of a tone. A cadence goes
through its on-parts and off-parts in turn, and a generated tone stops at the end of its time; a power frame with no
detector on moves the noise floor one sixteenth of the way, and a busy frame leaves it. An OFFLINE line sends silence.
That the two tones of a fax job in LOOPBACK are sent together, each for its own time, is the model's choice
(notes/assumptions/10.md). -/
def Obligations.ToneSendingAndNoiseFloor : Prop :=
  (∀ (s : State) (i : LineId) (g : ToneGen), (s.line i).tone.gen = some g → g.stopAt ≤ s.now →
    (s.line i).tone.echoGen = none →
    exec (.generatedToneEnd i) s = .next (s.modLine i (fun l => { l with tone.gen := none }))) ∧
  (∀ (s : State) (i : LineId) (p : Int), (s.line i).state = .progress → (s.line i).tone.frameStart + 32 ≤ s.now →
    (s.line i).watch = none → (s.line i).voice = {} → (s.line i).tone.frameBusy = false →
    clampPower p < (s.line i).tone.nf + (s.line i).profile.speechMarginDb →
    nextHolds (exec (.powerFrameEnd i p) s) (fun t =>
      t = { s with lines := t.lines } ∧
      t.line i = { s.line i with tone := (t.line i).tone } ∧
      (t.line i).tone.nf16 =
        (s.line i).tone.nf16 + (16 * clampPower p - (s.line i).tone.nf16) / 16 ∧
      (t.line i).tone.speechRun = 0 ∧ (t.line i).tone.frameStart = s.now ∧ (t.line i).state = .progress ∧
      othersSame i s t)) ∧
  (∀ (s : State) (i : LineId) (p : Int), (s.line i).state = .progress → (s.line i).tone.frameStart + 32 ≤ s.now →
    (s.line i).watch = none → (s.line i).voice = {} → (s.line i).tone.frameBusy = true →
    nextHolds (exec (.powerFrameEnd i p) s) (fun t =>
      t = { s with lines := t.lines } ∧
      t.line i = { s.line i with tone := (t.line i).tone } ∧
      (t.line i).tone.nf16 = (s.line i).tone.nf16 ∧ (t.line i).tone.speechRun = 0 ∧
      (t.line i).state = .progress ∧ othersSame i s t)) ∧
  (∀ (l : Line) (x : DigitTx), l.tone.digitTx = some x → l.state ≠ .offline →
    l.transmit.sent = if x.isOn then [⟨(digitPair x.digit).1, -9, 1⟩, ⟨(digitPair x.digit).2, -7, 1⟩] else []) ∧
  (∀ (l : Line) (g : ToneGen), l.tone.digitTx = none → l.tone.gen = some g →
    l.tone.echoGen = none → l.state ≠ .offline → l.transmit.sent = if g.isOn then (match g.f2 with
      | none => [⟨g.f1, -10, 1⟩]
      | some f => [⟨g.f1, -10, 2⟩, ⟨f, -10, 2⟩]) else []) ∧
  (∀ (table : List ToneEntry) (now len : Ms) (e : ToneEntry), e ∈ table → e.cadence ≠ [] → e.continuous = false →
    (∀ e' ∈ table, e'.cls = e.cls → e.id < e'.id ∨ e' = e) → toneRequest table now e.cls len = some {
      cls := e.cls, f1 := e.f1, f2 := e.f2, stopAt := now + len, seg := 0, isOn := true
      cadence := e.cadence.map (fun g => ((g.onMin + g.onMax) / 2, (g.offMin + g.offMax) / 2))
      segEnd := e.cadence.head?.map (fun g => now + (g.onMin + g.onMax) / 2) }) ∧
  (∀ (table : List ToneEntry) (now len : Ms) (e : ToneEntry), e ∈ table → e.continuous = true →
    (∀ e' ∈ table, e'.cls = e.cls → e.id < e'.id ∨ e' = e) → toneRequest table now e.cls len = some {
      cls := e.cls, f1 := e.f1, f2 := e.f2, stopAt := now + len, seg := 0, isOn := true, cadence := []
      segEnd := none }) ∧
  (∀ (table : List ToneEntry) (now len : Ms) (c : ToneClass), (∀ e ∈ table, e.cls ≠ c) →
    toneRequest table now c len = if c = .recordTone then some {
      cls := c, f1 := 1000, f2 := none, cadence := [], stopAt := now + len, seg := 0, isOn := true, segEnd := none }
    else none) ∧
  (∀ (s : State) (i : LineId) (g e : ToneGen), (s.line i).tone.gen = some g → (s.line i).tone.echoGen = some e →
    s.now < g.stopAt → e.stopAt ≤ s.now → (∀ d ∈ g.segEnd, s.now < d) →
    exec (.generatedToneEnd i) s = .next (s.modLine i (fun l => { l with tone.echoGen := none }))) ∧
  (∀ (s : State) (i : LineId) (g : ToneGen) (d on off : Nat), (s.line i).tone.gen = some g →
    (s.line i).tone.echoGen = none → s.now < g.stopAt → g.segEnd = some d → d ≤ s.now → g.isOn = true →
    g.cadence[g.seg]? = some (on, off) →
    exec (.generatedToneEnd i) s = .next (s.modLine i (fun l =>
      { l with tone.gen := some { g with isOn := false, segEnd := some (s.now + off) } }))) ∧
  (∀ (s : State) (i : LineId) (g : ToneGen) (d on off : Nat), (s.line i).tone.gen = some g →
    (s.line i).tone.echoGen = none → s.now < g.stopAt → g.segEnd = some d → d ≤ s.now → g.isOn = false →
    g.cadence[(g.seg + 1) % g.cadence.length]? = some (on, off) → g.seg < g.cadence.length →
    exec (.generatedToneEnd i) s = .next (s.modLine i (fun l => { l with tone.gen := some { g with
      isOn := true, seg := (g.seg + 1) % g.cadence.length, segEnd := some (s.now + on) } }))) ∧
  (∀ (l : Line) (g e : ToneGen), l.tone.digitTx = none → l.tone.gen = some g → l.tone.echoGen = some e →
    l.state ≠ .offline → g.f2 = none → e.f2 = none → g.isOn = true → e.isOn = true →
    l.transmit.sent = [⟨g.f1, -10, 1⟩, ⟨e.f1, -10, 1⟩]) ∧
  (∀ l : Line, l.state = .offline → l.transmit = .silence)

/-- A signal at −40 dBm or more within 1.5 percent of 1200 Hz is a mark and of 2200 Hz a space, each judged by its own
level (notes/assumptions/18.md). In an open caller identity window the sixtieth consecutive mark synchronises the
receiver; a message of type 0x3A, from its type byte to its check byte, closes the window with the record its fields
give, which is reported and may set the clock. The end of the wait closes it with what there is, and makes the routing
decision of a call whose first ring cycle has closed: the line goes on ringing where the copy is REJECT, a burst is in
progress or its rings have not been reached, and is answered otherwise. An answer that allows VOICE starts the
greeting where it can be played and enters CLASSIFY, one that allows DATA and FAX enters CLASSIFY in silence, and one
that allows DATA alone or FAX alone enters that job's state where its areas are joined; ANSWER_DROP starts its drop
timer. -/
def Obligations.CallerIdentityWindow : Prop :=
  (∀ p : HeardTone,
    (signalBit? p = some true ↔ -4000 ≤ p.cdBm ∧ 1182000 ≤ p.mHz ∧ p.mHz ≤ 1218000) ∧
    (signalBit? p = some false ↔ -4000 ≤ p.cdBm ∧ 2167000 ≤ p.mHz ∧ p.mHz ≤ 2233000)) ∧
  (∀ (s : State) (i : LineId) (heard : List HeardTone), (s.line i).tone.cid.window = .open_ →
    (s.line i).tone.cid.cond = .hunting 0 → heard.length = 60 → (∀ p ∈ heard, signalBit? p = some true) →
    exec (.cidSynchronised i heard) s = .next (s.modLine i (fun l => { l with tone.cid.cond := .synchronised }))) ∧
  (∀ (s : State) (i : LineId) (c : CallRecord) (body msg : List Byte) (check : Byte) (heard : List HeardTone)
    (r : CidRecord), (s.line i).tone.cid.window = .open_ → (s.line i).tone.cid.cond = .synchronised →
    (s.line i).tone.cid.bytes = [] → body.length ≤ 255 → msg = 0x3A :: byte body.length :: (body ++ [check]) →
    heard.map signalBit? =
      (msg.flatMap (fun b => false :: (List.range 8).map (fun k => b.getLsbD k) ++ [true])).map some →
    r = cidMessage msg → (s.line i).call = some c → (s.line i).ring.closed = 0 →
    nextHolds (exec (.cidMessageEnd i heard) s) (fun t =>
      t = { s with lines := t.lines, clock := t.clock } ∧
      t.line i = { s.line i with
        call := some { c with cid := some r }, queue := (t.line i).queue
        tone := { (s.line i).tone with cid := { window := .closed, record := r } } } ∧
      ((s.line i).queue.entries = [] → (s.line i).profile.wants .callerId = true →
        (t.line i).queue.entries = [.callerId r]) ∧
      t.clock = (match r.date with
        | some d => if (s.line i).profile.cidSetsClock ∧ r.status = .complete then
            { s.clock with minute := d.hour * 60 + d.minute, isSet := true, elapsed := 0 } else s.clock
        | none => s.clock) ∧ othersSame i s t)) ∧
  (∀ bytes : List Byte, (bytes.map BitVec.toNat).sum % 256 ≠ 0 → cidMessage bytes = { status := .damaged }) ∧
  (∀ (fs : List (Byte × List Byte)) (body : List Byte) (check : Byte), (∀ f ∈ fs, f.2.length ≤ 255) →
    body = fs.flatMap (fun f => f.1 :: byte f.2.length :: f.2) →
    ((0x3A :: byte body.length :: (body ++ [check])).map BitVec.toNat).sum % 256 = 0 →
    cidMessage (0x3A :: byte body.length :: (body ++ [check])) =
      fs.foldl (fun r f => r.field f.1 f.2) { status := .complete }) ∧
  (∀ (fs : List (Byte × List Byte)) (body cs : List Byte) (code len check : Byte), (∀ f ∈ fs, f.2.length ≤ 255) →
    body = fs.flatMap (fun f => f.1 :: byte f.2.length :: f.2) ++ code :: len :: cs → cs.length < len.toNat →
    cidMessage (0x3A :: byte body.length :: (body ++ [check])) = { status := .damaged }) ∧
  (∀ (r : CidRecord) (cs : List Byte),
    r.field 0x22 cs = (if cs = [] then r else { r with number := some (cs.take 15) }) ∧
    r.field 0x23 cs = (if cs = [] then r else { r with name := some (cs.take 15) }) ∧
    r.field 0x24 cs = (if cs.head? = some 0x50 then { r with numberWithheld := some .priv }
      else if cs.head? = some 0x55 then { r with numberWithheld := some .unavailable } else r) ∧
    r.field 0x25 cs = (if cs.head? = some 0x50 then { r with nameWithheld := some .priv }
      else if cs.head? = some 0x55 then { r with nameWithheld := some .unavailable } else r) ∧
    (∀ c, c ∉ [0x21, 0x22, 0x23, 0x24, 0x25] → r.field c cs = r) ∧
    (cs.length ≠ 8 → r.field 0x21 cs = r) ∧ ((∃ b ∈ cs, b < 0x30 ∨ 0x39 < b) → r.field 0x21 cs = r)) ∧
  (∀ (r : CidRecord) (mo da ho mi : Nat), mo < 100 → da < 100 → ho < 100 → mi < 100 →
    r.field 0x21 ([mo / 10, mo % 10, da / 10, da % 10, ho / 10, ho % 10, mi / 10, mi % 10].map
      (fun x => byte (0x30 + x))) =
    if 1 ≤ mo ∧ mo ≤ 12 ∧ 1 ≤ da ∧ da ≤ 31 ∧ ho ≤ 23 ∧ mi ≤ 59 then { r with date := some ⟨mo, da, ho, mi⟩ } else r) ∧
  (∀ (s : State) (i : LineId) (d : Ms) (c : CallRecord) (copy : RoutingCopy), (s.line i).state = .alerting →
    (s.line i).tone.cid.window = .open_ → (s.line i).tone.cid.wait = some d → d ≤ s.now →
    (s.line i).tone.cid.bytes = [] → (s.line i).call = some c → c.routing = none → 1 ≤ (s.line i).ring.closed →
    (s.line i).override = .none → copy = s.route i (c.cadence.getD .pending) { status := .none } →
    (copy.action = .reject ∨ (s.line i).ring.burst.isSome = true ∨
      (copy.action = .answer ∧ (s.line i).ring.closed < copy.rings.getD 1)) →
    nextHolds (exec (.cidWaitExpiry i) s) (fun t =>
      t = { s with lines := t.lines } ∧ othersSame i s t ∧
      t.line i = { s.line i with
        call := some { c with cid := some { status := .none }, routing := some copy }
        tone := { (s.line i).tone with cid := { window := .closed, record := { status := .none } } }
        queue := (t.line i).queue } ∧
      ((s.line i).queue.entries = [] → (s.line i).profile.wants .routed = true →
        .routed copy.position copy.action copy.mask copy.mailbox ∈ (t.line i).queue.entries))) ∧
  (∀ (s : State) (i : LineId) (d : Ms) (c : CallRecord) (copy : RoutingCopy), (s.line i).state = .alerting →
    (s.line i).tone.cid.window = .open_ → (s.line i).tone.cid.wait = some d → d ≤ s.now →
    (s.line i).tone.cid.bytes = [] → (s.line i).call = some c → c.routing = none → 1 ≤ (s.line i).ring.closed →
    (s.line i).override = .none → copy = s.route i (c.cadence.getD .pending) { status := .none } →
    (s.line i).ring.burst = none → copy.action = .answerDrop → nextHolds (exec (.cidWaitExpiry i) s) (fun t =>
      t = { s with lines := t.lines } ∧ othersSame i s t ∧
      t.line i = { s.line i with
        call := some { c with cid := some { status := .none }, routing := some copy }
        state := .classify, relay := true, ring := {}, dropTimer := some (s.now + 1000)
        signals := (t.line i).signals, queue := (t.line i).queue, tone := (t.line i).tone
        carrier := (t.line i).carrier, loopTimer := (t.line i).loopTimer } ∧
      (t.line i).tone.cid = { window := .closed, record := { status := .none } } ∧
      ((s.line i).queue.entries = [] → (s.line i).profile.wants .routed = true →
        .routed copy.position copy.action copy.mask copy.mailbox ∈ (t.line i).queue.entries))) ∧
  (∀ (s : State) (i : LineId) (d : Ms) (c : CallRecord) (copy : RoutingCopy), (s.line i).state = .alerting →
    (s.line i).tone.cid.window = .open_ → (s.line i).tone.cid.wait = some d → d ≤ s.now →
    (s.line i).tone.cid.bytes = [] → (s.line i).call = some c → c.routing = none → 1 ≤ (s.line i).ring.closed →
    (s.line i).override = .none → copy = s.route i (c.cadence.getD .pending) { status := .none } →
    (s.line i).ring.burst = none → copy.action = .answer → copy.rings.getD 1 ≤ (s.line i).ring.closed →
    copy.mask = ⟨true, true, false⟩ → nextHolds (exec (.cidWaitExpiry i) s) (fun t =>
      t = { s with lines := t.lines } ∧ othersSame i s t ∧
      t.line i = { s.line i with
        call := some { c with cid := some { status := .none }, routing := some copy }
        state := .classify, relay := true, ring := {}
        classifyTimer := some (s.now + (s.line i).profile.classifyMs)
        signals := (t.line i).signals, queue := (t.line i).queue, tone := (t.line i).tone
        carrier := (t.line i).carrier, loopTimer := (t.line i).loopTimer } ∧
      (t.line i).tone.cid = { window := .closed, record := { status := .none } } ∧
      ((s.line i).queue.entries = [] → (s.line i).profile.wants .routed = true →
        .routed copy.position copy.action copy.mask copy.mailbox ∈ (t.line i).queue.entries))) ∧
  (∀ (s : State) (i : LineId) (d : Ms) (c : CallRecord) (copy : RoutingCopy) (id : Nat) (e : Entry),
      (s.line i).state = .alerting →
    (s.line i).tone.cid.window = .open_ → (s.line i).tone.cid.wait = some d → d ≤ s.now →
    (s.line i).tone.cid.bytes = [] → (s.line i).call = some c → c.routing = none → 1 ≤ (s.line i).ring.closed →
    (s.line i).override = .none → copy = s.route i (c.cadence.getD .pending) { status := .none } →
    (s.line i).ring.burst = none → copy.action = .answer → copy.rings.getD 1 ≤ (s.line i).ring.closed →
    copy.mask.voice = true → copy.greeting = some id → s.entry? id = some e → s.store.formatted = true →
    e.kind = .greeting → e.state ≠ .opened → s.hasArea i .stage = true →
    nextHolds (exec (.cidWaitExpiry i) s) (fun t =>
      t = { s with lines := t.lines, areas := t.areas, store := { s.store with dir := t.store.dir } } ∧
      othersSame i s t ∧ t.line i = { s.line i with
        call := some { c with cid := some { status := .none }, routing := some copy }
        state := .classify, relay := true, ring := {}
        classifyTimer := some (s.now + (s.line i).profile.classifyMs)
        voice := { mode := .auto, activity := .greeting, greeting := some id }, stage := .reading id 0 e.length
        signals := (t.line i).signals, queue := (t.line i).queue, tone := (t.line i).tone
        carrier := (t.line i).carrier, loopTimer := (t.line i).loopTimer } ∧
      t.entry? id = some { e with playing := e.playing.filter (· != i) ++ [i] } ∧
      (∀ m, m ≠ id → t.entry? m = s.entry? m) ∧ (∀ k, s.joined i .stage = some k → (t.area k).fifo = []) ∧
      (∀ j, s.joined i .stage ≠ some j → t.area j = s.area j))) ∧
  (∀ (s : State) (i : LineId) (d : Ms) (c : CallRecord) (copy : RoutingCopy), (s.line i).state = .alerting →
    (s.line i).tone.cid.window = .open_ → (s.line i).tone.cid.wait = some d → d ≤ s.now →
    (s.line i).tone.cid.bytes = [] → (s.line i).call = some c → c.routing = none → 1 ≤ (s.line i).ring.closed →
    (s.line i).override = .none → copy = s.route i (c.cadence.getD .pending) { status := .none } →
    (s.line i).ring.burst = none → copy.action = .answer → copy.rings.getD 1 ≤ (s.line i).ring.closed →
    copy.mask = ⟨false, true, false⟩ → s.incomingReady i (s.line i).copies .fax = true → s.faxLadder ≠ [] →
    nextHolds (exec (.cidWaitExpiry i) s) (fun t =>
      t = { s with lines := t.lines, areas := t.areas } ∧ othersSame i s t ∧
      (t.line i).state = .fax ∧ (t.line i).relay = true ∧ (t.line i).job = .fax ∧
      (t.line i).call = some { c with
        cid := some { status := .none }, routing := some copy, classification := some (.fax, .only), job := .fax } ∧
      (t.line i).fax.phase = .establish ∧ (t.line i).fax.role = some .receiver ∧
      (t.line i).profile = (s.line i).profile)) ∧
  (∀ (s : State) (i : LineId) (d : Ms) (c : CallRecord) (copy : RoutingCopy), (s.line i).state = .alerting →
    (s.line i).tone.cid.window = .open_ → (s.line i).tone.cid.wait = some d → d ≤ s.now →
    (s.line i).tone.cid.bytes = [] → (s.line i).call = some c → c.routing = none → 1 ≤ (s.line i).ring.closed →
    (s.line i).override = .none → copy = s.route i (c.cadence.getD .pending) { status := .none } →
    (s.line i).ring.burst = none → copy.action = .answer → copy.rings.getD 1 ≤ (s.line i).ring.closed →
    copy.mask = ⟨true, false, false⟩ → s.incomingReady i (s.line i).copies .data = true → s.dataLadder ≠ [] →
    nextHolds (exec (.cidWaitExpiry i) s) (fun t =>
      t = { s with lines := t.lines, areas := t.areas } ∧ othersSame i s t ∧
      (t.line i).state = .data ∧ (t.line i).relay = true ∧ (t.line i).job = .data ∧
      (t.line i).call = some { c with
        cid := some { status := .none }, routing := some copy, classification := some (.data, .only), job := .data } ∧
      (t.line i).link.phase = .answerTone ∧ (t.line i).link.role = some .answer ∧
      (t.line i).link.toneEnd = some (s.now + 3000) ∧ (t.line i).profile = (s.line i).profile))

/-- The end of the classification time takes the default of the mask, a result enters its job or, where its areas are
not joined, releases the call with LOCAL, and an ANSWER_DROP call is released with REJECTED. A DATA_ANSWER tone
confirmed in PROGRESS answers a call of any job, which enters its state. -/
def Obligations.ClassificationEnds : Prop :=
  (∀ (s : State) (i : LineId) (d : Ms) (c : RoutingCopy), (s.line i).state = .classify →
    (s.line i).routing = some c → c.action ≠ .answerDrop → (s.line i).classifyTimer = some d → d ≤ s.now →
    exec (.classifyTimeExpiry i) s = .next (s.classResult i (if c.mask.voice then .voice else if c.mask.fax then .fax
      else if c.mask.data then .data else .none) .timeout)) ∧
  (∀ (s : State) (i : LineId) (j : Job) (b : Basis), s.incomingReady i (s.line i).copies j = false →
    s.classResult i j b = (((s.modLine i (fun l =>
      { l.modCall (fun c => { c with classification := some (j, b), job := j }) with
        job := j, classifyTimer := none })).notifyLine i (.classified j b)).release i .locally)) ∧
  (∀ (s : State) (i : LineId) (d : Ms), (s.line i).state = .classify → (s.line i).dropTimer = some d → d ≤ s.now →
    exec (.answerDropExpiry i) s = .next (s.release i .rejected)) ∧
  (∀ (s : State) (i : LineId) (b : Basis), (s.line i).state = .classify → (s.line i).call.isSome = true →
    s.incomingReady i (s.line i).copies .data = true → s.dataLadder ≠ [] →
    ((s.classResult i .data b).line i).state = .data ∧ ((s.classResult i .data b).line i).job = .data ∧
    ((s.classResult i .data b).line i).relay = true ∧ ((s.classResult i .data b).line i).voice = {} ∧
    ((s.classResult i .data b).line i).link.phase = .answerTone ∧
    ((s.classResult i .data b).line i).link.role = some .answer ∧
    ((s.classResult i .data b).line i).link.toneEnd = some (s.now + 3000) ∧
    ((s.classResult i .data b).line i).tone.gen = toneRequest s.toneTable s.now .dataAnswer 3000 ∧
    ((s.classResult i .data b).line i).call.map (fun c => (c.classification, c.job)) = some (some (.data, b), .data) ∧
    (s.classResult i .data b).dram = s.dram) ∧
  (∀ (s : State) (i : LineId) (b : Basis), (s.line i).state = .classify → (s.line i).call.isSome = true →
    s.incomingReady i (s.line i).copies .fax = true → s.faxLadder ≠ [] →
    ((s.classResult i .fax b).line i).state = .fax ∧ ((s.classResult i .fax b).line i).job = .fax ∧
    ((s.classResult i .fax b).line i).relay = true ∧ ((s.classResult i .fax b).line i).voice = {} ∧
    ((s.classResult i .fax b).line i).fax.phase = .establish ∧
    ((s.classResult i .fax b).line i).fax.role = some .receiver ∧
    ((s.classResult i .fax b).line i).fax.toneEnd = some (s.now + 3000) ∧
    ((s.classResult i .fax b).line i).tone.gen = toneRequest s.toneTable s.now .faxAnswer 3000 ∧
    ((s.classResult i .fax b).line i).call.map (fun c => (c.classification, c.job)) = some (some (.fax, b), .fax) ∧
    (s.classResult i .fax b).dram = s.dram) ∧
  (∀ (s : State) (i : LineId) (b : Basis), (s.line i).state = .classify → (s.line i).call.isSome = true →
    s.incomingReady i (s.line i).copies .voice = true → (s.line i).voice.barge = false →
    (s.line i).voice.activity = .none → 0 < (s.line i).profile.recordToneMs →
    ((s.classResult i .voice b).line i).state = .voice ∧ ((s.classResult i .voice b).line i).job = .voice ∧
    ((s.classResult i .voice b).line i).relay = true ∧
    ((s.classResult i .voice b).line i).voice.activity = .recordTone ∧
    ((s.classResult i .voice b).line i).voice.toneEnd = some (s.now + (s.line i).profile.recordToneMs) ∧
    ((s.classResult i .voice b).line i).call.map (fun c => (c.classification, c.job)) =
      some (some (.voice, b), .voice) ∧ (s.classResult i .voice b).dram = s.dram) ∧
  (∀ (s : State) (i : LineId) (e : ToneEntry) (m : Matcher) (b : Ms), (s.line i).state = .progress →
    (s.line i).tone.matchers = [m] → s.toneTable = [e] → m.id = e.id → e.cls = .dataAnswer → e.continuous = true →
    m.phase = .on b → b + (e.segment m.seg).onMin ≤ s.now → (s.line i).voice.activity = .none →
    (s.line i).job ≠ .none → s.dataLadder ≠ [] → s.faxLadder ≠ [] →
    nextHolds (exec (.continuousToneConfirm i e.id) s) (fun t =>
      t = { s with lines := t.lines } ∧
      (t.line i).relay = true ∧ (t.line i).answerWait = none ∧ (t.line i).watch = none ∧
      (t.line i).job = (s.line i).job ∧ (t.line i).profile = (s.line i).profile ∧
      ((s.line i).job = .data → (t.line i).state = .data ∧ (t.line i).link.phase = .exchange ∧
        (t.line i).link.role = some .originate ∧ (t.line i).link.exchangeTimer = some (s.now + 6000)) ∧
      ((s.line i).job = .fax → (t.line i).state = .fax ∧ (t.line i).fax.phase = .establish ∧
        (t.line i).fax.role = some .sender ∧ (t.line i).fax.source = (s.line i).faxSource ∧
        (t.line i).fax.toneEnd = some (s.now + 15000)) ∧
      ((s.line i).job = .voice → (t.line i).state = .voice ∧ (t.line i).voice = { mode := .host }) ∧
      othersSame i s t)) ∧
  (∀ (c : ToneClass) (j : Job), c.answers j = true ↔
    (c = .dataAnswer ∧ j ≠ .none) ∨ (c = .faxAnswer ∧ (j = .fax ∨ j = .voice)))

/-- The routing table: the entry at a position is dropped with the later ones moved down, and the table is cleared; a
position not below the count is not found and leaves the table, and another line value than 0x0E is unknown. -/
def Obligations.RoutingTableDirectives : Prop :=
  (∀ (s : State) (d : Directive) (p : Nat), s.takes → d.line = 0x0E → (argNum 1).read d.args = .good p →
    exec (.routeDrop d) s = .next (if p < s.routes.length then
      ({ s with routes := s.routes.take p ++ s.routes.drop (p + 1) } : State).reply ⟨0x29, d.tag, .ok, []⟩
      else s.reply ⟨0x29, d.tag, .refusedNotFound, []⟩)) ∧
  (∀ (s : State) (d : Directive), s.takes → d.line = 0x0E → d.args = [] →
    exec (.routeClear d) s = .next (({ s with routes := [] } : State).reply ⟨0x2A, d.tag, .ok, []⟩)) ∧
  (∀ (s : State) (d : Directive), s.takes → d.line ≠ 0x0E →
    exec (.routeDrop d) s = .next (s.reply ⟨0x29, d.tag, .refusedUnknown, []⟩) ∧
    exec (.routeClear d) s = .next (s.reply ⟨0x2A, d.tag, .refusedUnknown, []⟩))

/-- The routing of a call: the first entry in table order that matches gives its fields, the line's defaults where
none does, and REJECT with no rings where answer_enable is no. An entry matches where each of its four conditions
holds: the line is in its mask, the ring is of its class, the number is of its form, and its time window, where it has
one, holds. ROUTE_PUT inserts an entry at its position, the later ones moving up, ROUTE_READ gives the entry at a
position with the table's count, and ROUTE_TEST answers with the routing of the call it describes. That a class
ROUTE_TEST names matches its pattern number whatever is loaded is the model's choice (notes/assumptions/25.md), and so
is the coding of a reply's bytes where R172 leaves it open (notes/assumptions/5.md). -/
def Obligations.RoutingTakesFirstMatch : Prop :=
  (∀ (s : State) (i : LineId) (cls : CadenceClass) (r : CidRecord) (n : Nat) (e : RouteEntry),
    (s.line i).profile.answerEnable = true → s.routes[n]? = some e → e.matches_ i cls r s.clock = true →
    (∀ m e', m < n → s.routes[m]? = some e' → e'.matches_ i cls r s.clock = false) →
    s.route i cls r = ⟨some n, e.action, e.rings, e.mask, e.mailbox, e.greeting, .none⟩) ∧
  (∀ (s : State) (i : LineId) (cls : CadenceClass) (r : CidRecord),
    (s.line i).profile.answerEnable = true → (∀ e ∈ s.routes, e.matches_ i cls r s.clock = false) →
    s.route i cls r = ⟨none, .answer, some (s.line i).profile.defaultRings, (s.line i).profile.defaultMask,
      (s.line i).profile.defaultMailbox, none, .none⟩) ∧
  (∀ (s : State) (i : LineId) (cls : CadenceClass) (r : CidRecord), (s.line i).profile.answerEnable = false →
    (s.route i cls r).action = .reject ∧ (s.route i cls r).rings = none) ∧
  (∀ (c : Clock) (a b : Nat), c.isSet = true → (windowHolds c (some (a, b)) = true ↔
    ((a ≤ b ∧ a ≤ c.minute ∧ c.minute ≤ b) ∨ (b < a ∧ (a ≤ c.minute ∨ c.minute ≤ b))))) ∧
  (∀ (c : Clock) (a b : Nat), c.isSet = false → windowHolds c (some (a, b)) = false) ∧
  (∀ (s : State) (d : Directive) (a : RouteArgs) (e : RouteEntry), s.takes → d.line = 0x0E →
    argRoute.read d.args = .good a → a.entry = some e → s.routes.length < 24 → a.position ≤ s.routes.length →
    exec (.routePut d) s = .next (({ s with
      routes := s.routes.take a.position ++ e :: s.routes.drop a.position } : State).reply ⟨0x28, d.tag, .ok, []⟩)) ∧
  (∀ (s : State) (d : Directive) (a : RouteArgs) (e : RouteEntry), s.takes → d.line = 0x0E →
    argRoute.read d.args = .good a → a.entry = some e → 24 ≤ s.routes.length →
    exec (.routePut d) s = .next (s.reply ⟨0x28, d.tag, .refusedFull, []⟩)) ∧
  (∀ (s : State) (i : LineId) (d : Directive) (c : CadenceClass) (a : CidArgs) (r : CidRecord), s.takes →
    lineOf? d.line = some i → argRouteTest.read d.args = .good (some c, a) → a.record = some r →
    exec (.routeTest d) s = .next (s.reply ⟨0x2F, d.tag, .ok, (s.route i c r).encodeTest⟩)) ∧
  (∀ (s : State) (d : Directive) (a : RouteArgs), s.takes → d.line = 0x0E → argRoute.read d.args = .good a →
    (a.entry = none ∨ (s.routes.length < 24 ∧ s.routes.length < a.position)) →
    exec (.routePut d) s = .next (s.reply ⟨0x28, d.tag, .refusedArg, []⟩)) ∧
  (∀ (s : State) (d : Directive) (p : Nat) (e : RouteEntry), s.takes → d.line = 0x0E →
    (argNum 1).read d.args = .good p → s.routes[p]? = some e → exec (.routeRead d) s =
      .next (s.reply ⟨0x2B, d.tag, .ok, e.encode ++ [byte s.routes.length]⟩)) ∧
  (∀ (s : State) (d : Directive) (p : Nat), s.takes → d.line = 0x0E → (argNum 1).read d.args = .good p →
    s.routes.length ≤ p → exec (.routeRead d) s =
      .next (s.reply ⟨0x2B, d.tag, .refusedNotFound, [byte s.routes.length]⟩)) ∧
  (∀ (s : State) (d : Directive), s.takes → d.line ≠ 0x0E →
    exec (.routeRead d) s = .next (s.reply ⟨0x2B, d.tag, .refusedUnknown, []⟩)) ∧
  (∀ (e : RouteEntry) (i : LineId) (cls : CadenceClass) (r : CidRecord) (c : Clock),
    e.matches_ i cls r c = true ↔ e.lines[i] = true ∧
      (e.ring = .any ∨ (∃ n, e.ring = .pattern n ∧ cls = .pattern n) ∨ (e.ring = .unmatched ∧ cls = .unmatched)) ∧
      (e.number = .any ∨ (e.number = .withheld ∧ r.status = .complete ∧ r.numberWithheld ≠ none) ∨
        (e.number = .none ∧ r.status ≠ .complete) ∨
        (∃ ds rest, e.number = .digits ds ∧ r.status = .complete ∧ r.number = some (ds ++ rest))) ∧
      (e.window = none ∨ (c.isSet = true ∧ ∃ a b, e.window = some (a, b) ∧
        ((a ≤ b ∧ a ≤ c.minute ∧ c.minute ≤ b) ∨ (b < a ∧ (a ≤ c.minute ∨ c.minute ≤ b))))))

/-- The clock is set whole, and the areas are defined, joined, flushed, unjoined and read. Bytes are added at the tail
as far as they fit and taken from the head, never past a page mark; at its high mark an area goes to STOP and at its
low mark back to GO. The bytes a reply carries are coded by R172 and, where it leaves the coding open, by the model's
choice (notes/assumptions/5.md). -/
def Obligations.ClockAndAreaDirectives : Prop :=
  (∀ (s : State) (d : Directive) (m day : Nat), s.takes → d.line = 0x0E → argClock.read d.args = .good (m, day) →
    exec (.setClock d) s = .next (if m ≤ 1439 then
      ({ s with clock := ⟨m, day, true, 0⟩ } : State).reply ⟨0x2E, d.tag, .ok, []⟩
      else s.reply ⟨0x2E, d.tag, .refusedArg, []⟩)) ∧
  (∀ (s : State) (d : Directive) (k : AreaId) (st n : Nat), s.takes → d.line = 0x0E →
    argDefine.read d.args = .good ⟨k.val, st, n, none, none⟩ → 1 ≤ n → st + n ≤ 96 → s.extentFree k st n = true →
    (s.area k).join = none → (s.area k).flow = .go →
    exec (.areaDefine d) s = .next ((s.setArea k { s.area k with
      isDefined := true, start := st, units := n, high := n * 192, low := n * 64, content := .none, fifo := []
      marks := [] }).reply ⟨0x30, d.tag, .ok, []⟩)) ∧
  (∀ (s : State) (d : Directive) (k : AreaId) (st n : Nat), s.takes → d.line = 0x0E →
    argDefine.read d.args = .good ⟨k.val, st, n, none, none⟩ → 1 ≤ n → st + n ≤ 96 → s.extentFree k st n = false →
    exec (.areaDefine d) s = .next (s.reply ⟨0x30, d.tag, .refusedArg, []⟩)) ∧
  (∀ (s : State) (i : LineId) (d : Directive) (k : AreaId) (n : Nat) (p : Purpose), s.takes →
    lineOf? d.line = some i → argPair.read d.args = .good (k.val, n) → purpose? n = some p →
    (s.area k).isDefined = true → p.minUnits ≤ (s.area k).units → (s.area k).join = none → s.joined i p = none →
    (s.line i).job = .none → exec (.areaJoin d) s = .next ((s.setArea k { s.area k with
      join := some (i, p), content := .none, fifo := [], marks := [], flow := .go, inUse := none }).reply
      ⟨0x31, d.tag, .ok, []⟩)) ∧
  (∀ (s : State) (d : Directive) (k : AreaId), s.takes → d.line = 0x0E → (argNum 1).read d.args = .good k.val →
    (s.area k).isDefined = true → (s.area k).inUse = none →
    repliesWith (exec (.areaFlush d) s) s ⟨0x33, d.tag, .ok, []⟩ (fun t =>
      t = { s with areas := t.areas, lines := t.lines } ∧
      t.area k = { s.area k with
      fifo := [], marks := [], flow := .go } ∧ ∀ j, j ≠ k → t.area j = s.area j)) ∧
  (∀ (s : State) (d : Directive) (k : AreaId), s.takes → d.line = 0x0E → (argNum 1).read d.args = .good k.val →
    (s.area k).isDefined = true → (s.area k).inUse = none → (s.area k).join.isSome = true →
    repliesWith (exec (.areaUnjoin d) s) s ⟨0x32, d.tag, .ok, []⟩ (fun t =>
      t = { s with areas := t.areas, lines := t.lines } ∧
      t.area k = { s.area k with
      fifo := [], marks := [], flow := .go, content := .none, join := none } ∧ ∀ j, j ≠ k → t.area j = s.area j)) ∧
  (∀ (s : State) (d : Directive) (k : AreaId), s.takes → d.line = 0x0E → (argNum 1).read d.args = .good k.val →
    exec (.areaRead d) s = .next (s.reply ⟨0x34, d.tag, .ok, (s.area k).encode⟩)) ∧
  (∀ (s : State) (k : AreaId) (bs : List Byte),
    (s.append k bs).2 = min bs.length (s.area k).room ∧
    ((s.append k bs).1.area k) = { s.area k with
      fifo := (s.area k).fifo ++ (bs.take (s.area k).room).map (fun b => (b, s.now))
      flow := if bs.take (s.area k).room ≠ [] ∧ (s.area k).flow = .go ∧
          (s.area k).high ≤ (s.area k).fifo.length + min bs.length (s.area k).room then .stop else (s.area k).flow } ∧
    (∀ j, j ≠ k → (s.append k bs).1.area j = s.area j)) ∧
  (∀ (s : State) (k : AreaId) (n m : Nat), m = min n (((s.area k).marks.head?.map Prod.fst).getD n) →
    m ≤ (s.area k).fifo.length → 0 < m → (s.remove k n).1 = ((s.area k).fifo.take m).map Prod.fst ∧
    (s.remove k n).2.area k = { s.area k with
      fifo := (s.area k).fifo.drop m, marks := (s.area k).marks.map (fun q => (q.1 - m, q.2))
      flow := if (s.area k).flow = .stop ∧ (s.area k).fifo.length - m ≤ (s.area k).low then .go
        else (s.area k).flow } ∧
    ∀ j, j ≠ k → (s.remove k n).2.area j = s.area j) ∧
  (∀ (s : State) (i : LineId) (p : Purpose) (k : AreaId) (f : FlowState), (s.area k).join = some (i, p) →
    (s.area k).flow ≠ f → (s.line i).profile.wants .flow = true → (s.line i).queue.entries = [] →
    s.setFlow k f = (s.setArea k { s.area k with flow := f }).modLine i (fun l =>
      { l with queue := { l.queue with entries := [.flow [(k, f)]] } }))

/-- RATE_REQUEST in STEADY renegotiates to the step clamped into floor and ceiling, and a trial only answers;
QUALITY_READ reports, and LINE_STATUS reports the line's state, job, direction, step, quality, noise floor, the counts
of its areas and its signal record, and clears the change flags. FAX_DOCUMENT gives a host sender with no page begun a
stored document, whose first page begins at once in PAGE; a line that is no host sender, a call in CLOSE, an
unformatted store, an entry that is not a FAX entry in NEW or KEPT, and a line without a STAGE area are refused in
that order. The bytes a reply carries are coded by R172 and, where it leaves the coding open, by the model's choice
(notes/assumptions/5.md). -/
def Obligations.RateAndStatusDirectives : Prop :=
  (∀ (s : State) (i : LineId) (d : Directive) (n : Nat), s.takes → lineOf? d.line = some i →
    argPair.read d.args = .good (n, 0) → (s.line i).state = .data → (s.line i).quality.rc = .steady →
    (s.line i).link.txNow = none → (s.line i).link.rateWait = [] →
    repliesWith (exec (.rateRequest d) s) s ⟨0x41, d.tag, .started, [byte ((s.line i).quality.clampToBounds n)]⟩
      (fun t =>
      t = { s with lines := t.lines } ∧
      t.line i = { s.line i with quality := (t.line i).quality, link := (t.line i).link } ∧
      (t.line i).quality.rc = .renegotiating ∧
        (t.line i).quality.target = some ((s.line i).quality.clampToBounds n) ∧
        (t.line i).quality.oldStep = (s.line i).quality.step ∧ (t.line i).quality.cause = some .host ∧
        (t.line i).quality.rateOkWait = some (s.now + 2000) ∧
        (t.line i).link.txNow = some (.rate ((s.line i).quality.clampToBounds n)) ∧ othersSame i s t)) ∧
  (∀ (s : State) (i : LineId) (d : Directive) (n : Nat), s.takes → lineOf? d.line = some i →
    argPair.read d.args = .good (n, 1) → (s.line i).state = .data → (s.line i).quality.rc = .steady →
    exec (.rateRequestTrial d) s = .next (s.reply ⟨0x41, d.tag, .ok, [byte ((s.line i).quality.clampToBounds n),
      byte (fallBackTarget s.dataLadder ((s.line i).quality.floor.getD 0) ((s.line i).quality.step.getD 0)
        (s.line i).quality.q)]⟩)) ∧
  (∀ (s : State) (i : LineId) (d : Directive), s.takes → lineOf? d.line = some i → d.args = [] →
    exec (.qualityRead d) s = .next (s.reply ⟨0x42, d.tag, .ok, [byte (s.line i).quality.lastQi] ++
      encNum 2 (s.line i).quality.a ++ [byte ((s.line i).quality.a / 8)] ++ encSigned (s.line i).tone.nf ++
      encByteOpt (s.line i).quality.step ++ (s.line i).quality.encodeState⟩)) ∧
  (∀ (s : State) (i : LineId) (d : Directive), s.takes → lineOf? d.line = some i → d.args = [] →
    repliesWith (exec (.lineStatus d) s) s ⟨0x02, d.tag, .ok,
      [byte (s.line i).state.place, byte (s.line i).job.place, byte (s.line i).direction.place] ++
      encByteOpt (s.line i).quality.step ++ [byte ((s.line i).quality.a / 8)] ++ encSigned (s.line i).tone.nf ++
      encOpt (encNum 2) ((s.joined i .tx).map (fun k => (s.area k).fifo.length)) ++
      encOpt (encNum 2) ((s.joined i .rx).map (fun k => (s.area k).fifo.length)) ++
      encOpt (encNum 2) ((s.joined i .stage).map (fun k => (s.area k).fifo.length)) ++
      (s.line i).signals.encode⟩ (fun t =>
      t = { s with lines := t.lines } ∧
      t.line i = { s.line i with signals := (t.line i).signals, queue := (t.line i).queue } ∧
      (t.line i).signals = { (s.line i).signals with
        fRing := false, fLoop := false, fCarrier := false, fHook := false, trailing := false } ∧
      (t.line i).queue = { (s.line i).queue with
        entries := (s.line i).queue.entries.filter (fun n => decide (n.kind ≠ .signals)) } ∧
      othersSame i s t)) ∧
  (∀ (s : State) (i : LineId) (d : Directive) (id : Nat), s.takes → lineOf? d.line = some i →
    (argNum 2).read d.args = .good id → (s.line i).hostSender = true → (s.line i).fax.begun = false →
    (s.line i).fax.phase ≠ .close → (s.line i).fax.phase ≠ .page → s.store.formatted = true → s.sendable id = true →
    s.hasArea i .stage = true → repliesWith (exec (.faxDocument d) s) s ⟨0x50, d.tag, .ok, []⟩ (fun t =>
      t = { s with lines := t.lines, areas := t.areas, store := t.store } ∧
      t.line i = { s.line i with
        faxSource := (t.line i).faxSource, fax := (t.line i).fax, queue := (t.line i).queue } ∧
      (t.line i).fax.source = some (.store id) ∧ (t.line i).faxSource = some (.store id) ∧
      (t.line i).fax.docPos = 0 ∧ (t.line i).fax.phase = (s.line i).fax.phase ∧
      (∀ e, t.entry? id = some e → i ∈ e.faxing) ∧ othersSame i s t)) ∧
  (∀ (s : State) (i : LineId) (d : Directive) (id : Nat), s.takes → lineOf? d.line = some i →
    (argNum 2).read d.args = .good id → (s.line i).hostSender = true → (s.line i).fax.begun = true →
    exec (.faxDocument d) s = .next (s.reply ⟨0x50, d.tag, .refusedBusy, []⟩)) ∧
  (∀ (s : State) (i : LineId) (d : Directive) (id : Nat) (e : Entry) (p : PageRecord) (k : AreaId), s.takes →
    lineOf? d.line = some i → (argNum 2).read d.args = .good id → (s.line i).hostSender = true →
    (s.line i).fax.begun = false → (s.line i).fax.phase = .page → s.store.formatted = true →
    s.sendable id = true → s.entry? id = some e → e.pages[0]? = some p → s.joined i .stage = some k →
    repliesWith (exec (.faxDocument d) s) s ⟨0x50, d.tag, .ok, []⟩ (fun t =>
      t = { s with lines := t.lines, areas := t.areas, store := { s.store with dir := t.store.dir } } ∧
      t.line i = { s.line i with
        faxSource := some (.store id), fax := (t.line i).fax, queue := (t.line i).queue
        stage := .reading id p.start (p.start + p.length) } ∧
      (t.line i).fax.source = some (.store id) ∧ (t.line i).fax.docPos = 0 ∧ (t.line i).fax.phase = .page ∧
      (t.line i).fax.begun = true ∧ (t.line i).fax.pageNo = min 255 ((s.line i).fax.pageNo + 1) ∧
      (t.line i).fax.fill = none ∧ (t.area k).fifo = [] ∧ (t.area k).inUse = some i ∧
      (∀ j, j ≠ k → t.area j = s.area j) ∧ t.entry? id = some { e with
        faxing := e.faxing.filter (· != i) ++ [i] } ∧ othersSame i s t)) ∧
  (∀ (s : State) (i : LineId) (d : Directive) (id : Nat), s.takes → lineOf? d.line = some i →
    (argNum 2).read d.args = .good id → (s.line i).hostSender = false →
    exec (.faxDocument d) s = .next (s.reply ⟨0x50, d.tag, .refusedState, []⟩)) ∧
  (∀ (s : State) (i : LineId) (d : Directive) (id : Nat), s.takes → lineOf? d.line = some i →
    (argNum 2).read d.args = .good id → (s.line i).hostSender = true → (s.line i).fax.phase = .close →
    exec (.faxDocument d) s = .next (s.reply ⟨0x50, d.tag, .refusedBusy, []⟩)) ∧
  (∀ (s : State) (i : LineId) (d : Directive) (id : Nat), s.takes → lineOf? d.line = some i →
    (argNum 2).read d.args = .good id → (s.line i).hostSender = true → (s.line i).fax.begun = false →
    (s.line i).fax.phase ≠ .close → s.store.formatted = false →
    exec (.faxDocument d) s = .next (s.reply ⟨0x50, d.tag, .refusedStore, []⟩)) ∧
  (∀ (s : State) (i : LineId) (d : Directive) (id : Nat), s.takes → lineOf? d.line = some i →
    (argNum 2).read d.args = .good id → (s.line i).hostSender = true → (s.line i).fax.begun = false →
    (s.line i).fax.phase ≠ .close → s.store.formatted = true → s.sendable id = false →
    exec (.faxDocument d) s = .next (s.reply ⟨0x50, d.tag, .refusedNotFound, []⟩)) ∧
  (∀ (s : State) (i : LineId) (d : Directive) (id : Nat), s.takes → lineOf? d.line = some i →
    (argNum 2).read d.args = .good id → (s.line i).hostSender = true → (s.line i).fax.begun = false →
    (s.line i).fax.phase ≠ .close → s.store.formatted = true → s.sendable id = true →
    s.hasArea i .stage = false → exec (.faxDocument d) s = .next (s.reply ⟨0x50, d.tag, .refusedArea, []⟩)) ∧
  (∀ (s : State) (d : Directive), s.takes → (d.line = 0x0E ∨ d.line = 0x0F) →
    exec (.faxDocument d) s = .next (s.reply ⟨0x50, d.tag, .refusedUnknown, []⟩) ∧
    exec (.lineStatus d) s = .next (s.reply ⟨0x02, d.tag, .refusedUnknown, []⟩)) ∧
  (∀ (s : State) (id : Nat), s.sendable id = true ↔
    ∃ e, s.entry? id = some e ∧ e.kind = .fax ∧ (e.state = .new ∨ e.state = .kept))

/-- STORE_FORMAT lays the store out with every message block free and an empty directory; STORE_STATUS, MSG_LIST and
MSG_INFO report and change nothing; an UNFORMATTED store refuses. The bytes a reply carries are coded by R172 and,
where it leaves the coding open, by the model's choice (notes/assumptions/5.md). -/
def Obligations.StoreFormatAndReports : Prop :=
  (∀ (s : State) (d : Directive) (mib g : Nat), s.takes → d.line = 0x0E →
    argFormat.read d.args = .good (mib, some g) → sizeLegal mib = true → 1 ≤ g → g ≤ 64 → s.store.inUse = false →
    exec (.storeFormat d) s = .next (({ s with store := {
      formatted := true, size := some mib, guard := g, free := List.range (messageBlocks mib) } } : State).reply
      ⟨0x60, d.tag, .ok, []⟩)) ∧
  (messageBlocks 2 = 2028 ∧ messageBlocks 4 = 4072 ∧ messageBlocks 8 = 8160 ∧ messageBlocks 16 = 16336) ∧
  (∀ (s : State) (d : Directive) (mib g : Nat), s.takes → d.line = 0x0E →
    argFormat.read d.args = .good (mib, some g) → sizeLegal mib = true → s.store.inUse = true →
    exec (.storeFormat d) s = .next (s.reply ⟨0x60, d.tag, .refusedBusy, []⟩)) ∧
  (∀ (s : State) (d : Directive), s.takes → d.line = 0x0E → d.args = [] →
    exec (.storeStatus d) s = .next (s.reply ⟨0x61, d.tag, .ok, encBool s.store.formatted ++
      encByteOpt s.store.size ++ encNum 2 s.store.m ++ encNum 2 s.store.free.length ++ [byte s.store.guard] ++
      encNum 2 s.store.dir.length ++ s.store.transfer.encode⟩)) ∧
  (∀ (s : State) (d : Directive) (mb : Option Nat) (f start : Nat) (st : Option MsgState), s.takes → d.line = 0x0E →
    argList.read d.args = .good (mb, f, start) → stateFilter? f = some st → (∀ m, mb = some m → m ≤ 15) →
    s.store.formatted = true → exec (.msgList d) s = .next (s.reply ⟨0x62, d.tag, .ok,
      encList encSummary (s.listed mb st start) ++ nextIndex (s.listed mb st start)⟩)) ∧
  (∀ (s : State) (d : Directive) (id : Nat) (e : Entry), s.takes → d.line = 0x0E →
    (argNum 2).read d.args = .good id → s.store.formatted = true → s.entry? id = some e →
    exec (.msgInfo d) s = .next (s.reply ⟨0x63, d.tag, .ok, e.encode⟩)) ∧
  (∀ (s : State) (d : Directive) (id : Nat), s.takes → d.line = 0x0E → (argNum 2).read d.args = .good id →
    s.store.formatted = false → exec (.msgInfo d) s = .next (s.reply ⟨0x63, d.tag, .refusedStore, []⟩))

/-- MSG_MARK changes one entry's state; MSG_DELETE frees its chain at the tail of the free chain and drops the entry;
uploads, downloads and TRANSFER_STOP set the transfer. A freeing is taken after the block requests that wait (R144;
notes/assumptions/24.md): it is said of the state in which they have been answered. -/
def Obligations.MessageDirectives : Prop :=
  (∀ (s : State) (d : Directive) (id n : Nat) (st : MsgState) (e : Entry), s.takes → d.line = 0x0E →
    argMark.read d.args = .good (id, n) → markState? n = some st → s.store.formatted = true →
    s.entry? id = some e → e.state ≠ .opened → exec (.msgMark d) s =
      .next ((s.modEntry id (fun e => { e with state := st })).reply ⟨0x65, d.tag, .ok, []⟩)) ∧
  (∀ (s : State) (d : Directive) (id : Nat) (e e' : Entry), s.takes → d.line = 0x0E →
    (argNum 2).read d.args = .good id → s.store.formatted = true → s.entry? id = some e → e.state ≠ .opened →
    e.marked = false → s.serveAll.entry? id = some e' → exec (.msgDelete d) s = .next (({ s.serveAll with
      store.free := s.serveAll.store.free ++ e'.chain
      store.dir := s.serveAll.store.dir.filter (fun x => x.id != id) } : State).reply ⟨0x64, d.tag, .ok, []⟩)) ∧
  (∀ (s : State) (d : Directive) (id : Nat) (e : Entry), s.takes → d.line = 0x0E →
    (argNum 2).read d.args = .good id → s.store.formatted = true → s.entry? id = some e →
    (e.state = .opened ∨ e.marked = true) →
    exec (.msgDelete d) s = .next (s.reply ⟨0x64, d.tag, .refusedBusy, []⟩)) ∧
  (∀ (s : State) (d : Directive) (id o : Nat) (e : Entry), s.takes → d.line = 0x0E →
    argUpload.read d.args = .good (id, o) → s.store.formatted = true → s.store.transfer = .none →
    s.entry? id = some e → e.state ≠ .opened → o ≤ e.length →
    repliesWith (exec (.msgUpload d) s) s ⟨0x66, d.tag, .started, []⟩ (fun t =>
      t = { s with store := t.store } ∧
      t.store.transfer = .upload id o ∧ (t.entry? id).map Entry.uploading = some true ∧
      t.store.free = s.store.free ∧ t.lines = s.lines)) ∧
  (∀ (s : State) (d : Directive) (k mb bits : Nat) (kind : MsgKind), s.takes → d.line = 0x0E →
    argDownload.read d.args = .good (k, mb, bits) → soundKind? k = some kind → mb ≤ 15 → 2 ≤ bits → bits ≤ 4 →
    s.store.formatted = true → s.store.transfer = .none → s.store.dir.length < 256 →
    s.store.guard < s.store.free.length → s.holdsOpen none = false → nextHolds (exec (.msgDownload d) s) (fun t =>
      t = { s with store := t.store, replies := t.replies } ∧
      ∃ e, t.store.dir = s.store.dir ++ [e] ∧ e.kind = kind ∧ e.state = .opened ∧ e.mailbox = mb ∧
        e.origin = none ∧ e.bits = some bits ∧ e.length = 0 ∧ e.chain = [] ∧ t.store.transfer = .download e.id ∧
        t.replies = s.replies ++ [⟨0x67, d.tag, .started, encNum 2 e.id⟩] ∧ t.lines = s.lines)) ∧
  (∀ (s : State) (d : Directive) (id pos : Nat), s.takes → d.line = 0x0E → d.args = [] → s.store.formatted = true →
    s.store.transfer = .upload id pos → exec (.transferStop d) s =
      .next (({ s with store.transfer := .ending id } : State).reply ⟨0x68, d.tag, .ok, []⟩)) ∧
  (∀ (s : State) (d : Directive) (id : Nat) (e : Entry), s.takes → d.line = 0x0E → d.args = [] →
    s.store.formatted = true → s.store.transfer = .download id → s.entry? id = some e → 0 < e.length →
    repliesWith (exec (.transferStop d) s) s ⟨0x68, d.tag, .ok, []⟩ (fun t =>
      t = { s.serveAll with store := t.store, partQueue := t.partQueue } ∧ t.dram = s.dram ∧
      t.store.transfer = .none ∧
      (t.entry? id).map (fun x => (x.state, x.endReason)) = some (.new, some (.transfer .stopped))))

/-- RECORD to the store opens an entry and codes into its STAGE area, RECORD to the host codes at once, PLAY reads the
first entry it can play with the coding bits of that entry, and VOICE_STOP ends what is in hand or hangs up. A
recording ends by silence, with the run of silent frames kept from its first frame on, by a tone, by a digit, and by a
FAX_CALL tone, which in an open watch discards the recording and switches the line to FAX, and with the watch closed,
or FAX not allowed, ends it as TONE. The kind and mailbox of a recording to the host are the model's choice
(notes/assumptions/25.md). -/
def Obligations.VoiceDirectives : Prop :=
  (∀ (s : State) (i : LineId) (d : Directive) (k mb : Nat) (kind : MsgKind), s.takes → lineOf? d.line = some i →
    argRecord.read d.args = .good (some (k, mb)) → soundKind? k = some kind → mb ≤ 15 → (s.line i).state = .voice →
    (s.line i).voiceIdle = true → s.store.formatted = true → s.store.guard < s.store.free.length →
    s.store.dir.length < 256 → s.hasArea i .stage = true → s.holdsOpen (some i) = false →
    repliesWith (exec (.record d) s) s ⟨0x70, d.tag, .started, []⟩ (fun t =>
      t = { s with lines := t.lines, store := t.store, areas := t.areas } ∧
      t.line i = { s.line i with
        voice := (t.line i).voice, stage := (t.line i).stage, queue := (t.line i).queue, tone := (t.line i).tone } ∧
      ∃ e, t.store.dir = s.store.dir ++ [e] ∧ e.kind = kind ∧ e.state = .opened ∧ e.mailbox = mb ∧
        e.origin = some i ∧ e.length = 0 ∧ e.bits = some (s.line i).profile.voiceBits ∧
        (t.line i).voice.activity = .recording ∧ (t.line i).stage = .writing e.id false false ∧
        (t.line i).voice.recording.map (fun r => (r.entry, r.coded, r.limit)) =
          some (some e.id, 0, (s.line i).profile.maxRecordS * (1000 * (s.line i).profile.voiceBits)))) ∧
  (∀ (s : State) (i : LineId) (d : Directive), s.takes → lineOf? d.line = some i →
    argRecord.read d.args = .good none → (s.line i).state = .voice → (s.line i).voiceIdle = true →
    s.hasArea i .rx = true → repliesWith (exec (.record d) s) s ⟨0x70, d.tag, .started, []⟩ (fun t =>
      t = { s with lines := t.lines } ∧
      t.line i = { s.line i with voice := (t.line i).voice, tone := (t.line i).tone } ∧
      (t.line i).voice.activity = .recording ∧ (t.line i).voice.recording.map (fun r => (r.target, r.coded)) =
        some (.host, 0) ∧ t.store = s.store ∧ othersSame i s t)) ∧
  (∀ (s : State) (i : LineId) (d : Directive) (id : Nat) (rest : List Nat) (e : Entry), s.takes →
    lineOf? d.line = some i → argPlay.read d.args = .good (some (id :: rest)) → rest.length < 8 →
    (id :: rest).contains 0 = false → (s.line i).state = .voice → (s.line i).voiceIdle = true →
    s.store.formatted = true → s.hasArea i .stage = true → s.playable id = some e →
    repliesWith (exec (.play d) s) s ⟨0x71, d.tag, .started, []⟩ (fun t =>
      t = { s with lines := t.lines, store := t.store, areas := t.areas } ∧
      t.line i = { s.line i with voice := (t.line i).voice, stage := (t.line i).stage, queue := (t.line i).queue } ∧
      (t.line i).voice.activity = .playing ∧ (t.line i).stage = .reading id 0 e.length ∧
      (t.line i).voice.playback.map (fun p => (p.cur, p.skipped)) = some (some id, []) ∧
      (∀ b, e.bits = some b → (t.line i).voice.playback.map Playback.bits = some b) ∧
      ∀ x, t.entry? id = some x → i ∈ x.playing)) ∧
  (∀ (s : State) (i : LineId) (d : Directive), s.takes → lineOf? d.line = some i → d.args = [] →
    (s.line i).state = .voice → (s.line i).voice.mode = .host → (s.line i).voice.activity = .none →
    repliesWith (exec (.voiceStop d) s) s ⟨0x72, d.tag, .ok, []⟩ (fun t =>
      t = { s with lines := t.lines, areas := t.areas, store := t.store, dram := t.dram } ∧
      (t.line i).state = .release ∧ (t.line i).call = none ∧ (t.line i).guard = some (s.now + 1500) ∧
      ((s.line i).stage.isWriting = false → t.dram = s.dram))) ∧
  (∀ (s : State) (i : LineId) (d : Directive) (p : Playback), s.takes → lineOf? d.line = some i → d.args = [] →
    (s.line i).state = .voice → (s.line i).voice.mode = .host → (s.line i).voice.activity = .playing →
    (s.line i).voice.playback = some p → (s.line i).queue.entries = [] → (s.line i).profile.wants .playDone = true →
    p.target = .host → repliesWith (exec (.voiceStop d) s) s ⟨0x72, d.tag, .ok, []⟩ (fun t =>
      t = { s with lines := t.lines } ∧
      t.line i = { s.line i with voice := (t.line i).voice, queue := (t.line i).queue } ∧
      (t.line i).voice.activity = .none ∧ (t.line i).voice.playback = none ∧ (t.line i).state = .voice ∧
      (t.line i).queue.entries = [.playDone (p.cur.or p.last) .locally p.skipped] ∧ othersSame i s t)) ∧
  (∀ (s : State) (i : LineId) (d : Directive), s.takes → lineOf? d.line = some i → argPlay.read d.args = .good none →
    (s.line i).state = .voice → (s.line i).voiceIdle = true → s.hasArea i .tx = true →
    exec (.play d) s = .next ((s.modLine i (fun l => { l with voice := { l.voice with
      activity := .playing, playback := some { target := .host, ids := [], bits := l.profile.voiceBits } } })).reply
      ⟨0x71, d.tag, .started, []⟩)) ∧
  (∀ (s : State) (i : LineId) (p : Int) (r : Recording) (id c start : Nat), (s.line i).state = .voice →
      (s.line i).voice.recording = some r → r.ended = none → r.entry = some id →
    r.frameCount = some c → start = r.silentStart.getD c → (s.line i).tone.frameStart + 32 ≤ s.now →
    (s.line i).watch = none → clampPower p < max (-55) (min (-20)
      ((s.line i).tone.nf + (s.line i).profile.silenceMarginDb)) →
    r.silenceEndS * 1000 ≤ (r.silentFrames + 1) * 32 → nextHolds (exec (.powerFrameEnd i p) s) (fun t =>
      t = { s with lines := t.lines } ∧ othersSame i s t ∧
      t.line i = { s.line i with tone := (t.line i).tone, voice := { (s.line i).voice with
        recording := some { r with
          silentStart := some start, silentFrames := r.silentFrames + 1, frameCount := some r.coded, watchEnd := none
          ended := some (.silence, start, if (s.line i).voice.mode = .auto then .handOver else .stayHost) } } })) ∧
  (∀ (s : State) (i : LineId) (p : Int) (r : Recording) (id c start : Nat), (s.line i).state = .voice →
      (s.line i).voice.recording = some r → r.ended = none → r.entry = some id →
    r.frameCount = some c → (s.line i).tone.frameStart + 32 ≤ s.now → (s.line i).watch = none →
    start = r.silentStart.getD c → nextHolds (exec (.powerFrameEnd i p) s) (fun t =>
      (clampPower p < max (-55) (min (-20) ((s.line i).tone.nf + (s.line i).profile.silenceMarginDb)) →
        (r.silentFrames + 1) * 32 < r.silenceEndS * 1000 → (t.line i).voice.recording = some { r with
          silentStart := some start, silentFrames := r.silentFrames + 1, frameCount := some r.coded }) ∧
      (max (-55) (min (-20) ((s.line i).tone.nf + (s.line i).profile.silenceMarginDb)) ≤ clampPower p →
        (t.line i).voice.recording = some { r with
          silentStart := none, silentFrames := 0, frameCount := some r.coded }))) ∧
  (∀ (s : State) (i : LineId) (r : Recording) (id : Nat) (e : ToneEntry) (m : Matcher) (b : Ms),
    (s.line i).state = .voice → (s.line i).voice.activity = .recording → (s.line i).voice.recording = some r →
      r.ended = none → r.entry = some id →
    (s.line i).tone.matchers = [m] → s.toneTable = [e] → m.id = e.id → e.continuous = true → m.phase = .on b →
    b + (e.segment m.seg).onMin ≤ s.now → (e.cls = .busy ∨ e.cls = .congestion ∨ e.cls = .dial) →
    nextHolds (exec (.continuousToneConfirm i e.id) s) (fun t =>
      t = { s with lines := t.lines } ∧ othersSame i s t ∧
      t.line i = { s.line i with tone := (t.line i).tone, voice := { (s.line i).voice with
        recording := some { r with watchEnd := none, ended := some (.tone, m.first,
          if (s.line i).voice.mode = .auto then .handOver else .stayHost) } } })) ∧
  (∀ (s : State) (i : LineId) (r : Recording) (id : Nat) (e : ToneEntry) (m : Matcher) (b : Ms) (c : CallRecord)
    (copy : RoutingCopy), (s.line i).state = .voice → (s.line i).voice.activity = .recording →
    (s.line i).voice.mode = .auto → (s.line i).voice.recording = some r → r.ended = none → r.entry = some id →
      (s.line i).call = some c → c.routing = some copy →
    (s.line i).tone.matchers = [m] → s.toneTable = [e] → m.id = e.id → e.continuous = true → m.phase = .on b →
    b + (e.segment m.seg).onMin ≤ s.now → e.cls = .faxCall → (copy.mask.fax = true → r.watchOpen = false) →
    nextHolds (exec (.continuousToneConfirm i e.id) s) (fun t =>
      t = { s with lines := t.lines } ∧ othersSame i s t ∧
      t.line i = { s.line i with tone := (t.line i).tone, voice := { (s.line i).voice with
        recording := some { r with
          watchEnd := none, ended := some (.tone, m.first,
            if copy.mask.fax = true then .switchFax else .handOver) } } })) ∧
  (∀ (s : State) (i : LineId) (r : Recording) (id : Nat) (e : ToneEntry) (m : Matcher) (b : Ms) (c : CallRecord)
    (copy : RoutingCopy), (s.line i).state = .voice → (s.line i).voice.activity = .recording →
    (s.line i).voice.mode = .auto → (s.line i).voice.recording = some r → r.ended = none → r.entry = some id →
      (s.line i).call = some c → c.routing = some copy →
    (s.line i).tone.matchers = [m] → s.toneTable = [e] → m.id = e.id → e.continuous = true → m.phase = .on b →
    b + (e.segment m.seg).onMin ≤ s.now → e.cls = .faxCall → copy.mask.fax = true → r.watchOpen = true →
    s.incomingReady i (s.line i).copies .fax = true → s.faxLadder ≠ [] → (s.line i).queue.entries = [] →
    (s.line i).profile.wants .recordDone = true → nextHolds (exec (.continuousToneConfirm i e.id) s) (fun t =>
      t.dram = s.dram ∧ t.entry? id = none ∧ (t.line i).state = .fax ∧ (t.line i).relay = true ∧
      (t.line i).job = .fax ∧ (t.line i).call = some { c with job := .fax } ∧ (t.line i).voice = {} ∧
      (t.line i).fax.phase = .establish ∧ (t.line i).fax.role = some .receiver ∧ (t.line i).tone.sendQueue = [] ∧
      .recordDone none r.coded .discarded ∈ (t.line i).queue.entries ∧ (t.line i).profile = (s.line i).profile)) ∧
  (∀ (s : State) (i : LineId) (r : Recording) (id b : Nat), (s.line i).state = .voice →
    (s.line i).voice.activity = .recording → (s.line i).voice.recording = some r → r.ended = none →
      r.entry = some id → (s.line i).tone.dtmf = .held .hash (some b) → b + 40 ≤ s.now →
    (s.line i).profile.bargeIn = true → nextHolds (exec (.dtmfAbsenceExpiry i) s) (fun t =>
      t = { s with lines := t.lines } ∧ othersSame i s t ∧
      t.line i = { s.line i with
        tone := { (s.line i).tone with dtmf := .idle }, queue := (t.line i).queue
        voice := { (s.line i).voice with recording := some { r with
          watchEnd := none, ended := some (.digit, r.coded,
            if (s.line i).voice.mode = .auto then .handOver else .stayHost) } } }))

/-- The interval quality is the exact largest k, with its two ends; the score is qi less the impulse penalty of the
profile, and both are written for every scored record, training records included. A record that is not of a training
moves the accumulator, which stays within 0 to 1280 and settles where Q is the score; a successful training, of a data
call or at the receiver of a fax, sets it to 8 times its last score. -/
def Obligations.QualityArithmetic : Prop :=
  (∀ r : MeasRecord, intervalQuality r ≤ 160 ∧
    (∀ k, k ≤ 160 → r.ee ^ 40 * 10 ^ k ≤ r.es ^ 40 → k ≤ intervalQuality r) ∧
    (r.ee ≤ r.es → r.ee ^ 40 * 10 ^ intervalQuality r ≤ r.es ^ 40) ∧
    (r.ee = 0 → intervalQuality r = 160) ∧ (r.es < r.ee → intervalQuality r = 0) ∧
    (r.es = r.ee → r.ee ≠ 0 → intervalQuality r = 0) ∧ (10000 * r.ee ≤ r.es → intervalQuality r = 160)) ∧
  (∀ (r : MeasRecord) (penalty : Nat), (score r penalty : Int) =
    max 0 ((intervalQuality r : Int) - (penalty : Int) * (min r.hits 12 : Nat))) ∧
  (∀ (a sc : Nat), a ≤ 1280 → sc ≤ 160 → accumulate a sc = a - a / 8 + sc ∧ accumulate a sc ≤ 1280 ∧
    accumulate a sc / 8 ≤ 160 ∧
    (accumulate a sc = a ↔ a / 8 = sc)) ∧
  (∀ k : Quality, k.q = k.a / 8) ∧
  (∀ (s : State) (i : LineId) (r : MeasRecord) (d : Ms), (s.line i).state = .data →
    (s.line i).quality.rc = .steady → r.valid = true → (s.line i).quality.nextRecord = some d → d ≤ s.now →
    nextHolds (exec (.measurementRecord i r) s) (fun t => (t.line i).quality.lastQi = intervalQuality r ∧
      (t.line i).quality.lastS = score r (s.line i).profile.impulsePenalty ∧
      (t.line i).quality.a = accumulate (s.line i).quality.a (t.line i).quality.lastS)) ∧
  (∀ (s : State) (i : LineId) (r : MeasRecord) (d : Ms), (s.line i).state = .fax →
    (s.line i).fax.role = some .receiver → (s.line i).fax.phase = .page → (s.line i).fax.begun = true →
    r.valid = true → (s.line i).quality.nextRecord = some d → d ≤ s.now →
    nextHolds (exec (.measurementRecord i r) s) (fun t => (t.line i).quality.lastQi = intervalQuality r ∧
      (t.line i).quality.lastS = score r (s.line i).profile.impulsePenalty ∧
      (t.line i).quality.a = accumulate (s.line i).quality.a (t.line i).quality.lastS)) ∧
  (∀ (s : State) (i : LineId) (r : MeasRecord) (d : Ms), (s.line i).state = .data →
    (s.line i).quality.rc = .retraining → r.valid = true → (s.line i).quality.nextTraining = some d → d ≤ s.now →
    nextHolds (exec (.trainingRecord i r) s) (fun t => (t.line i).quality.lastQi = intervalQuality r ∧
      (t.line i).quality.lastS = score r (s.line i).profile.impulsePenalty ∧
      (t.line i).quality.a = (s.line i).quality.a)) ∧
  (∀ (s : State) (i : LineId) (r : MeasRecord) (d : Ms), (s.line i).state = .fax →
    (s.line i).fax.role = some .receiver → (s.line i).fax.phase = .train → (s.line i).fax.checking = true →
    r.valid = true → (s.line i).quality.nextRecord = some d → d ≤ s.now →
    nextHolds (exec (.measurementRecord i r) s) (fun t => (t.line i).quality.lastQi = intervalQuality r ∧
      (t.line i).quality.lastS = score r (s.line i).profile.impulsePenalty ∧
      (t.line i).quality.a = (s.line i).quality.a)) ∧
  (∀ (s : State) (i : LineId) (t0 qt d : Nat), (s.line i).state = .data → (s.line i).quality.rc = .retraining →
    (s.line i).quality.target = some t0 → (s.line i).quality.tryQt = some qt →
    (ladderStep s.dataLadder t0).d ≤ qt → (s.line i).quality.tryEnd = some d → s.now ≤ d →
    nextHolds (exec (.trainingOutcome i true) s) (fun t =>
      (t.line i).quality.a = 8 * qt ∧ (t.line i).quality.q = qt)) ∧
  (∀ (s : State) (i : LineId) (k qt n : Nat), (s.line i).fax.role = some .receiver →
    (s.line i).fax.phase = .train → (s.line i).fax.checking = true → (s.line i).fax.checkQt = some qt →
    (s.line i).fax.step = some k → k < s.faxLadder.length → k ≤ (s.line i).copies.faxCeiling →
    n ≤ (ladderStep s.faxLadder k).trainLimit → nextHolds (exec (.faxCheckEnd i true n) s) (fun t =>
      (t.line i).quality.a = 8 * qt ∧ (t.line i).quality.q = qt))

/-- The fall-back target from a step above the floor is the highest lower step, not below the floor, whose D is at
most Q, and the floor where there is none; the agreed ceiling is the highest step up to the line's own ceiling whose
rate is within both ends' rates. -/
def Obligations.LadderSearchesAreHighest : Prop :=
  (∀ (ladder : List LadderStep) (f c q : Nat), f < c →
    f ≤ fallBackTarget ladder f c q ∧ fallBackTarget ladder f c q < c ∧
    ((ladderStep ladder (fallBackTarget ladder f c q)).d ≤ q ∨ fallBackTarget ladder f c q = f) ∧
    ∀ j, fallBackTarget ladder f c q < j → j < c → q < (ladderStep ladder j).d) ∧
  (∀ (s : State) (c : CallCopies) (own peer : Capability),
    (∀ j, s.agreedCeiling c own peer = some j ↔ (j ≤ c.dataCeiling ∧ j < s.dataLadder.length ∧
      (ladderStep s.dataLadder j).rate ≤ min own.rate peer.rate ∧
      ∀ m, j < m → m ≤ c.dataCeiling → m < s.dataLadder.length →
        min own.rate peer.rate < (ladderStep s.dataLadder m).rate)))

/-- A measurement record is one of an interval of 125 ms that has ended; in STEADY it is scored and moves A and the
runs; a low run that reaches fb_persist above the floor renegotiates to the fall-back target, one that reaches
drop_persist at the floor sends END for a quality drop, and a high run that reaches ff_persist renegotiates one step
up. That the END of a drop makes the phase CLOSING, starts no END_OK wait and leaves the line in DATA till it is sent
is the model's reading (notes/assumptions/14.md). So is the grid of the intervals (notes/assumptions/22.md). -/
def Obligations.MeasurementInSteady : Prop :=
  (∀ (s : State) (i : LineId) (r : MeasRecord) (c d : Nat), (s.line i).state = .data → r.valid = true →
    (s.line i).quality.rc = .steady → (s.line i).quality.nextRecord = some d → d ≤ s.now →
      (s.line i).quality.step = some c → (s.line i).quality.ceiling = some c →
    0 < (s.line i).profile.fbPersist → 0 < (s.line i).profile.dropPersist →
    (ladderStep s.dataLadder c).d ≤
      accumulate (s.line i).quality.a (score r (s.line i).profile.impulsePenalty) / 8 →
    exec (.measurementRecord i r) s = .next (s.modLine i (fun l => { l with quality := { l.quality with
      lastQi := intervalQuality r, lastS := score r l.profile.impulsePenalty
      a := accumulate l.quality.a (score r l.profile.impulsePenalty), lowRun := 0, highRun := 0
      nextRecord := some (d + 125) } }))) ∧
  (∀ (s : State) (i : LineId) (r : MeasRecord) (c f d : Nat), (s.line i).state = .data → r.valid = true →
    (s.line i).quality.rc = .steady → (s.line i).quality.nextRecord = some d → d ≤ s.now →
      (s.line i).quality.step = some c → (s.line i).quality.floor = some f → f < c →
    accumulate (s.line i).quality.a (score r (s.line i).profile.impulsePenalty) / 8 <
      (ladderStep s.dataLadder c).d → (s.line i).profile.fbPersist ≤ min 255 ((s.line i).quality.lowRun + 1) →
    nextHolds (exec (.measurementRecord i r) s) (fun t =>
      t = { s with lines := t.lines } ∧ (t.line i).quality.nextRecord = some (d + 125) ∧
      t.line i = { s.line i with quality := (t.line i).quality, link := (t.line i).link } ∧
      (t.line i).quality.rc = .renegotiating ∧
      (t.line i).quality.target = some (fallBackTarget s.dataLadder f c
        (accumulate (s.line i).quality.a (score r (s.line i).profile.impulsePenalty) / 8)) ∧
      (t.line i).quality.a = accumulate (s.line i).quality.a (score r (s.line i).profile.impulsePenalty) ∧
      (t.line i).quality.oldStep = some c ∧ (t.line i).quality.cause = some .quality ∧
      (t.line i).quality.lowRun = 0 ∧ (t.line i).quality.highRun = 0 ∧
      (t.line i).quality.rateOkWait = some (s.now + 2000) ∧ othersSame i s t)) ∧
  (∀ (s : State) (i : LineId) (r : MeasRecord) (c m d : Nat), (s.line i).state = .data → r.valid = true →
    (s.line i).quality.rc = .steady → (s.line i).quality.nextRecord = some d → d ≤ s.now →
      (s.line i).quality.step = some c → (s.line i).quality.ceiling = some m → c < m →
    0 < (s.line i).profile.fbPersist → 0 < (s.line i).profile.dropPersist →
    (ladderStep s.dataLadder c).d ≤
      accumulate (s.line i).quality.a (score r (s.line i).profile.impulsePenalty) / 8 →
    (ladderStep s.dataLadder (c + 1)).u ≤
      accumulate (s.line i).quality.a (score r (s.line i).profile.impulsePenalty) / 8 →
    (s.line i).profile.ffPersist ≤ min 255 ((s.line i).quality.highRun + 1) →
    nextHolds (exec (.measurementRecord i r) s) (fun t =>
      t = { s with lines := t.lines } ∧ (t.line i).quality.nextRecord = some (d + 125) ∧
      t.line i = { s.line i with quality := (t.line i).quality, link := (t.line i).link } ∧
      (t.line i).quality.rc = .renegotiating ∧
      (t.line i).quality.target = some (c + 1) ∧ (t.line i).quality.cause = some .quality ∧
      (t.line i).quality.oldStep = some c ∧ othersSame i s t)) ∧
  (∀ (k : Quality) (ladder : List LadderStep) (c : Nat), k.step = some c → k.ceiling = some c →
    (k.updateRuns ladder).highRun = 0) ∧
  (∀ (s : State) (i : LineId) (r : MeasRecord) (c d : Nat), (s.line i).state = .data → r.valid = true →
    (s.line i).quality.rc = .steady → (s.line i).quality.nextRecord = some d → d ≤ s.now →
      (s.line i).quality.step = some c → (s.line i).quality.floor = some c →
    accumulate (s.line i).quality.a (score r (s.line i).profile.impulsePenalty) / 8 <
      (ladderStep s.dataLadder c).d → (s.line i).profile.dropPersist ≤ min 255 ((s.line i).quality.lowRun + 1) →
    (s.line i).link.phase = .linked → (s.line i).link.dropEnd = false → (s.line i).link.farEnd = none →
    (s.line i).link.txNow = none → (s.line i).link.rateWait = [] → (s.line i).link.endWait = [] →
    nextHolds (exec (.measurementRecord i r) s) (fun t =>
      t = { s with lines := t.lines } ∧ (t.line i).quality.nextRecord = some (d + 125) ∧
      t.line i = { s.line i with quality := (t.line i).quality, link := (t.line i).link } ∧
      (t.line i).link.phase = .closing ∧
      (t.line i).link.dropEnd = true ∧ (t.line i).link.txNow = some .fin ∧ (t.line i).link.sendQueue = [] ∧
      (t.line i).link.endOkWait = none ∧ (t.line i).state = .data ∧ othersSame i s t)) ∧
  (∀ (s : State) (i : LineId) (r : MeasRecord) (d : Nat), (s.line i).state = .data → r.valid = false →
    (s.line i).quality.nextRecord = some d → d ≤ s.now →
    exec (.measurementRecord i r) s =
      .next (s.modLine i (fun l => { l with quality.nextRecord := some (d + 125) }))) ∧
  (∀ (s : State) (i : LineId) (r : MeasRecord) (d : Nat), (s.line i).quality.nextRecord = some d → s.now < d →
    exec (.measurementRecord i r) s = .next s)

/-- A try's training records, no nearer than 125 ms to each other, keep the last score; a try that locks in its
training time with enough of it ends STEADY at the target, the call's first with CONNECTED and any later with
RATE_CHANGED; one that locks with too little, or has not locked when the time has passed, is tried again, drops a
step, or releases the call. That the training time starts with the try, and where the records of 125 ms begin, is the
model's choice (notes/assumptions/22.md), and so are the tries of 0 in STEADY (notes/assumptions/17.md). -/
def Obligations.TrainingTries : Prop :=
  (∀ (s : State) (i : LineId) (r : MeasRecord) (d : Ms), (s.line i).state = .data →
      (s.line i).quality.rc = .retraining →
    r.valid = true → (s.line i).quality.nextTraining = some d → d ≤ s.now →
      exec (.trainingRecord i r) s = .next (s.modLine i (fun l => { l with quality := { l.quality with
      lastQi := intervalQuality r, lastS := score r l.profile.impulsePenalty
      tryQt := some (score r l.profile.impulsePenalty), nextTraining := some (s.now + 125) } }))) ∧
  (∀ (s : State) (i : LineId) (t0 qt w d : Nat) (c : CallRecord), (s.line i).state = .data →
    (s.line i).quality.rc = .retraining → (s.line i).quality.target = some t0 → (s.line i).quality.tryQt = some qt →
    (ladderStep s.dataLadder t0).d ≤ qt → (s.line i).call = some c → (s.line i).link.phase = .training →
    (s.line i).link.endOnSteady = false →
    (s.line i).quality.tryEnd = some d → s.now ≤ d → (s.line i).link.window = some w →
      nextHolds (exec (.trainingOutcome i true) s) (fun t =>
      t = { s with lines := t.lines } ∧
      t.line i = { s.line i with
        call := (t.line i).call, quality := (t.line i).quality, link := (t.line i).link, queue := (t.line i).queue } ∧
      (t.line i).quality.rc = .steady ∧ (t.line i).quality.step = some t0 ∧ (t.line i).quality.a = 8 * qt ∧
      (t.line i).quality.target = none ∧ (t.line i).quality.tries = 0 ∧ (t.line i).quality.lowRun = 0 ∧
      (t.line i).link.phase = .linked ∧ (t.line i).quality.tryEnd = none ∧
      ((s.line i).quality.nextRecord = none → (t.line i).quality.nextRecord = some (s.now + 125)) ∧
      ((s.line i).queue.entries = [] → (s.line i).profile.wants .connected = true →
        (t.line i).queue.entries = [.connected (.data t0 (ladderStep s.dataLadder t0).rate w)]) ∧
          (t.line i).link.history = [] ∧
      (t.line i).call = some { c with finalStep := some t0 } ∧ othersSame i s t)) ∧
  (∀ (s : State) (i : LineId) (k : Quality) (t0 d : Nat) (locked : Bool), k = (s.line i).quality →
    (s.line i).state = .data → (s.line i).quality.rc = .retraining →
    (s.line i).quality.target = some t0 → (s.line i).quality.tries = 0 →
    ((k.tryEnd = some d ∧ d ≤ s.now ∧ locked = false) ∨
      (k.tryEnd = some d ∧ s.now ≤ d ∧ locked = true ∧ ∀ q ∈ k.tryQt, q < (ladderStep s.dataLadder t0).d)) →
    exec (.trainingOutcome i locked) s = .next (s.modLine i (fun l => { l with quality := { l.quality with
      tries := 1, tryKind := .full, tryQt := none, tryEnd := some (s.now + 4000)
      nextTraining := some (s.now + 125) } }))) ∧
  (∀ (s : State) (i : LineId) (k : Quality) (t0 f d : Nat) (locked : Bool),
    k = (s.line i).quality → (s.line i).state = .data → (s.line i).quality.rc = .retraining →
    (s.line i).quality.target = some t0 → (s.line i).quality.tries = 1 → (s.line i).quality.floor = some f → f < t0 →
    ((k.tryEnd = some d ∧ d ≤ s.now ∧ locked = false) ∨
      (k.tryEnd = some d ∧ s.now ≤ d ∧ locked = true ∧ ∀ q ∈ k.tryQt, q < (ladderStep s.dataLadder t0).d)) →
    exec (.trainingOutcome i locked) s = .next (s.modLine i (fun l => { l with quality := { l.quality with
      target := some (t0 - 1), tries := 0, tryKind := .full, tryQt := none, tryEnd := some (s.now + 4000)
      nextTraining := some (s.now + 125) } }))) ∧
  (∀ (s : State) (i : LineId) (k : Quality) (t0 f d : Nat) (locked : Bool),
    k = (s.line i).quality → (s.line i).state = .data → (s.line i).quality.rc = .retraining →
    (s.line i).quality.target = some t0 → (s.line i).quality.tries = 1 → (s.line i).quality.floor = some f → t0 ≤ f →
    ((k.tryEnd = some d ∧ d ≤ s.now ∧ locked = false) ∨
      (k.tryEnd = some d ∧ s.now ≤ d ∧ locked = true ∧ ∀ q ∈ k.tryQt, q < (ladderStep s.dataLadder t0).d)) →
    exec (.trainingOutcome i locked) s = .next (s.release i .trainFail)) ∧
  (∀ (s : State) (i : LineId) (t0 qt o d : Nat) (why : RateCause) (c : CallRecord) (f : LinkFrame),
    (s.line i).state = .data → (s.line i).quality.rc = .retraining → (s.line i).quality.target = some t0 →
    (s.line i).quality.tryQt = some qt → (ladderStep s.dataLadder t0).d ≤ qt → (s.line i).call = some c →
    (s.line i).link.phase = .linked → (s.line i).link.endOnSteady = false → (s.line i).quality.tryEnd = some d →
    s.now ≤ d → (s.line i).quality.oldStep = some o → (s.line i).quality.cause = some why →
    (s.line i).link.txNow = some f → (s.line i).queue.entries = [] →
    (s.line i).profile.wants .rateChanged = true → nextHolds (exec (.trainingOutcome i true) s) (fun t =>
      t = { s with lines := t.lines } ∧
      t.line i = { s.line i with
        call := some { c with finalStep := some t0 }
        queue := { (s.line i).queue with entries := [.rateChanged o t0 why qt] }
        quality := { (s.line i).quality with
          step := some t0, a := 8 * qt, lowRun := 0, highRun := 0, rc := .steady, target := none, tries := 0
          oldStep := none, cause := none, tryQt := none, tryEnd := none, nextTraining := none
          nextRecord := (t.line i).quality.nextRecord }
        link := { (s.line i).link with history := [], resendTimer := (t.line i).link.resendTimer } } ∧
      (∀ left, (s.line i).link.resendTimer = .frozen left →
        (t.line i).link.resendTimer = .running (s.now + left)) ∧ othersSame i s t)) ∧
  (∀ (s : State) (i : LineId) (d : Nat), (s.line i).quality.tryEnd = some d → s.now < d →
    exec (.trainingOutcome i false) s = .next s)

/-- RATE and RATE_OK: the answer is the step clamped into the line's bounds and training begins at it; without an
answer a full training begins at the line's own target. Outcomes of transmissions enter the history, and as many
resends in it as err_limit start a renegotiation one step down, or at the floor only empty it. That the training time
starts with the try is the model's choice (notes/assumptions/22.md). -/
def Obligations.RateMessages : Prop :=
  (∀ (s : State) (i : LineId) (n : Nat), (s.line i).state = .data → (s.line i).link.phase = .linked →
    (s.line i).quality.rc = .steady → (s.line i).link.txNow = none → (s.line i).link.rateWait = [] →
    nextHolds (exec (.linkRateReceived i n) s) (fun t =>
      t = { s with lines := t.lines } ∧
      t.line i = { s.line i with quality := (t.line i).quality, link := (t.line i).link } ∧
      (t.line i).quality.rc = .retraining ∧
      (t.line i).quality.tryKind = .short ∧ (t.line i).quality.tryEnd = some (s.now + 1500) ∧
      (t.line i).quality.target = some ((s.line i).quality.clampToBounds n) ∧
      (t.line i).quality.cause = some .peer ∧ (t.line i).quality.oldStep = (s.line i).quality.step ∧
      (t.line i).link.txNow = some (.rateOk ((s.line i).quality.clampToBounds n)) ∧ othersSame i s t)) ∧
  (∀ (s : State) (i : LineId) (n m : Nat), (s.line i).state = .data → (s.line i).link.phase = .linked →
    (s.line i).quality.rc = .renegotiating → (s.line i).quality.target = some m → (s.line i).link.txNow = none →
    (s.line i).link.rateWait = [] → nextHolds (exec (.linkRateReceived i n) s) (fun t =>
      t = { s with lines := t.lines } ∧
      t.line i = { s.line i with quality := (t.line i).quality, link := (t.line i).link } ∧
      (t.line i).quality.rc = .retraining ∧
      (t.line i).quality.target = some (min ((s.line i).quality.clampToBounds n) m) ∧
      (t.line i).link.txNow = some (.rateOk (min ((s.line i).quality.clampToBounds n) m)) ∧ othersSame i s t)) ∧
  (∀ (s : State) (i : LineId) (n : Nat), (s.line i).state = .data → (s.line i).link.phase = .linked →
    (s.line i).quality.rc = .renegotiating → nextHolds (exec (.linkRateOkReceived i n) s) (fun t =>
      t = { s with lines := t.lines } ∧
      t.line i = { s.line i with quality := (t.line i).quality, link := (t.line i).link } ∧
      (t.line i).quality.rc = .retraining ∧ (t.line i).quality.tryKind = .short ∧
        (t.line i).quality.tryEnd = some (s.now + 1500) ∧
      (t.line i).quality.target = some ((s.line i).quality.clampToBounds n) ∧ (t.line i).quality.tries = 0 ∧
      (t.line i).quality.rateOkWait = none ∧ othersSame i s t)) ∧
  (∀ (s : State) (i : LineId) (d m : Nat), (s.line i).state = .data → (s.line i).quality.rc = .renegotiating →
    (s.line i).quality.rateOkWait = some d → d ≤ s.now → (s.line i).quality.target = some m →
    nextHolds (exec (.rateOkWaitExpiry i) s) (fun t =>
      t = { s with lines := t.lines } ∧
      t.line i = { s.line i with quality := (t.line i).quality, link := (t.line i).link } ∧
      (t.line i).quality.rc = .retraining ∧
      (t.line i).quality.tryKind = .full ∧ (t.line i).quality.tryEnd = some (s.now + 4000) ∧
        (t.line i).quality.target = some m ∧ (t.line i).quality.tries = 0 ∧
      (t.line i).quality.rateOkWait = none ∧ othersSame i s t)) ∧
  (∀ (k : Quality) (f c p : Nat), k.floor = some f → k.ceiling = some c → f ≤ c →
    f ≤ k.clampToBounds p ∧ k.clampToBounds p ≤ c ∧ (f ≤ p → p ≤ c → k.clampToBounds p = p)) ∧
  (∀ (s : State) (i : LineId) (x : SendEntry) (rest : List SendEntry) (n : Fin 64) (c f : Nat),
    (s.line i).state = .data → (s.line i).link.phase = .linked → (s.line i).quality.rc = .steady →
    (s.line i).link.sendQueue = x :: rest → x.seq < 64 → n.val = (x.seq + 1) % 64 → x.retx = true →
    (s.line i).link.history.length < 16 →
    (s.line i).profile.errLimit ≤ (s.line i).link.history.count .retransmitted + 1 →
    (s.line i).quality.step = some c → (s.line i).quality.floor = some f → (s.line i).link.txNow = none →
    (s.line i).link.rateWait = [] → f < c → nextHolds (exec (.linkAckReceived i n) s) (fun t =>
      t = { s with lines := t.lines } ∧
      t.line i = { s.line i with link := (t.line i).link, quality := { (s.line i).quality with
        rc := .renegotiating, oldStep := some c, cause := some .errors, target := some (c - 1), tries := 0
        lowRun := 0, highRun := 0, rateOkWait := some (s.now + 2000) } } ∧
      (t.line i).link.history = [] ∧ (t.line i).link.sendQueue = rest ∧
      (t.line i).link.txNow = some (.rate (c - 1)) ∧ othersSame i s t)) ∧
  (∀ (s : State) (i : LineId) (x : SendEntry) (rest : List SendEntry) (n : Fin 64) (c : Nat) (g : LinkFrame),
    (s.line i).state = .data → (s.line i).link.phase = .linked → (s.line i).quality.rc = .steady →
    (s.line i).link.sendQueue = x :: rest → x.seq < 64 → n.val = (x.seq + 1) % 64 → x.retx = true →
    (s.line i).link.history.length < 16 →
    (s.line i).profile.errLimit ≤ (s.line i).link.history.count .retransmitted + 1 →
    (s.line i).quality.step = some c → (s.line i).quality.floor = some c → (s.line i).link.txNow = some g →
    nextHolds (exec (.linkAckReceived i n) s) (fun t =>
      t = { s with lines := t.lines } ∧ t.line i = { s.line i with link := (t.line i).link } ∧
      (t.line i).link.history = [] ∧ (t.line i).link.sendQueue = rest ∧ othersSame i s t))

/-- The carrier flag of a data call: its fall after it has been seen starts the carrier-loss timer, its rise stops it,
and the timer's end releases the call with NO_CARRIER. -/
def Obligations.CarrierLossReleases : Prop :=
  (∀ (s : State) (i : LineId), (s.line i).state = .data → (s.line i).carrier = true →
    (s.line i).signals.carrier = true → (s.line i).link.carrierSeen = true →
    nextHolds (exec (.carrierChange i false) s) (fun t =>
      t = { s with lines := t.lines } ∧
      t.line i = { s.line i with
        signals := (t.line i).signals, carrier := (t.line i).carrier, link := (t.line i).link
        queue := (t.line i).queue } ∧
      (t.line i).carrier = false ∧
      (t.line i).signals.carrier = false ∧ (t.line i).signals.fCarrier = true ∧
      (t.line i).link.carrierLoss = some (s.now + (s.line i).profile.carrierLossMs) ∧ (t.line i).state = .data ∧
      othersSame i s t)) ∧
  (∀ (s : State) (i : LineId), (s.line i).state = .data → (s.line i).carrier = false →
    nextHolds (exec (.carrierChange i true) s) (fun t =>
      t = { s with lines := t.lines } ∧
      t.line i = { s.line i with
        signals := (t.line i).signals, carrier := (t.line i).carrier, link := (t.line i).link
        queue := (t.line i).queue } ∧
      (t.line i).carrier = true ∧
      (t.line i).signals.carrier = true ∧ (t.line i).link.carrierSeen = true ∧
      (t.line i).link.carrierLoss = none ∧ (t.line i).state = .data ∧ othersSame i s t)) ∧
  (∀ (s : State) (i : LineId) (d : Ms), (s.line i).state = .data → (s.line i).link.carrierLoss = some d →
    d ≤ s.now → exec (.carrierLossExpiry i) s = .next (s.release i .noCarrier))

/-- The handshake of a data call: the answer tone ends in EXCHANGE with the first CAPS, CAPS goes again each second up
to three times, the exchange ends with the ceiling and the window of both ends and the first training begins, and its
timer releases the call; a frame that fails its check changes nothing. That the training time starts with the try is
the model's choice (notes/assumptions/22.md). -/
def Obligations.DataHandshake : Prop :=
  (∀ (s : State) (i : LineId) (d : Ms), (s.line i).link.phase = .answerTone → (s.line i).link.toneEnd = some d →
    d ≤ s.now → nextHolds (exec (.dataAnswerToneEnd i) s) (fun t =>
      t = { s with lines := t.lines } ∧
      t.line i = { s.line i with link := (t.line i).link, tone := (t.line i).tone } ∧
      (t.line i).link.phase = .exchange ∧
      (t.line i).link.capsSent = 1 ∧ (t.line i).link.capsRepeat = some (s.now + 1000) ∧
      (t.line i).link.exchangeTimer = some (s.now + 3000) ∧ (t.line i).tone.gen = none ∧ othersSame i s t)) ∧
  (∀ (s : State) (i : LineId) (d : Ms), (s.line i).link.phase = .exchange → (s.line i).link.capsRepeat = some d →
    d ≤ s.now → exec (.capsRepeatExpiry i) s = .next (s.modLine i (fun l => { l with link := { l.link with
      capsSent := l.link.capsSent + 1
      capsRepeat := if l.link.capsSent + 1 < 3 then some (s.now + 1000) else none } }))) ∧
  (∀ (s : State) (i : LineId) (d : Ms), (s.line i).link.phase = .exchange → (s.line i).link.exchangeTimer = some d →
    d ≤ s.now → exec (.exchangeTimerExpiry i) s = .next (s.release i .trainFail)) ∧
  (∀ (s : State) (i : LineId) (own peer : Capability) (c : Nat), (s.line i).link.phase = .exchange →
    (s.line i).link.own = some own → s.agreedCeiling (s.line i).copies own peer = some c →
    (s.line i).quality.floor.getD 0 ≤ c → nextHolds (exec (.capsReceived i peer) s) (fun t =>
      t = { s with lines := t.lines } ∧
      t.line i = { s.line i with quality := (t.line i).quality, link := (t.line i).link } ∧
      (t.line i).link.phase = .training ∧ (t.line i).link.peer = some peer ∧
      (t.line i).link.window = some (min (s.line i).copies.windowMax (max 1 (min 15 peer.window))) ∧
      (t.line i).link.exchangeTimer = none ∧ (t.line i).quality.ceiling = some c ∧
      (t.line i).quality.target = some (min (s.line i).copies.dataStart c) ∧
      (t.line i).quality.rc = .retraining ∧ (t.line i).quality.tryKind = .full ∧
      (t.line i).quality.tryEnd = some (s.now + 4000) ∧ othersSame i s t)) ∧
  (∀ (s : State) (i : LineId), exec (.frameCheckFail i) s = .next s)

/-- A DATA frame in turn is delivered into the RX area, E advances and an ACK goes; one ahead of its turn inside the
window is held by its distance from E, with a RESEND for every seq before it that is neither held nor requested, and
one outside the window only makes an ACK due. An ACK removes the oldest entry; a RESEND raises the entry's count and
queues it, or releases the call above the limit, and a resend that waits for a busy transmitter is sent although its
entry is acknowledged meanwhile (R105; of other frames that wait it is the model's choice, notes/assumptions/21.md).
-/
def Obligations.LinkDataAckResend : Prop :=
  (∀ (s : State) (i : LineId) (q a : Fin 64) (payload : List Byte) (k : AreaId), (s.line i).state = .data →
    (s.line i).link.phase = .linked → (s.line i).quality.rc = .steady → (s.line i).link.sendQueue = [] →
    (s.line i).link.e = q.val → (s.line i).link.hold = [] → s.joined i .rx = some k →
    payload.length ≤ (s.area k).room → (s.line i).link.ackSpacing = none → (s.line i).link.txNow = none →
    (s.line i).link.rateWait = [] → (s.line i).link.endWait = [] → (s.line i).link.pauseWait = [] →
    nextHolds (exec (.linkDataReceived i q a payload) s) (fun t =>
      t = { s with lines := t.lines, areas := t.areas } ∧
      t.line i = { s.line i with link := (t.line i).link, queue := (t.line i).queue } ∧
      (t.area k).fifo = (s.area k).fifo ++ payload.map (fun b => (b, s.now)) ∧
      (t.line i).link.e = (q.val + 1) % 64 ∧ (t.line i).link.txNow = some (.ack ((q.val + 1) % 64)) ∧
      (t.line i).link.ackSpacing = some (s.now + 50) ∧ (∀ j, j ≠ k → t.area j = s.area j) ∧ othersSame i s t)) ∧
  (∀ (s : State) (i : LineId) (x : SendEntry) (rest : List SendEntry) (n : Fin 64) (f : LinkFrame),
    (s.line i).state = .data → (s.line i).link.phase = .linked → (s.line i).quality.rc = .steady →
    (s.line i).link.sendQueue = x :: rest → x.seq < 64 → n.val = (x.seq + 1) % 64 → x.retx = false →
    (s.line i).link.history.length < 16 →
    (s.line i).link.history.count .retransmitted < (s.line i).profile.errLimit → (s.line i).link.txNow = some f →
    nextHolds (exec (.linkAckReceived i n) s) (fun t =>
      t = { s with lines := t.lines } ∧
      t.line i = { s.line i with link := (t.line i).link } ∧
      (t.line i).link.sendQueue = rest ∧
      (t.line i).link.history = (s.line i).link.history ++ [.firstTry] ∧ (t.line i).link.n = (s.line i).link.n ∧
      t.areas = s.areas ∧ othersSame i s t)) ∧
  (∀ (s : State) (i : LineId) (x : SendEntry) (q : Fin 64) (f : LinkFrame), (s.line i).state = .data →
    (s.line i).link.phase = .linked → (s.line i).quality.rc = .steady → (s.line i).link.sendQueue = [x] →
    x.seq = q.val → (s.line i).link.resendWait = [] → (s.line i).link.peerPaused = false →
    (s.line i).link.txNow = some f → x.retries < (s.line i).profile.retryLimit →
    nextHolds (exec (.linkResendReceived i q) s) (fun t =>
      t = { s with lines := t.lines } ∧
      t.line i = { s.line i with link := (t.line i).link } ∧
      (t.line i).link.sendQueue = [{ x with retries := x.retries + 1, retx := true }] ∧
      (t.line i).link.resendWait = [(q.val, x.payload)] ∧ t.areas = s.areas ∧ othersSame i s t)) ∧
  (∀ (s : State) (i : LineId) (x : SendEntry) (q : Fin 64), (s.line i).state = .data →
    (s.line i).link.phase = .linked → (s.line i).quality.rc = .steady → (s.line i).link.sendQueue = [x] →
    x.seq = q.val → (s.line i).link.resendWait = [] → (s.line i).link.peerPaused = false →
    (s.line i).profile.retryLimit ≤ x.retries → (s.line i).link.ending = none → (s.line i).fax = {} →
      (s.line i).voice = {} →
    nextHolds (exec (.linkResendReceived i q) s) (fun t =>
      t = { s with lines := t.lines, areas := t.areas, store := t.store, dram := t.dram } ∧
      (t.line i).state = .release ∧ (t.line i).call = none ∧ (t.line i).guard = some (s.now + 1500) ∧
      (∀ k, (t.area k).fifo = (s.area k).fifo) ∧ ((s.line i).stage.isWriting = false → t.dram = s.dram))) ∧
  (∀ (s : State) (i : LineId) (q a : Fin 64) (payload : List Byte) (f : LinkFrame) (w d : Nat),
    (s.line i).state = .data → (s.line i).link.phase = .linked → (s.line i).quality.rc = .steady →
    (s.line i).link.sendQueue = [] → a.val = (s.line i).link.n → (s.line i).link.txNow = some f →
    (s.line i).link.window = some w → d = seqDistance (s.line i).link.e q.val → 0 < d → d < w →
    (∀ h ∈ (s.line i).link.hold, h.1 ≠ q.val) → exec (.linkDataReceived i q a payload) s =
      .next (s.modLine i (fun l => { l with link := { l.link with
        hold := l.link.hold.takeWhile (fun h => seqDistance l.link.e h.1 ≤ d) ++
          (q.val, payload) :: l.link.hold.dropWhile (fun h => seqDistance l.link.e h.1 ≤ d),
        requested := l.link.requested ++ (if l.link.localPaused then [] else
          ((List.range d).map (fun k => (l.link.e + k) % 64)).filter
            (fun x => x ∉ l.link.hold.map Prod.fst ∧ x ∉ l.link.requested))
        requestWait := l.link.requestWait ++ (if l.link.localPaused then [] else
          ((List.range d).map (fun k => (l.link.e + k) % 64)).filter
            (fun x => x ∉ l.link.hold.map Prod.fst ∧ x ∉ l.link.requested)) } }))) ∧
  (∀ (s : State) (i : LineId) (q a : Fin 64) (payload : List Byte) (f : LinkFrame) (w d : Nat),
    (s.line i).state = .data → (s.line i).link.phase = .linked → (s.line i).quality.rc = .steady →
    (s.line i).link.sendQueue = [] → a.val = (s.line i).link.n → (s.line i).link.txNow = some f →
    (s.line i).link.window = some w → d = seqDistance (s.line i).link.e q.val → 0 < d → w ≤ d →
    (s.line i).link.ackSpacing = none → exec (.linkDataReceived i q a payload) s =
      .next (s.modLine i (fun l => { l with link := { l.link with
        ackWait := true, ackSpacing := some (s.now + 50) } }))) ∧
  (∀ base n : Nat, base < 64 → n < 64 →
    seqDistance base n < 64 ∧ (base + seqDistance base n) % 64 = n) ∧
  (∀ (s : State) (i : LineId) (x : SendEntry) (rest : List SendEntry) (n : Fin 64) (f : LinkFrame)
    (r : Nat × List Byte), (s.line i).state = .data → (s.line i).link.phase = .linked →
    (s.line i).quality.rc = .steady → (s.line i).link.sendQueue = x :: rest → x.seq < 64 → n.val = (x.seq + 1) % 64 →
    (s.line i).link.resendWait = [r] → r = (x.seq, x.payload) → (s.line i).link.txNow = some f →
    nextHolds (exec (.linkAckReceived i n) s) (fun t => (t.line i).link.sendQueue = rest ∧
      (t.line i).link.resendWait = [r]))

/-- PAUSE stops DATA and the resend timer, RESUME raises and resends every entry, END is answered with END_OK, and an
END_OK in CLOSING releases the call. A frame in turn that finds too little room in the RX area is discarded and PAUSE
goes, once, till a removal that leaves the area at its low mark or below lets RESUME go. That a resend by RESUME which
waits for a busy transmitter is sent although acknowledged meanwhile is the model's choice (notes/assumptions/21.md).
-/
def Obligations.LinkPauseResumeEnd : Prop :=
  (∀ (s : State) (i : LineId), (s.line i).state = .data → (s.line i).link.phase = .linked →
    (s.line i).quality.rc = .steady → (s.line i).link.peerPaused = false →
    exec (.linkPauseReceived i) s = .next (s.modLine i (fun l => { l with link := { l.link with
      peerPaused := true, resendTimer := .stopped
      pauseTimer := some (s.now + l.profile.pauseLimitS * 1000) } }))) ∧
  (∀ (s : State) (i : LineId) (f : LinkFrame), (s.line i).state = .data → (s.line i).link.phase = .linked →
    (s.line i).quality.rc = .steady → (s.line i).link.peerPaused = true → (s.line i).link.txNow = some f →
    (∀ x ∈ (s.line i).link.sendQueue, x.retries < (s.line i).profile.retryLimit) →
    nextHolds (exec (.linkResumeReceived i) s) (fun t =>
      t = { s with lines := t.lines } ∧
      t.line i = { s.line i with link := (t.line i).link } ∧
      (t.line i).link.peerPaused = false ∧
      (t.line i).link.pauseTimer = none ∧
      (t.line i).link.sendQueue = (s.line i).link.sendQueue.map
        (fun x => { x with retries := x.retries + 1, retx := true }) ∧
      (t.line i).link.resendWait = (s.line i).link.resendWait.filter
          (fun r => !(s.line i).link.sendQueue.any (fun e => e.seq == r.1)) ++
        (s.line i).link.sendQueue.map (fun e => (e.seq, e.payload)) ∧ othersSame i s t)) ∧
  (∀ (s : State) (i : LineId), (s.line i).state = .data → (s.line i).link.phase = .linked →
    (s.line i).quality.rc = .steady → (s.line i).link.farEnd = none → (s.line i).link.dropEnd = false →
    (s.line i).link.txNow = none → (s.line i).link.rateWait = [] → (s.line i).link.endWait = [] →
    nextHolds (exec (.linkEndReceived i) s) (fun t =>
      t = { s with lines := t.lines } ∧
      t.line i = { s.line i with link := (t.line i).link } ∧
      (t.line i).link.farEnd = some .remote ∧
      (t.line i).link.txNow = some .finOk ∧ (t.line i).state = .data ∧ othersSame i s t)) ∧
  (∀ (s : State) (i : LineId), (s.line i).state = .data → (s.line i).link.phase = .closing →
    (s.line i).quality.rc = .steady → (s.line i).link.dropEnd = false →
    exec (.linkEndOkReceived i) s = .next (s.release i .locally)) ∧
  (∀ (s : State) (i : LineId) (q a : Fin 64) (payload : List Byte) (k : AreaId) (f : LinkFrame),
    (s.line i).state = .data → (s.line i).link.phase = .linked → (s.line i).quality.rc = .steady →
    (s.line i).link.sendQueue = [] → a.val = (s.line i).link.n → (s.line i).link.txNow = some f →
    (s.line i).link.e = q.val → s.joined i .rx = some k → (s.area k).room < payload.length →
    exec (.linkDataReceived i q a payload) s = .next (s.modLine i (fun l => { l with link := { l.link with
      localPaused := true
      pauseWait := if l.link.localPaused then l.link.pauseWait else l.link.pauseWait ++ [.pause] } }))) ∧
  (∀ (s : State) (i : LineId) (k : AreaId) (f : LinkFrame), (s.line i).link.localPaused = true →
    s.joined i .rx = some k → (s.line i).link.txNow = some f →
    s.checkResume i = if (s.area k).fifo.length ≤ (s.area k).low then
      s.modLine i (fun l => { l with link := { l.link with
        localPaused := false, pauseWait := l.link.pauseWait ++ [.resume] } }) else s)

/-- A new DATA frame takes the oldest 128 bytes with seq N; a frame sent frees the transmitter, and END_OK sent
releases the call with the reason it was answered for. The free transmitter takes RATE and RATE_OK first, and these
alone outside STEADY, then END, PAUSE and RESUME, an ACK, RESEND requests, resent frames and new frames, the last two
not in a pause or in CLOSING. -/
def Obligations.LinkTransmitter : Prop :=
  (∀ (s : State) (i : LineId) (k : AreaId) (f : LinkFrame) (w : Nat), (s.line i).link.phase = .linked →
    (s.line i).link.farEnd = none → (s.line i).link.endOnSteady = false → (s.line i).link.window = some w →
    (s.line i).link.sendQueue.length < w → (s.line i).link.peerPaused = false →
    (s.line i).quality.rc = .steady → (s.line i).link.resendWait = [] → (s.line i).link.txNow = some f →
    s.joined i .tx = some k → 128 ≤ (s.area k).fifo.length → (s.area k).marks = [] →
    nextHolds (exec (.linkFrameFormed i) s) (fun t =>
      t = { s with lines := t.lines, areas := t.areas } ∧
      t.line i = { s.line i with link := (t.line i).link, queue := (t.line i).queue } ∧
      (t.line i).link.sendQueue = (s.line i).link.sendQueue ++
        [{ seq := (s.line i).link.n, payload := ((s.area k).fifo.take 128).map Prod.fst }] ∧
      (t.line i).link.n = ((s.line i).link.n + 1) % 64 ∧
      (t.line i).link.newWait = (s.line i).link.newWait ++
        [((s.line i).link.n, ((s.area k).fifo.take 128).map Prod.fst)] ∧ (t.area k).fifo = (s.area k).fifo.drop 128 ∧
      (∀ j, j ≠ k → t.area j = s.area j) ∧ othersSame i s t)) ∧
  (∀ (s : State) (i : LineId) (n : Nat), (s.line i).link.txNow = some (.ack n) → (s.line i).link.phase = .linked →
    exec (.linkFrameTransmitted i) s =
      .next (s.modLine i (fun l => ({ l with link.txNow := none } : Line).kick s.now))) ∧
  (∀ (s : State) (i : LineId) (why : EndReason), (s.line i).link.txNow = some .finOk →
    (s.line i).link.farEnd = some why → exec (.linkFrameTransmitted i) s =
      .next ((s.modLine i (fun l => { l with link.txNow := none })).release i why)) ∧
  (∀ (l : Line) (now : Ms), l.link.txNow.isSome = true → l.kick now = l) ∧
  (∀ (l : Line) (now : Ms) (f : LinkFrame) (k : Link), l.link.txNow = none →
    l.link.choose (decide (l.quality.rc = .steady)) = some (f, k) → (l.kick now).link.txNow = some f) ∧
  (∀ (k : Link) (steady : Bool) (f : LinkFrame) (rest : List LinkFrame), k.rateWait = f :: rest →
    k.choose steady = some (f, { k with rateWait := rest })) ∧
  (∀ (k : Link), k.rateWait = [] → k.choose false = none) ∧
  (∀ (k : Link) (f : LinkFrame) (rest : List LinkFrame), k.rateWait = [] → k.endWait = f :: rest →
    k.choose true = some (f, { k with endWait := rest })) ∧
  (∀ (k : Link) (f : LinkFrame) (rest : List LinkFrame), k.rateWait = [] → k.endWait = [] → k.pauseWait = f :: rest →
    k.choose true = some (f, { k with pauseWait := rest })) ∧
  (∀ (k : Link), k.rateWait = [] → k.endWait = [] → k.pauseWait = [] → k.ackWait = true →
    k.choose true = some (.ack k.e, { k with ackWait := false })) ∧
  (∀ (k : Link) (q : Nat) (rest : List Nat), k.rateWait = [] → k.endWait = [] → k.pauseWait = [] →
    k.ackWait = false → k.requestWait = q :: rest → k.choose true = some (.resend q,
      { k with requestWait := rest })) ∧
  (∀ (k : Link), k.rateWait = [] → k.endWait = [] → k.pauseWait = [] → k.ackWait = false → k.requestWait = [] →
    (k.peerPaused = true ∨ k.phase = .closing) → k.choose true = none) ∧
  (∀ (k : Link) (q : Nat) (bs : List Byte) (rest : List (Nat × List Byte)), k.rateWait = [] → k.endWait = [] →
    k.pauseWait = [] → k.ackWait = false → k.requestWait = [] → k.peerPaused = false → k.phase ≠ .closing →
    k.farEnd = none →
    (k.resendWait = (q, bs) :: rest → k.choose true = some (.data q k.e bs, { k with resendWait := rest })) ∧
    (k.resendWait = [] → k.newWait = (q, bs) :: rest →
      k.choose true = some (.data q k.e bs, { k with newWait := rest })))

/-- The link's timers: the resend timer resends the head, the pause limit releases the call, the spacing lets an
acknowledgement due go, the drain limit sends END, and the END_OK wait releases the call. Where an end of the call has
been taken the pause limit changes nothing. The last is the model's reading (notes/assumptions/24.md), and that
CLOSING and the END_OK wait begin as END is made ready its choice (notes/assumptions/21.md). -/
def Obligations.LinkTimers : Prop :=
  (∀ (s : State) (i : LineId) (d : Ms) (x : SendEntry) (f : LinkFrame), (s.line i).link.resendTimer = .running d →
    d ≤ s.now → (s.line i).link.sendQueue = [x] → (s.line i).link.resendWait = [] →
    (s.line i).link.txNow = some f → x.retries < (s.line i).profile.retryLimit →
    nextHolds (exec (.resendTimerExpiry i) s) (fun t =>
      t = { s with lines := t.lines } ∧
      t.line i = { s.line i with link := (t.line i).link } ∧
      (t.line i).link.sendQueue = [{ x with retries := x.retries + 1, retx := true }] ∧
      (t.line i).link.resendWait = [(x.seq, x.payload)] ∧ t.areas = s.areas ∧ othersSame i s t)) ∧
  (∀ (s : State) (i : LineId) (d : Ms), (s.line i).link.peerPaused = true → (s.line i).link.pauseTimer = some d →
    d ≤ s.now → (s.line i).link.ending = none → exec (.pauseTimerExpiry i) s = .next (s.release i .linkFail)) ∧
  (∀ (s : State) (i : LineId) (d : Ms), (s.line i).link.ackSpacing = some d → d ≤ s.now →
    (s.line i).link.ackDue = true → (s.line i).quality.rc = .steady → (s.line i).link.txNow = none →
    (s.line i).link.rateWait = [] → (s.line i).link.endWait = [] → (s.line i).link.pauseWait = [] →
    nextHolds (exec (.ackSpacingExpiry i) s) (fun t =>
      t = { s with lines := t.lines } ∧
      t.line i = { s.line i with link := (t.line i).link } ∧
      (t.line i).link.ackDue = false ∧
      (t.line i).link.txNow = some (.ack (s.line i).link.e) ∧
      (t.line i).link.ackSpacing = some (s.now + 50) ∧ othersSame i s t)) ∧
  (∀ (s : State) (i : LineId) (d : Ms), (s.line i).link.phase = .draining → (s.line i).link.drainTimer = some d →
    d ≤ s.now → (s.line i).quality.rc = .steady → (s.line i).link.txNow = none → (s.line i).link.rateWait = [] →
    (s.line i).link.endWait = [] → nextHolds (exec (.drainTimerExpiry i) s) (fun t =>
      t = { s with lines := t.lines } ∧
      t.line i = { s.line i with link := (t.line i).link } ∧
      (t.line i).link.phase = .closing ∧ (t.line i).link.txNow = some .fin ∧ (t.line i).link.sendQueue = [] ∧
      (t.line i).link.endOkWait = some (s.now + 2000) ∧ othersSame i s t)) ∧
  (∀ (s : State) (i : LineId) (d : Ms), (s.line i).link.phase = .closing → (s.line i).link.endOkWait = some d →
    d ≤ s.now → exec (.endOkWaitExpiry i) s = .next (s.release i .locally)) ∧
  (∀ (s : State) (i : LineId), (s.line i).link.ending ≠ none → exec (.pauseTimerExpiry i) s = .next s)

/-- The opening of a fax call: the receiver's tone ends with OFFER, the sender takes it with the highest step both may
use and sends CHOOSE, the receiver takes the CHOOSE and waits for a training; no OFFER in time ends the call. That the
first record of a training check is due no earlier than 125 ms after its CHOOSE is the model's choice
(notes/assumptions/22.md). -/
def Obligations.FaxNegotiation : Prop :=
  (∀ (s : State) (i : LineId) (d : Ms), (s.line i).fax.role = some .receiver → (s.line i).fax.phase = .establish →
    (s.line i).fax.toneEnd = some d → d ≤ s.now → nextHolds (exec (.faxAnswerToneEnd i) s) (fun t =>
      t = { s with lines := t.lines } ∧
      t.line i = { s.line i with fax := (t.line i).fax, tone := (t.line i).tone } ∧
      (t.line i).fax.phase = .negotiate ∧ (t.line i).tone.gen = none ∧
      (t.line i).fax.sent = some (.offer (ladderStep s.faxLadder (s.line i).copies.faxCeiling).rate
        [.normal, .fine] (s.line i).copies.blockCorrection) ∧
      (t.line i).fax.awaited.map (fun a => (a.sends, a.until_)) = some (1, s.now + 3000) ∧ othersSame i s t)) ∧
  (∀ (s : State) (i : LineId) (d : Ms), (s.line i).fax.role = some .sender → (s.line i).fax.phase = .establish →
    (s.line i).fax.terms = none → (s.line i).fax.toneEnd = some d → d ≤ s.now →
    exec (.faxCallToneExpiry i) s = .next (s.release i .faxProtocol)) ∧
  (∀ (s : State) (i : LineId) (rate k : Nat) (res : List Resolution) (bc : Bool), (s.line i).fax.role = some .sender →
    (s.line i).fax.phase = .establish → (s.line i).fax.terms = none →
    highestRate s.faxLadder rate ((s.line i).copies.faxCeiling + 1) = some k → (s.line i).copies.faxFloor ≤ k →
    nextHolds (exec (.faxOfferReceived i rate res bc) s) (fun t =>
      t = { s with lines := t.lines } ∧
      t.line i = { s.line i with fax := (t.line i).fax, tone := (t.line i).tone } ∧
      (t.line i).fax.phase = .train ∧
      (t.line i).fax.step = some k ∧ (t.line i).fax.tries = 0 ∧
      (t.line i).fax.terms = some ⟨k, if .fine ∈ res then .fine else .normal,
        bc && (s.line i).copies.blockCorrection⟩ ∧
      (t.line i).fax.sent = some (.choose k (if .fine ∈ res then .fine else .normal)
        (bc && (s.line i).copies.blockCorrection)) ∧ (t.line i).tone.gen = none ∧ othersSame i s t)) ∧
  (∀ (s : State) (i : LineId) (k : Nat) (res : Resolution) (bc : Bool), (s.line i).fax.role = some .receiver →
    (s.line i).fax.phase = .negotiate → (s.line i).fax.terms = none →
    nextHolds (exec (.faxChooseReceived i k res bc) s) (fun t =>
      t = { s with lines := t.lines } ∧
      t.line i = { s.line i with
        fax := (t.line i).fax, quality := { (s.line i).quality with nextRecord := some (s.now + 125) } } ∧
      (t.line i).fax.phase = .train ∧
      (t.line i).fax.step = some k ∧ (t.line i).fax.terms = some ⟨k, res, bc⟩ ∧ (t.line i).fax.awaited = none ∧
      (t.line i).fax.recvWait = none ∧ (t.line i).fax.lockWait = some (s.now + 3000) ∧ othersSame i s t))

/-- A fax training at the receiver: a check that locked, with a valid record, few enough wrong bits and a step the
receiver has and its fax_ceiling copy allows is answered TRAIN_OK with A set from its score; one without a lock or
without a valid record, with too many wrong bits, or at a step above the ladder or the copy, and a training that does
not lock within 3000 ms, is answered TRAIN_RETRY. At the sender TRAIN_OK goes on to the page, and TRAIN_RETRY tries
the step once more and then the step below, with the resolution and block correction of the terms; at the floor it
ends the call with TRAIN_FAIL. -/
def Obligations.FaxTraining : Prop :=
  (∀ (s : State) (i : LineId) (k qt n : Nat) (c : CallRecord), (s.line i).fax.role = some .receiver →
    (s.line i).fax.phase = .train → (s.line i).fax.checking = true → (s.line i).fax.checkQt = some qt →
    (s.line i).fax.step = some k → k < s.faxLadder.length → k ≤ (s.line i).copies.faxCeiling →
    n ≤ (ladderStep s.faxLadder k).trainLimit → (s.line i).call = some c →
    nextHolds (exec (.faxCheckEnd i true n) s) (fun t =>
      t = { s with lines := t.lines } ∧
      t.line i = { s.line i with
        call := (t.line i).call, quality := (t.line i).quality, fax := (t.line i).fax, queue := (t.line i).queue } ∧
      (t.line i).fax.phase = .page ∧
      (t.line i).fax.sent = some .trainOk ∧ (t.line i).fax.trained = true ∧
      (t.line i).fax.recvWait = some (s.now + 9000) ∧ (t.line i).quality.a = 8 * qt ∧
      (t.line i).quality.step = some k ∧ (t.line i).call = some { c with finalStep := some k } ∧
      othersSame i s t)) ∧
  (∀ (s : State) (i : LineId) (k qt n : Nat) (locked : Bool), (s.line i).fax.role = some .receiver →
    (s.line i).fax.phase = .train → (s.line i).fax.checking = true → (s.line i).fax.checkQt = some qt →
    (s.line i).fax.step = some k →
    (locked = false ∨ s.faxLadder.length ≤ k ∨ (s.line i).copies.faxCeiling < k ∨
      (ladderStep s.faxLadder k).trainLimit < n) →
    nextHolds (exec (.faxCheckEnd i locked n) s) (fun t =>
      t = { s with lines := t.lines } ∧
      t.line i = { s.line i with fax := (t.line i).fax } ∧
      (t.line i).fax.phase = .train ∧
      (t.line i).fax.sent = some .trainRetry ∧ (t.line i).fax.recvWait = some (s.now + 9000) ∧
      (t.line i).quality = (s.line i).quality ∧ othersSame i s t)) ∧
  (∀ (s : State) (i : LineId) (d : Ms), (s.line i).fax.role = some .receiver → (s.line i).fax.phase = .train →
    (s.line i).fax.lockWait = some d → d ≤ s.now → nextHolds (exec (.faxTrainLockTimeout i) s) (fun t =>
      t = { s with lines := t.lines } ∧
      t.line i = { s.line i with fax := (t.line i).fax } ∧
      (t.line i).fax.sent = some .trainRetry ∧ (t.line i).fax.lockWait = none ∧
      (t.line i).fax.recvWait = some (s.now + 9000) ∧ (t.line i).fax.phase = .train ∧ othersSame i s t)) ∧
  (∀ (s : State) (i : LineId) (k n u : Nat) (res : Resolution) (bc : Bool), (s.line i).state = .fax →
    (s.line i).fax.role = some .sender → (s.line i).fax.phase = .train → (s.line i).fax.step = some k →
    (s.line i).fax.awaited = some ⟨.choose k res bc, n, u⟩ → (s.line i).fax.afterTrain = .page →
    (s.line i).fax.source = some .host → s.txHolds i = false →
    nextHolds (exec (.faxTrainOkReceived i) s) (fun t =>
      t = { s with lines := t.lines } ∧
      t.line i = { s.line i with
        quality := (t.line i).quality, fax := (t.line i).fax, queue := (t.line i).queue, call := (t.line i).call } ∧
      (t.line i).fax.phase = .page ∧
      (t.line i).fax.trained = true ∧ (t.line i).fax.tries = 0 ∧ (t.line i).fax.awaited = none ∧
      (t.line i).quality.step = some k ∧ (t.line i).fax.fill = some (s.now + 5000) ∧ othersSame i s t)) ∧
  (∀ (s : State) (i : LineId) (k k0 n u : Nat) (res : Resolution) (bc : Bool), (s.line i).fax.role = some .sender →
    (s.line i).fax.phase = .train → (s.line i).fax.step = some k → (s.line i).fax.terms = some ⟨k0, res, bc⟩ →
    (s.line i).fax.awaited = some ⟨.choose k res bc, n, u⟩ →
    nextHolds (exec (.faxTrainRetryReceived i) s) (fun t =>
      t = { s with lines := t.lines } ∧
      t.line i = { s.line i with
        fax := (t.line i).fax, tone := (t.line i).tone
        stage := if 1 ≤ (s.line i).fax.tries ∧ k ≤ (s.line i).copies.faxFloor then .idle else (s.line i).stage } ∧
      ((s.line i).fax.tries = 0 → (t.line i).fax.tries = 1 ∧ (t.line i).fax.step = some k ∧
        (t.line i).fax.sent = some (.choose k res bc)) ∧
      (1 ≤ (s.line i).fax.tries → (s.line i).copies.faxFloor < k → (t.line i).fax.tries = 0 ∧
        (t.line i).fax.step = some (k - 1) ∧ (t.line i).fax.sent = some (.choose (k - 1) res bc)) ∧
      (1 ≤ (s.line i).fax.tries → k ≤ (s.line i).copies.faxFloor → (t.line i).fax.phase = .close ∧
        (t.line i).fax.closing = some .trainFail) ∧ othersSame i s t)) ∧
  (∀ (s : State) (i : LineId) (n : Nat) (locked : Bool), (s.line i).fax.role = some .receiver →
    (s.line i).fax.phase = .train → ((s.line i).fax.checking = true ∨ (s.line i).fax.lockWait.isSome = true) →
    (s.line i).fax.checkQt = none → nextHolds (exec (.faxCheckEnd i locked n) s) (fun t =>
      t = { s with lines := t.lines } ∧
      t.line i = { s.line i with fax := { (s.line i).fax with
        checking := false, lockWait := none, sent := some .trainRetry, recvWait := some (s.now + 9000) } } ∧
      othersSame i s t))

/-- A page at the sender. From the host: it begins when the TX area holds something, its bytes leave the area in
order, the mark at the head closes it, and 5000 ms of fill end the call. From the store: the bytes are those of the
page record at hand, the page closes when all of them have been sent and not before, and the next page begins after
the training. The END of the call stops the reading of a document. -/
def Obligations.FaxPageSending : Prop :=
  (∀ (s : State) (i : LineId), (s.line i).fax.role = some .sender → (s.line i).fax.phase = .page →
    (s.line i).fax.begun = false → (s.line i).fax.source = some .host → s.txHolds i = true →
    exec (.faxPageBegin i) s = .next (s.modLine i (fun l => { l with fax := { l.fax with
      pageNo := min 255 (l.fax.pageNo + 1), tally := {}, begun := true, ended := none, fill := none
      block := {} } }))) ∧
  (∀ (s : State) (i : LineId) (k : AreaId) (n : Nat), (s.line i).fax.role = some .sender →
    (s.line i).fax.phase = .page → (s.line i).fax.begun = true → (s.line i).fax.ended = none →
    (s.line i).fax.awaited = none → (s.line i).fax.source = some .host → (s.line i).fax.corrects = false →
    s.joined i .tx = some k → (s.area k).marks = [] → n ≤ (s.area k).fifo.length →
    nextHolds (exec (.faxPageDataSent i n) s) (fun t =>
      t = { s with lines := t.lines, areas := t.areas } ∧
      t.line i = { s.line i with fax := (t.line i).fax, queue := (t.line i).queue } ∧
      (t.area k).fifo = (s.area k).fifo.drop n ∧
      (t.line i).fax.tally =
        (((s.area k).fifo.take n).map Prod.fst).foldl (PageTally.byte false) (s.line i).fax.tally ∧
      (t.line i).fax.phase = .page ∧ (∀ j, j ≠ k → t.area j = s.area j) ∧ othersSame i s t)) ∧
  (∀ (s : State) (i : LineId) (k : AreaId) (m : PageMark) (ms : List (Nat × PageMark)),
    (s.line i).fax.role = some .sender → (s.line i).fax.phase = .page → (s.line i).fax.begun = true →
    (s.line i).fax.ended = none → (s.line i).fax.awaited = none → (s.line i).fax.source = some .host →
    (s.line i).fax.corrects = false → s.joined i .tx = some k → (s.area k).marks = (0, m) :: ms →
    nextHolds (exec (.faxSenderPageEnd i) s) (fun t =>
      t = { s with lines := t.lines, areas := t.areas } ∧
      t.line i = { s.line i with fax := (t.line i).fax, queue := (t.line i).queue } ∧
      (t.line i).fax.phase = .afterPage ∧
      (t.line i).fax.ended = some m ∧
      (t.line i).fax.sent = some (if m = .more then .morePages else .lastPage) ∧
      (t.line i).fax.awaited.map (fun a => (a.sends, a.until_)) = some (1, s.now + 3000) ∧
      t.area k = { s.area k with marks := ms } ∧ (∀ j, j ≠ k → t.area j = s.area j) ∧ othersSame i s t)) ∧
  (∀ (s : State) (i : LineId) (d : Ms) (x : FaxTerms), (s.line i).fax.role = some .sender →
    (s.line i).fax.phase = .page → (s.line i).fax.fill = some d → d ≤ s.now → (s.line i).fax.terms = some x →
    nextHolds (exec (.faxFillExpiry i) s) (fun t =>
      t = { s with lines := t.lines } ∧
      t.line i = { s.line i with fax := (t.line i).fax, tone := (t.line i).tone, stage := .idle } ∧
      (t.line i).fax.phase = .close ∧
      (t.line i).fax.closing = some .hostUnderrun ∧ (t.line i).fax.sent = some .fin ∧ othersSame i s t)) ∧
  (∀ (s : State) (i : LineId) (k : AreaId) (id n : Nat), (s.line i).fax.role = some .sender →
      (s.line i).fax.phase = .page → (s.line i).fax.begun = true →
    (s.line i).fax.ended = none → (s.line i).fax.awaited = none → (s.line i).fax.source = some (.store id) →
    (s.line i).fax.corrects = false → s.joined i .stage = some k → (s.area k).marks = [] →
    n ≤ (s.area k).fifo.length → nextHolds (exec (.faxPageDataSent i n) s) (fun t =>
      t = { s with lines := t.lines, areas := t.areas } ∧
      t.line i = { s.line i with queue := (t.line i).queue, fax := { (s.line i).fax with
        tally := (((s.area k).fifo.take n).map Prod.fst).foldl (PageTally.byte false) (s.line i).fax.tally } } ∧
      (t.area k).fifo = (s.area k).fifo.drop n ∧ (∀ j, j ≠ k → t.area j = s.area j) ∧ othersSame i s t)) ∧
  (∀ (s : State) (i : LineId) (k : AreaId) (id : Nat) (e : Entry) (m : PageMark),
      (s.line i).fax.role = some .sender → (s.line i).fax.phase = .page → (s.line i).fax.begun = true →
    (s.line i).fax.ended = none → (s.line i).fax.awaited = none → (s.line i).fax.source = some (.store id) →
    (s.line i).fax.corrects = false → s.joined i .stage = some k → s.rangeTaken i = true → s.entry? id = some e →
    m = (if (s.line i).fax.docPos + 1 < e.pages.length then .more else .last) →
    nextHolds (exec (.faxSenderPageEnd i) s) (fun t =>
      t = { s with lines := t.lines, areas := t.areas } ∧
      t.line i = { s.line i with
        fax := { (s.line i).fax with
          phase := .afterPage, ended := some m, fill := none, awaited := (t.line i).fax.awaited
          sent := some (if m = .more then .morePages else .lastPage) }
        stage := .idle, queue := (t.line i).queue } ∧
      (t.line i).fax.awaited.map (fun a => (a.sends, a.until_)) = some (1, s.now + 3000) ∧
      (∀ j, j ≠ k → t.area j = s.area j) ∧ othersSame i s t)) ∧
  (∀ (s : State) (i : LineId) (k : AreaId) (id : Nat), (s.line i).fax.role = some .sender →
      (s.line i).fax.phase = .page → (s.line i).fax.begun = true →
    (s.line i).fax.ended = none → (s.line i).fax.awaited = none → (s.line i).fax.source = some (.store id) →
    s.joined i .stage = some k → s.rangeTaken i = false → exec (.faxSenderPageEnd i) s = .next s) ∧
  (∀ (s : State) (i : LineId) (id k n u : Nat) (c : CallRecord) (e : Entry) (p : PageRecord) (x : FaxTerms),
    (s.line i).state = .fax → (s.line i).fax.role = some .sender → (s.line i).fax.phase = .train →
    (s.line i).fax.step = some k → (s.line i).fax.awaited = some ⟨.choose k x.res x.blockCorrection, n, u⟩ →
    (s.line i).fax.afterTrain = .page → (s.line i).fax.trained = true → (s.line i).call = some c →
    (s.line i).fax.source = some (.store id) → s.entry? id = some e → e.pages[(s.line i).fax.docPos]? = some p →
    nextHolds (exec (.faxTrainOkReceived i) s) (fun t =>
      t = { s with lines := t.lines, areas := t.areas } ∧
      t.line i = { s.line i with
        call := some { c with finalStep := some k }, quality := { (s.line i).quality with step := some k }
        fax := { (s.line i).fax with
          phase := .page, awaited := none, tries := 0, begun := true, ended := none, fill := none, tally := {}
          block := {}, pageNo := min 255 ((s.line i).fax.pageNo + 1) }
        stage := .reading id p.start (p.start + p.length), queue := (t.line i).queue } ∧
      (∀ j, s.joined i .stage = some j → (t.area j).fifo = []) ∧
      (∀ j, s.joined i .stage ≠ some j → t.area j = s.area j) ∧ othersSame i s t))

/-- A page received to the host without block correction: its bytes join the RX area and the tally, an error burst
marks the line in hand, and the close gives the verdict, queues the page mark and counts the page. -/
def Obligations.FaxPageReceiving : Prop :=
  (∀ (s : State) (i : LineId) (k : AreaId) (bytes : List Byte), (s.line i).fax.role = some .receiver →
    (s.line i).fax.phase = .page → (s.line i).fax.begun = true → (s.line i).fax.corrects = false →
    (s.line i).copies.faxTo = .host → (s.line i).fax.heldMark = none → s.joined i .rx = some k →
    bytes.length ≤ (s.area k).room → nextHolds (exec (.faxPageDataReceived i bytes) s) (fun t =>
      t = { s with lines := t.lines, areas := t.areas } ∧
      t.line i = { s.line i with queue := (t.line i).queue, fax := (t.line i).fax } ∧
      (t.area k).fifo = (s.area k).fifo ++ bytes.map (fun b => (b, s.now)) ∧
      (t.line i).fax.tally = bytes.foldl (PageTally.byte false) (s.line i).fax.tally ∧
      (t.line i).fax.recvWait = none ∧ (∀ j, j ≠ k → t.area j = s.area j) ∧ othersSame i s t)) ∧
  (∀ (s : State) (i : LineId), (s.line i).fax.role = some .receiver → (s.line i).fax.phase = .page →
    (s.line i).fax.begun = true → (s.line i).fax.corrects = false → exec (.faxErrorBurst i) s =
      .next (s.modLine i (fun l => { l with fax.tally.lineBad := true }))) ∧
  (∀ (s : State) (i : LineId) (k : AreaId) (last : Bool) (v : Verdict), (s.line i).fax.role = some .receiver →
    (s.line i).fax.phase = .page → (s.line i).fax.begun = true → (s.line i).fax.corrects = false →
    (s.line i).copies.faxTo = .host → (s.line i).fax.heldMark = none → s.joined i .rx = some k →
    (s.area k).marks.length < 8 → v = (s.line i).fax.tally.verdict (s.line i).profile (s.line i).quality.q
      (ladderStep s.faxLadder ((s.line i).quality.step.getD 0)).d →
    nextHolds (exec (.faxPageCloseReceived i last false) s) (fun t =>
      t = { s with lines := t.lines, areas := t.areas } ∧
      t.line i = { s.line i with fax := (t.line i).fax, queue := (t.line i).queue } ∧
      (t.line i).fax.sent = some (.verdict v false (s.line i).quality.q) ∧
      (t.line i).fax.pages = min 255 ((s.line i).fax.pages + 1) ∧ (t.line i).fax.begun = false ∧
      (t.line i).fax.recvWait = some (s.now + 9000) ∧
      (t.line i).fax.phase = (if last then .afterPage else if v = .good then .page else .train) ∧
      (t.area k).marks = (s.area k).marks ++ [((s.area k).occupancy, if last then .last else .more)] ∧
      (t.area k).fifo = (s.area k).fifo ∧ (∀ j, j ≠ k → t.area j = s.area j) ∧ othersSame i s t))

/-- The verdict of a page without block correction, whatever the limits: bad with no line, good within good_pct and
run_limit where Q is not below the step's D, and bad where it is neither within these nor within accept_pct and twice
run_limit; any other page asks for a retrain. -/
def Obligations.PageVerdict : Prop :=
  (∀ (t : PageTally) (p : Profile) (q d : Nat),
    (t.verdict p q d = .good ↔ t.lines ≠ 0 ∧ t.bad * 100 ≤ p.goodPct * t.lines ∧ t.longest ≤ p.runLimit ∧ d ≤ q) ∧
    (t.verdict p q d = .bad ↔ t.lines = 0 ∨
      ((p.goodPct * t.lines < t.bad * 100 ∨ p.runLimit < t.longest) ∧
        (p.acceptPct * t.lines < t.bad * 100 ∨ 2 * p.runLimit < t.longest))) ∧
    (p.goodPct ≤ p.acceptPct → (t.verdict p q d = .bad ↔
      t.lines = 0 ∨ p.acceptPct * t.lines < t.bad * 100 ∨ 2 * p.runLimit < t.longest)))

/-- What a verdict makes a sender do. At a host sender GOOD goes on to the next page, BAD trains again at the retrain
target, and the verdict of the last page closes the call. A sender from the store goes to its next page or sends the
page again from its first byte, at most as often as resends are allowed, gives the page up after that, and ends with
its last page, or with the stop flag set, with the reason of that end; the END stops the reading of its document. That
the retrain target is never below the floor is the model's choice (notes/assumptions/12.md). -/
def Obligations.FaxVerdictActs : Prop :=
  (∀ (s : State) (i : LineId) (q n u : Nat), (s.line i).state = .fax → (s.line i).fax.role = some .sender →
    (s.line i).fax.phase = .afterPage → (s.line i).fax.awaited = some ⟨.morePages, n, u⟩ →
    (s.line i).fax.source = some .host → (s.line i).fax.ended = some .more → s.txHolds i = false →
    nextHolds (exec (.faxVerdictReceived i .good false q) s) (fun t =>
      t = { s with lines := t.lines } ∧
      t.line i = { s.line i with quality := (t.line i).quality, fax := (t.line i).fax, queue := (t.line i).queue } ∧
      (t.line i).fax.phase = .page ∧
      (t.line i).fax.pages = min 255 ((s.line i).fax.pages + 1) ∧ (t.line i).fax.begun = false ∧
      (t.line i).quality.a = 8 * q ∧ (t.line i).fax.fill = some (s.now + 5000) ∧ othersSame i s t)) ∧
  (∀ (s : State) (i : LineId) (q n u k : Nat), (s.line i).state = .fax → (s.line i).fax.role = some .sender →
    (s.line i).fax.phase = .afterPage → (s.line i).fax.awaited = some ⟨.morePages, n, u⟩ →
    (s.line i).fax.source = some .host → (s.line i).fax.ended = some .more → (s.line i).fax.step = some k →
    nextHolds (exec (.faxVerdictReceived i .bad false q) s) (fun t =>
      t = { s with lines := t.lines } ∧
      t.line i = { s.line i with fax := (t.line i).fax, queue := (t.line i).queue, quality := (t.line i).quality } ∧
      (t.line i).fax.phase = .train ∧
      (t.line i).fax.pages = (s.line i).fax.pages ∧ (t.line i).fax.tries = 0 ∧
      (t.line i).fax.step = some (bestStep s.faxLadder (s.line i).copies.faxFloor q (k + 1)) ∧
      othersSame i s t)) ∧
  (∀ (s : State) (i : LineId) (q n u : Nat) (v : Verdict) (x : FaxTerms), (s.line i).state = .fax →
    (s.line i).fax.role = some .sender → (s.line i).fax.phase = .afterPage →
    (s.line i).fax.awaited = some ⟨.lastPage, n, u⟩ → (s.line i).fax.source = some .host →
    (s.line i).fax.ended = some .last → (s.line i).fax.terms = some x →
    nextHolds (exec (.faxVerdictReceived i v false q) s) (fun t =>
      t = { s with lines := t.lines } ∧
      t.line i = { s.line i with
        fax := (t.line i).fax, stage := .idle, queue := (t.line i).queue, tone := (t.line i).tone,
          quality := (t.line i).quality } ∧
      (t.line i).fax.phase = .close ∧
      (t.line i).fax.closing = some .done ∧ (t.line i).fax.sent = some .fin ∧ othersSame i s t)) ∧
  (∀ (s : State) (i : LineId) (q n u id : Nat) (e : Entry) (p : PageRecord), (s.line i).state = .fax →
      (s.line i).fax.role = some .sender →
    (s.line i).fax.phase = .afterPage →
    (s.line i).fax.awaited = some ⟨.morePages, n, u⟩ → (s.line i).fax.source = some (.store id) →
    (s.line i).fax.ended = some .more → s.entry? id = some e → e.pages[(s.line i).fax.docPos + 1]? = some p →
    nextHolds (exec (.faxVerdictReceived i .good false q) s) (fun t =>
      t = { s with lines := t.lines, areas := t.areas } ∧
      t.line i = { s.line i with
        quality := { (s.line i).quality with a := 8 * q }, fax := (t.line i).fax, queue := (t.line i).queue
        stage := .reading id p.start (p.start + p.length) } ∧
      (t.line i).fax.phase = .page ∧ (t.line i).fax.begun = true ∧
      (t.line i).fax.docPos = (s.line i).fax.docPos + 1 ∧ (t.line i).fax.docResends = 0 ∧
      (t.line i).fax.pages = min 255 ((s.line i).fax.pages + 1) ∧
      (t.line i).fax.pageNo = min 255 ((s.line i).fax.pageNo + 1) ∧
      (∀ j, s.joined i .stage = some j → (t.area j).fifo = []) ∧
      (∀ j, s.joined i .stage ≠ some j → t.area j = s.area j) ∧ othersSame i s t)) ∧
  (∀ (s : State) (i : LineId) (q n u id k : Nat) (m : PageMark), (s.line i).state = .fax →
      (s.line i).fax.role = some .sender →
    (s.line i).fax.phase = .afterPage →
    (s.line i).fax.awaited = some ⟨(if m = .more then .morePages else .lastPage), n, u⟩ →
    (s.line i).fax.source = some (.store id) → (s.line i).fax.ended = some m → (s.line i).fax.docResends < 2 →
    (s.line i).fax.step = some k → nextHolds (exec (.faxVerdictReceived i .bad false q) s) (fun t =>
      t = { s with lines := t.lines } ∧
      t.line i = { s.line i with
        quality := { (s.line i).quality with a := 8 * q }, fax := (t.line i).fax, queue := (t.line i).queue } ∧
      (t.line i).fax.phase = .train ∧ (t.line i).fax.afterTrain = .page ∧
      (t.line i).fax.docPos = (s.line i).fax.docPos ∧
      (t.line i).fax.docResends = (s.line i).fax.docResends + 1 ∧ (t.line i).fax.pages = (s.line i).fax.pages ∧
      (t.line i).fax.step = some (bestStep s.faxLadder (s.line i).copies.faxFloor q (k + 1)) ∧
      othersSame i s t)) ∧
  (∀ (s : State) (i : LineId) (q n u id k : Nat) (v : Verdict), (s.line i).state = .fax →
      (s.line i).fax.role = some .sender →
    (s.line i).fax.phase = .afterPage →
    (s.line i).fax.awaited = some ⟨.morePages, n, u⟩ → (s.line i).fax.source = some (.store id) →
    (s.line i).fax.ended = some .more → v ≠ .good → (v = .bad → 2 ≤ (s.line i).fax.docResends) →
    (s.line i).fax.step = some k → nextHolds (exec (.faxVerdictReceived i v false q) s) (fun t =>
      t = { s with lines := t.lines } ∧
      t.line i = { s.line i with
        quality := { (s.line i).quality with a := 8 * q }, fax := (t.line i).fax, queue := (t.line i).queue } ∧
      (t.line i).fax.phase = .train ∧ (t.line i).fax.afterTrain = .page ∧
      (t.line i).fax.docPos = (s.line i).fax.docPos + 1 ∧ (t.line i).fax.docResends = 0 ∧
      (t.line i).fax.step = some (bestStep s.faxLadder (s.line i).copies.faxFloor q (k + 1)) ∧
      othersSame i s t)) ∧
  (∀ (s : State) (i : LineId) (q n u id : Nat) (v : Verdict) (stop : Bool) (x : FaxTerms), (s.line i).state = .fax →
      (s.line i).fax.role = some .sender →
    (s.line i).fax.phase = .afterPage →
    (s.line i).fax.awaited = some ⟨.lastPage, n, u⟩ → (s.line i).fax.ended = some .last →
    ((s.line i).fax.source = some .host ∨ ((s.line i).fax.source = some (.store id) ∧
      (v = .bad → 2 ≤ (s.line i).fax.docResends))) → (s.line i).fax.terms = some x →
    nextHolds (exec (.faxVerdictReceived i v stop q) s) (fun t =>
      t = { s with lines := t.lines } ∧
      t.line i = { s.line i with
        fax := (t.line i).fax, stage := .idle, queue := (t.line i).queue, tone := { (s.line i).tone with gen := none }
        quality := { (s.line i).quality with a := 8 * q } } ∧
      (t.line i).fax.phase = .close ∧ (t.line i).fax.closing = some .done ∧ (t.line i).fax.sent = some .fin ∧
      othersSame i s t)) ∧
  (∀ (s : State) (i : LineId) (q n u id : Nat) (v : Verdict) (m : PageMark) (x : FaxTerms),
      (s.line i).state = .fax → (s.line i).fax.role = some .sender →
    (s.line i).fax.phase = .afterPage →
    (s.line i).fax.awaited = some ⟨(if m = .more then .morePages else .lastPage), n, u⟩ →
    (s.line i).fax.ended = some m → (m = .more ∨ ((s.line i).fax.source = some (.store id) ∧ v = .bad ∧
      (s.line i).fax.docResends < 2)) → (s.line i).fax.terms = some x →
    nextHolds (exec (.faxVerdictReceived i v true q) s) (fun t =>
      t = { s with lines := t.lines } ∧
      t.line i = { s.line i with
        fax := (t.line i).fax, stage := .idle, queue := (t.line i).queue, tone := { (s.line i).tone with gen := none }
        quality := { (s.line i).quality with a := 8 * q } } ∧
      (t.line i).fax.phase = .close ∧ (t.line i).fax.closing = some .remote ∧ (t.line i).fax.sent = some .fin ∧
      (t.line i).fax.stop = true ∧ othersSame i s t))

/-- Block correction, at the receiver: a frame is kept once under its seq; BLOCK_END gives the block its number and
count, drops the frames at or above the count and is answered with the missing seqs, and a complete block is delivered
in seq order. A BLOCK_END repeated for a delivered block of the page is answered with the empty map; one that comes
before any frame of its page begins page and block and is answered with all its seqs, the model's choice
(notes/assumptions/12.md). At the sender: bytes fill the block, and at 4096 it is sent whole in round 1; a map sends
the listed frames again in the next round, first training one step lower where it lists more than 8 and the step is
above the floor, or one step lower from round 1 again after round 4, at most twice in a block; an empty map goes on to
the next block, or closes the page whose last block it was. -/
def Obligations.FaxBlocks : Prop :=
  (∀ (s : State) (i : LineId) (q : Fin 32) (payload : List Byte), (s.line i).fax.role = some .receiver →
    (s.line i).fax.phase = .page → (s.line i).fax.begun = true → (s.line i).fax.corrects = true →
    (s.line i).fax.block.inHand = true → nextHolds (exec (.faxBlockFrameReceived i q payload) s) (fun t =>
      t = { s with lines := t.lines } ∧
      t.line i = { s.line i with fax := (t.line i).fax } ∧
      (t.line i).fax.block.got = (if (s.line i).fax.block.got.any (fun g => g.1 == q.val)
        then (s.line i).fax.block.got else (s.line i).fax.block.got ++ [(q.val, payload)]) ∧
      (t.line i).fax.recvWait = none ∧ t.areas = s.areas ∧ othersSame i s t)) ∧
  (∀ (s : State) (i : LineId) (n c : Nat), (s.line i).fax.role = some .receiver → (s.line i).fax.phase = .page →
    (s.line i).fax.begun = true → (s.line i).fax.corrects = true → (s.line i).fax.block.inHand = true →
    (s.line i).fax.block.missing c ≠ [] → nextHolds (exec (.faxBlockEndReceived i n c) s) (fun t =>
      t = { s with lines := t.lines } ∧
      t.line i = { s.line i with fax := { (s.line i).fax with
        block := { (s.line i).fax.block with
          number := n, count := c, got := (s.line i).fax.block.got.filter (fun g => decide (g.1 < c)) }
        sent := some (.blockMap n ((s.line i).fax.block.missing c))
        recvWait := some (s.now + 9000) } } ∧
      othersSame i s t)) ∧
  (∀ (s : State) (i : LineId) (k : AreaId) (n c : Nat) (out : List Byte), (s.line i).fax.role = some .receiver →
      (s.line i).fax.phase = .page →
    (s.line i).fax.begun = true → (s.line i).fax.corrects = true → (s.line i).fax.block.inHand = true →
    (s.line i).fax.block.missing c = [] → (s.line i).copies.faxTo = .host → (s.line i).fax.heldMark = none →
    s.joined i .rx = some k → out = ((List.range c).filterMap (fun q =>
      ((s.line i).fax.block.got.find? (fun g => g.1 == q)).map Prod.snd)).flatten → out.length ≤ (s.area k).room →
    nextHolds (exec (.faxBlockEndReceived i n c) s) (fun t =>
      t = { s with lines := t.lines, areas := t.areas } ∧
      t.line i = { s.line i with fax := (t.line i).fax, queue := (t.line i).queue } ∧
      (t.line i).fax = { (s.line i).fax with
        block := { (s.line i).fax.block with
          number := n, count := c, got := (s.line i).fax.block.got.filter (fun g => decide (g.1 < c)),
            inHand := false }
        tally := out.foldl (PageTally.byte false) (s.line i).fax.tally
        sent := some (.blockMap n []), recvWait := some (s.now + 9000) } ∧
      (t.area k).fifo = (s.area k).fifo ++ out.map (fun b => (b, s.now)) ∧
      (t.area k).marks = (s.area k).marks ∧ (∀ j, j ≠ k → t.area j = s.area j) ∧ othersSame i s t)) ∧
  (∀ (s : State) (i : LineId) (n c m u : Nat), (s.line i).fax.role = some .sender → (s.line i).fax.phase = .page →
    (s.line i).fax.awaited = some ⟨.blockEnd n c, m, u⟩ → (s.line i).fax.ended = none →
    nextHolds (exec (.faxBlockMapReceived i n []) s) (fun t =>
      t = { s with lines := t.lines } ∧
      t.line i = { s.line i with fax := (t.line i).fax } ∧
      (t.line i).fax.awaited = none ∧
      (t.line i).fax.block = { number := ((s.line i).fax.block.number + 1) % 256 } ∧
      (t.line i).fax.phase = .page ∧ othersSame i s t)) ∧
  (∀ (s : State) (i : LineId) (n c m u : Nat) (missing : List Nat), (s.line i).fax.role = some .sender →
    (s.line i).fax.phase = .page → (s.line i).fax.awaited = some ⟨.blockEnd n c, m, u⟩ → missing ≠ [] →
    missing.length ≤ 8 → (s.line i).fax.block.round < 4 → nextHolds (exec (.faxBlockMapReceived i n missing) s)
      (fun t =>
      t = { s with lines := t.lines } ∧
      t.line i = { s.line i with fax := (t.line i).fax } ∧
      (t.line i).fax.block.round = (s.line i).fax.block.round + 1 ∧
        (t.line i).fax.sent = some (.blockEnd (s.line i).fax.block.number (s.line i).fax.block.frames) ∧
        (t.line i).fax.block.sending = missing ∧ (t.line i).fax.block.bytes = (s.line i).fax.block.bytes ∧
        (t.line i).fax.phase = .page ∧ othersSame i s t)) ∧
  (∀ (s : State) (i : LineId) (n c m u : Nat) (w : PageMark), (s.line i).fax.role = some .sender →
      (s.line i).fax.phase = .page →
    (s.line i).fax.awaited = some ⟨.blockEnd n c, m, u⟩ → (s.line i).fax.ended = some w →
    nextHolds (exec (.faxBlockMapReceived i n []) s) (fun t =>
      t = { s with lines := t.lines } ∧
      t.line i = { s.line i with fax := (t.line i).fax } ∧
      (t.line i).fax.phase = .afterPage ∧ (t.line i).fax.block = {} ∧
      (t.line i).fax.sent = some (if w = .more then .morePages else .lastPage) ∧
      (t.line i).fax.awaited.map (fun a => (a.sends, a.until_)) = some (1, s.now + 3000) ∧ othersSame i s t)) ∧
  (∀ (s : State) (i : LineId) (n c m u k : Nat) (missing : List Nat), (s.line i).fax.role = some .sender →
      (s.line i).fax.phase = .page →
    (s.line i).fax.awaited = some ⟨.blockEnd n c, m, u⟩ → missing ≠ [] → 4 ≤ (s.line i).fax.block.round →
      (s.line i).fax.block.fallbacks < 2 →
    (s.line i).fax.step = some k → nextHolds (exec (.faxBlockMapReceived i n missing) s) (fun t =>
      t = { s with lines := t.lines } ∧
      t.line i = { s.line i with fax := (t.line i).fax } ∧
      (t.line i).fax.phase = .train ∧ (t.line i).fax.step = some (max (s.line i).copies.faxFloor (k - 1)) ∧
      (t.line i).fax.tries = 0 ∧ (t.line i).fax.afterTrain = .resend missing 1 ∧
      (t.line i).fax.block = { (s.line i).fax.block with
        fallbacks := (s.line i).fax.block.fallbacks + 1, round := 0 } ∧
      (∀ x, (s.line i).fax.terms = some x → (t.line i).fax.sent =
        some (.choose (max (s.line i).copies.faxFloor (k - 1)) x.res x.blockCorrection)) ∧ othersSame i s t)) ∧
  (∀ (s : State) (i : LineId) (n c m u : Nat) (missing : List Nat) (x : FaxTerms),
      (s.line i).fax.role = some .sender → (s.line i).fax.phase = .page →
    (s.line i).fax.awaited = some ⟨.blockEnd n c, m, u⟩ → missing ≠ [] → 4 ≤ (s.line i).fax.block.round →
      2 ≤ (s.line i).fax.block.fallbacks →
    (s.line i).fax.terms = some x → nextHolds (exec (.faxBlockMapReceived i n missing) s) (fun t =>
      t = { s with lines := t.lines } ∧
      t.line i = { s.line i with fax := (t.line i).fax, tone := (t.line i).tone, stage := .idle } ∧
      (t.line i).fax.phase = .close ∧ (t.line i).fax.closing = some .faxProtocol ∧
      (t.line i).fax.sent = some .fin ∧ othersSame i s t)) ∧
  (∀ (s : State) (i : LineId) (n c m u k : Nat) (missing : List Nat), (s.line i).fax.role = some .sender →
      (s.line i).fax.phase = .page →
    (s.line i).fax.awaited = some ⟨.blockEnd n c, m, u⟩ → 8 < missing.length → (s.line i).fax.block.round < 4 →
      (s.line i).fax.step = some k →
    (s.line i).copies.faxFloor < k → nextHolds (exec (.faxBlockMapReceived i n missing) s) (fun t =>
      t = { s with lines := t.lines } ∧
      t.line i = { s.line i with fax := (t.line i).fax } ∧
      (t.line i).fax.phase = .train ∧ (t.line i).fax.step = some (k - 1) ∧ (t.line i).fax.tries = 0 ∧
      (t.line i).fax.afterTrain = .resend missing ((s.line i).fax.block.round + 1) ∧
      (t.line i).fax.block = (s.line i).fax.block ∧ othersSame i s t)) ∧
  (∀ (s : State) (i : LineId) (k m u r : Nat) (missing : List Nat) (x : FaxTerms) (c : CallRecord),
    (s.line i).state = .fax → (s.line i).fax.role = some .sender → (s.line i).fax.phase = .train →
    (s.line i).fax.step = some k → (s.line i).fax.terms = some x → (s.line i).call = some c →
    (s.line i).fax.awaited = some ⟨.choose k x.res x.blockCorrection, m, u⟩ →
    (s.line i).fax.afterTrain = .resend missing r → (s.line i).fax.trained = true →
    nextHolds (exec (.faxTrainOkReceived i) s) (fun t =>
      t = { s with lines := t.lines } ∧
      t.line i = { s.line i with
        quality := { (s.line i).quality with step := some k }, fax := (t.line i).fax
        call := some { c with finalStep := some k } } ∧
      (t.line i).fax.phase = .page ∧ (t.line i).fax.tries = 0 ∧ (t.line i).fax.block.round = r ∧
      (t.line i).fax.block.sending = missing ∧ (t.line i).fax.block.bytes = (s.line i).fax.block.bytes ∧
      (t.line i).fax.sent = some (.blockEnd (s.line i).fax.block.number (s.line i).fax.block.frames) ∧
      othersSame i s t)) ∧
  (∀ (s : State) (i : LineId) (k : AreaId) (n : Nat), (s.line i).fax.role = some .sender →
    (s.line i).fax.phase = .page → (s.line i).fax.begun = true → (s.line i).fax.ended = none →
    (s.line i).fax.awaited = none → (s.line i).fax.source = some .host → (s.line i).fax.corrects = true →
    s.joined i .tx = some k → (s.area k).marks = [] → n ≤ (s.area k).fifo.length →
    (s.line i).fax.block.bytes.length + n ≤ 4096 → nextHolds (exec (.faxPageDataSent i n) s) (fun t =>
      t = { s with lines := t.lines, areas := t.areas } ∧
      t.line i = { s.line i with fax := (t.line i).fax, queue := (t.line i).queue } ∧
      (t.area k).fifo = (s.area k).fifo.drop n ∧
      (t.line i).fax.block.bytes = (s.line i).fax.block.bytes ++ ((s.area k).fifo.take n).map Prod.fst ∧
      ((s.line i).fax.block.bytes.length + n < 4096 → (t.line i).fax.awaited = none ∧
        (t.line i).fax.block.sending = (s.line i).fax.block.sending) ∧
      ((s.line i).fax.block.bytes.length + n = 4096 → (t.line i).fax.block.round = 1 ∧
        (t.line i).fax.block.sending = List.range 32 ∧
        (t.line i).fax.sent = some (.blockEnd (s.line i).fax.block.number 32) ∧
        (t.line i).fax.awaited.map Awaited.sends = some 1) ∧
      (t.line i).fax.phase = .page ∧ (∀ j, j ≠ k → t.area j = s.area j) ∧ othersSame i s t)) ∧
  (∀ (s : State) (i : LineId) (n c m u k : Nat) (missing : List Nat), (s.line i).fax.role = some .sender →
    (s.line i).fax.phase = .page → (s.line i).fax.awaited = some ⟨.blockEnd n c, m, u⟩ → missing ≠ [] →
    (s.line i).fax.block.round < 4 → (s.line i).fax.step = some k → k ≤ (s.line i).copies.faxFloor →
    nextHolds (exec (.faxBlockMapReceived i n missing) s) (fun t =>
      t = { s with lines := t.lines } ∧
      t.line i = { s.line i with fax := { (s.line i).fax with
        fill := none, sent := some (.blockEnd (s.line i).fax.block.number (s.line i).fax.block.frames)
        awaited := (t.line i).fax.awaited
        block := { (s.line i).fax.block with
          count := (s.line i).fax.block.frames, round := (s.line i).fax.block.round + 1, sending := missing } } } ∧
      (t.line i).fax.awaited.map (fun a => (a.sends, a.until_)) = some (1, s.now + 3000) ∧ othersSame i s t)) ∧
  (∀ (s : State) (i : LineId) (n c : Nat), (s.line i).fax.role = some .receiver →
    ((s.line i).fax.phase = .page ∨ (s.line i).fax.phase = .afterPage) → (s.line i).fax.begun = false →
    (s.line i).fax.corrects = true → (s.line i).copies.faxTo = .host → 1 ≤ c →
    nextHolds (exec (.faxBlockEndReceived i n c) s) (fun t =>
      t = { s with lines := t.lines } ∧
      t.line i = { s.line i with fax := (t.line i).fax, quality := (t.line i).quality } ∧
      (t.line i).fax.begun = true ∧ (t.line i).fax.phase = .page ∧
      (t.line i).fax.pageNo = min 255 ((s.line i).fax.pageNo + 1) ∧
      (t.line i).fax.block = { number := n, inHand := true, count := c } ∧
      (t.line i).fax.sent = some (.blockMap n (List.range c)) ∧
      (t.line i).fax.recvWait = some (s.now + 9000) ∧ othersSame i s t)) ∧
  (∀ (s : State) (i : LineId) (n c : Nat), (s.line i).fax.role = some .receiver → (s.line i).fax.phase = .page →
    (s.line i).fax.begun = true → (s.line i).fax.corrects = true → (s.line i).fax.block.inHand = false →
    (s.line i).fax.block.count = c → 1 ≤ c → (s.line i).fax.block.number = n →
    exec (.faxBlockEndReceived i n c) s = .next (s.modLine i (fun l => { l with fax := { l.fax with
      sent := some (.blockMap n []), recvWait := some (s.now + 9000) } })))

/-- END and the waits of a fax call: END received or transmitted releases the call, a message without a response goes
three times in all, and the receive wait closes the call. A call already in CLOSE keeps the reason of its first cause
(R136; so too where a loop drop or LINE_DISABLE comes in CLOSE, notes/assumptions/24.md). -/
def Obligations.FaxEndAndWaits : Prop :=
  (∀ (s : State) (i : LineId), (s.line i).fax.role = some .sender → (s.line i).fax.phase ≠ .close →
    exec (.faxEndReceived i .sender) s = .next (s.release i .remote)) ∧
  (∀ (s : State) (i : LineId), (s.line i).fax.role = some .receiver → (s.line i).fax.phase ≠ .close →
    (s.line i).fax.corrects = false → exec (.faxEndReceived i .receiver) s =
      .next (s.release i (if (s.line i).fax.final = true then .done else .remote))) ∧
  (∀ (s : State) (i : LineId) (r : FaxRole) (why : EndReason), (s.line i).fax.role = some r →
    (s.line i).fax.phase = .close → (s.line i).fax.closing = some why →
    exec (.faxEndTransmitted i r) s = .next (s.release i why)) ∧
  (∀ (s : State) (i : LineId) (r : FaxRole) (a : Awaited), (s.line i).fax.role = some r →
    (s.line i).fax.awaited = some a → a.until_ ≤ s.now → a.sends < 3 →
    nextHolds (exec (.faxResponseWaitExpiry i r) s) (fun t =>
      t = { s with lines := t.lines } ∧
      t.line i = { s.line i with fax := (t.line i).fax } ∧
      (t.line i).fax.sent = some a.msg ∧
      (t.line i).fax.awaited.map (fun b => (b.msg, b.sends)) = some (a.msg, a.sends + 1) ∧
      (t.line i).fax.phase = (s.line i).fax.phase ∧ othersSame i s t)) ∧
  (∀ (s : State) (i : LineId) (r : FaxRole) (a : Awaited) (x : FaxTerms), (s.line i).fax.role = some r →
    (s.line i).fax.awaited = some a → a.until_ ≤ s.now → 3 ≤ a.sends → (s.line i).fax.terms = some x →
    (s.line i).fax.phase ≠ .close → nextHolds (exec (.faxResponseWaitExpiry i r) s) (fun t =>
      t = { s with lines := t.lines } ∧
      t.line i = { s.line i with
        fax := (t.line i).fax, tone := (t.line i).tone
        stage := if r = .sender then .idle else (s.line i).stage } ∧
      (t.line i).fax.phase = .close ∧ (t.line i).fax.closing = some .faxProtocol ∧ othersSame i s t)) ∧
  (∀ (s : State) (i : LineId) (d : Ms) (x : FaxTerms), (s.line i).fax.role = some .receiver →
    (s.line i).fax.recvWait = some d → d ≤ s.now → (s.line i).fax.terms = some x → (s.line i).fax.phase ≠ .close →
    nextHolds (exec (.faxReceiveWaitExpiry i) s) (fun t =>
      t = { s with lines := t.lines } ∧
      t.line i = { s.line i with fax := (t.line i).fax, tone := (t.line i).tone } ∧
      (t.line i).fax.phase = .close ∧
      (t.line i).fax.closing = some .faxProtocol ∧ (t.line i).fax.sent = some .fin ∧ othersSame i s t)) ∧
  (∀ (s : State) (i : LineId) (why first : EndReason), (s.line i).link = {} → (s.line i).fax.phase = .close →
    (s.line i).fax.closing = some first → (s.line i).endReason why = first)

/-- The Store Controller's own events. The first request of the list is granted from the head of the free chain or
refused, GUARDED only above the guard level, UNGUARDED while a block is free, and RESERVE sets a block aside; an empty
list changes nothing. A STAGE area is written out to its entry and nowhere else in the DRAM, asking for a block when
bytes are left without room, an area whose entry has been refused is emptied, and one being read is refilled up to its
high mark. A block of a fax page asks for its RESERVE, and is delivered with it freed. That a page truncated by the
store has no line marked bad for it is the model's choice (notes/assumptions/12.md). -/
def Obligations.StoreControllerEvents : Prop :=
  (∀ (s : State) (i : LineId) (id b : Nat) (fs : List Nat) (rest : List BlockRequest) (e : Entry) (x : Bool),
    s.store.requests = ⟨id, .guarded, some i⟩ :: rest → s.store.free = b :: fs → s.store.guard ≤ fs.length →
    s.entry? id = some e → (s.line i).stage = .writing id true x →
    nextHolds (exec .storeBlockRequest s) (fun t =>
      t = { s with lines := t.lines, store := { s.store with requests := rest, free := fs, dir := t.store.dir } } ∧
      t.line i = { s.line i with stage := (t.line i).stage } ∧
      t.entry? id = some { e with chain := e.chain ++ [b] } ∧ (∀ m, m ≠ id → t.entry? m = s.entry? m) ∧
      (t.line i).stage = .writing id false x ∧ othersSame i s t)) ∧
  (∀ (s : State) (i : LineId) (id : Nat) (rest : List BlockRequest) (r : Recording),
    s.store.requests = ⟨id, .guarded, some i⟩ :: rest → s.store.free.length ≤ s.store.guard →
    (s.line i).voice.recording = some r → r.ended = none → (s.line i).stage = .writing id true false →
    nextHolds (exec .storeBlockRequest s) (fun t =>
      t = { s with lines := t.lines, store := { s.store with requests := rest }, areas := t.areas } ∧
      t.line i = { s.line i with voice := (t.line i).voice, stage := (t.line i).stage, queue := (t.line i).queue } ∧
      (t.line i).stage = .writing id false true ∧
      ((t.line i).voice.recording.bind Recording.ended).map (fun p => (p.1, p.2.1)) = some (.storeLow, r.coded) ∧
      (∀ k, s.joined i .stage = some k → (t.area k).fifo = []) ∧
      (∀ j, s.joined i .stage ≠ some j → t.area j = s.area j) ∧ othersSame i s t)) ∧
  (∀ (s : State) (i : LineId) (id : Nat) (k : AreaId) (e : Entry), (s.line i).stage = .writing id false false →
    s.joined i .stage = some k → s.entry? id = some e → (s.area k).marks = [] → (s.area k).fifo.length ≤ e.room →
    s.store.formatted = true → s.store.whole → dramWf s.dram = true →
      nextHolds (exec (.storeStageWrite i) s) (fun t =>
      t = { s with
        lines := t.lines, areas := t.areas, store := { s.store with dir := t.store.dir }, dram := t.dram } ∧
      t.line i = { s.line i with queue := (t.line i).queue } ∧ othersSame i s t ∧
      (t.area k).fifo = [] ∧ (∀ j, j ≠ k → t.area j = s.area j) ∧
      t.entry? id = some { e with length := e.length + (s.area k).fifo.length } ∧ (∀ m, m ≠ id →
        t.entry? m = s.entry? m) ∧
      writesEntry s t e e.length ((s.area k).fifo.map Prod.fst))) ∧
  (∀ (s : State) (i : LineId) (id pos stop : Nat) (k : AreaId) (e : Entry),
    (s.line i).stage = .reading id pos stop → s.joined i .stage = some k → s.entry? id = some e →
    (s.area k).high ≤ (s.area k).size → nextHolds (exec (.storeStageFill i) s) (fun t =>
      t = { s with lines := t.lines, areas := t.areas } ∧
      t.line i = { s.line i with stage := (t.line i).stage, queue := (t.line i).queue } ∧
      (t.area k).fifo = (s.area k).fifo ++
        (s.readEntry e pos (min ((s.area k).high - (s.area k).occupancy) (stop - pos))).map (fun b => (b, s.now)) ∧
      (t.line i).stage =
        .reading id (pos + min ((s.area k).high - (s.area k).occupancy) (stop - pos)) stop ∧
      (∀ j, j ≠ k → t.area j = s.area j) ∧ othersSame i s t)) ∧
  (∀ (s : State) (i : LineId) (id : Nat) (k : AreaId) (e : Entry), (s.line i).stage = .writing id false false →
    s.joined i .stage = some k → s.entry? id = some e → (s.area k).marks = [] → e.room < (s.area k).fifo.length →
    (e.kind = .fax → (s.line i).blockReceiver = false) →
    s.store.formatted = true → s.store.whole → dramWf s.dram = true →
      nextHolds (exec (.storeStageWrite i) s) (fun t =>
      t = { s with
        lines := t.lines, areas := t.areas, dram := t.dram, store := { s.store with
          dir := t.store.dir, requests :=
            s.store.requests ++ [⟨id, if e.kind = .fax then .unguarded else .guarded, some i⟩] } } ∧
      t.line i = { s.line i with queue := (t.line i).queue, stage := .writing id true false } ∧ othersSame i s t ∧
      (t.area k).fifo = (s.area k).fifo.drop e.room ∧ (∀ j, j ≠ k → t.area j = s.area j) ∧
      t.entry? id = some { e with length := e.length + e.room } ∧ (∀ m, m ≠ id → t.entry? m = s.entry? m) ∧
      writesEntry s t e e.length (((s.area k).fifo.take e.room).map Prod.fst))) ∧
  (∀ (s : State) (i : LineId) (id : Nat) (k : AreaId) (e : Entry), (s.line i).stage = .writing id false false →
    s.joined i .stage = some k → s.entry? id = some e → (s.area k).marks = [] → e.room < (s.area k).fifo.length →
    e.kind = .fax → (s.line i).blockReceiver = true →
    s.store.formatted = true → s.store.whole → dramWf s.dram = true →
      nextHolds (exec (.storeStageWrite i) s) (fun t =>
      t = { s with
        lines := t.lines, areas := t.areas, dram := t.dram, store := { s.store with dir := t.store.dir } } ∧
      t.line i = { s.line i with
        queue := (t.line i).queue, stage := .writing id false true, fax := (t.line i).fax
        faxEcho := (t.line i).faxEcho } ∧
      othersSame i s t ∧ (t.line i).receiver? =
        (s.line i).receiver?.map (fun f => { f with tally := { f.tally with truncated := true } }) ∧
      (t.area k).fifo = [] ∧ (∀ j, j ≠ k → t.area j = s.area j) ∧
      t.entry? id = some { e with length := e.length + e.room } ∧ (∀ m, m ≠ id → t.entry? m = s.entry? m) ∧
      writesEntry s t e e.length (((s.area k).fifo.take e.room).map Prod.fst))) ∧
  (∀ (s : State) (i : LineId) (id : Nat) (k : AreaId), (s.line i).stage = .writing id false true →
    s.joined i .stage = some k → nextHolds (exec (.storeStageWrite i) s) (fun t =>
      t = { s with lines := t.lines, areas := t.areas } ∧
      t.line i = { s.line i with queue := (t.line i).queue } ∧ othersSame i s t ∧
      (t.area k).fifo = [] ∧ (t.area k).marks = [] ∧ ∀ j, j ≠ k → t.area j = s.area j)) ∧
  (∀ (s : State) (i : LineId) (id : Nat), (s.line i).stage = .writing id true false →
    exec (.storeStageWrite i) s = .next s) ∧
  (∀ (s : State) (i : LineId) (id b : Nat) (fs : List Nat) (rest : List BlockRequest) (e : Entry) (x : Bool),
    s.store.requests = ⟨id, .unguarded, some i⟩ :: rest → s.store.free = b :: fs → s.entry? id = some e →
    (s.line i).stage = .writing id true x → nextHolds (exec .storeBlockRequest s) (fun t =>
      t = { s with lines := t.lines, store := { s.store with requests := rest, free := fs, dir := t.store.dir } } ∧
      t.line i = { s.line i with stage := .writing id false x } ∧
      t.entry? id = some { e with chain := e.chain ++ [b] } ∧ (∀ m, m ≠ id → t.entry? m = s.entry? m) ∧
      othersSame i s t)) ∧
  (∀ (s : State) (i : LineId) (id : Nat) (rest : List BlockRequest) (x : Bool),
    s.store.requests = ⟨id, .unguarded, some i⟩ :: rest → s.store.free = [] → (s.line i).stage = .writing id true x →
    nextHolds (exec .storeBlockRequest s) (fun t =>
      t = { s with lines := t.lines, store := { s.store with requests := rest }, areas := t.areas } ∧
      t.line i = { s.line i with
        stage := .writing id false true, queue := (t.line i).queue, fax := (t.line i).fax
        faxEcho := (t.line i).faxEcho } ∧
      (t.line i).receiver? =
        (s.line i).receiver?.map (fun f => { f with tally := { f.tally with truncated := true } }) ∧
      (∀ k, s.joined i .stage = some k → (t.area k).fifo = []) ∧
      (∀ j, s.joined i .stage ≠ some j → t.area j = s.area j) ∧ othersSame i s t)) ∧
  (∀ (s : State) (i : LineId) (id : Nat) (rest : List BlockRequest) (e : Entry),
    s.store.requests = ⟨id, .reserve, some i⟩ :: rest → s.entry? id = some e →
    nextHolds (exec .storeBlockRequest s) (fun t =>
      t = { s with store := { s.store with requests := rest, free := s.store.free.drop 4, dir := t.store.dir } } ∧
      t.entry? id = some { e with chain := e.chain ++ s.store.free.take 4 } ∧
      (∀ m, m ≠ id → t.entry? m = s.entry? m))) ∧
  (∀ s : State, s.store.requests = [] → exec .storeBlockRequest s = .next s) ∧
  (∀ (s : State) (i : LineId) (q : Fin 32) (payload : List Byte) (f : Fax) (id : Nat),
    (s.line i).fax = f → f.role = some .receiver → f.phase = .page → f.begun = true → f.corrects = true →
    f.block.inHand = false → f.entry = some id → (s.line i).copies.faxTo = .store →
    nextHolds (exec (.faxBlockFrameReceived i q payload) s) (fun t =>
      t = { s with lines := t.lines, store := { s.store with
        requests := s.store.requests ++ [⟨id, .reserve, some i⟩] } } ∧
      t.line i = { s.line i with fax := { f with
        recvWait := none, block := { number := f.block.following, inHand := true, got := [(q.val, payload)] } } } ∧
      othersSame i s t)) ∧
  (∀ (s : State) (i : LineId) (k : AreaId) (n id : Nat) (f : Fax) (e : Entry) (bs : List Byte), (s.line i).fax = f →
    f.role = some .receiver → f.phase = .page → f.begun = true → f.corrects = true → f.block.inHand = true →
    f.block.got = [(0, bs)] → f.entry = some id → f.discard = false → (s.line i).copies.faxTo = .store →
    (s.line i).stage = .writing id false false → s.joined i .stage = some k → (s.area k).fifo = [] →
    (s.area k).marks = [] → bs.length ≤ (s.area k).size → s.entry? id = some e →
    s.store.requests = [⟨id, .reserve, some i⟩] →
    e.length + bs.length ≤ (e.chain.length + min 4 s.store.free.length) * 1024 →
    s.store.formatted = true → s.store.whole → dramWf s.dram = true →
    nextHolds (exec (.faxBlockEndReceived i n 1) s) (fun t =>
      t = { s with lines := t.lines, areas := t.areas, dram := t.dram, store := { s.store with
        requests := [], dir := t.store.dir
        free := s.store.free.drop 4 ++
          (e.chain ++ s.store.free.take 4).drop ((e.length + bs.length + 1023) / 1024) } } ∧
      t.line i = { s.line i with fax := (t.line i).fax, queue := (t.line i).queue } ∧
      (t.line i).fax.sent = some (.blockMap n []) ∧ (t.line i).fax.block.inHand = false ∧
      t.entry? id = some { e with
        length := e.length + bs.length
        chain := (e.chain ++ s.store.free.take 4).take ((e.length + bs.length + 1023) / 1024) } ∧
      (∀ m, m ≠ id → t.entry? m = s.entry? m) ∧
      writesEntry s t { e with chain := e.chain ++ s.store.free.take 4 } e.length bs ∧ (t.area k).fifo = [] ∧
      (∀ j, j ≠ k → t.area j = s.area j) ∧ othersSame i s t))

/-- The Voice Engine's own events: the end of the greeting and of the record tone, the coding of bytes up to the limit
with those that find the area full lost and counted to 65535, the end at the limit, the watch, the completion of a
recording, taken after the block requests that wait (R144; notes/assumptions/24.md), the decoding with the coding bits
of the entry, or from the host of the PLAY take, and the end of an entry in play. A completion hands the line to the
host or releases it by voice_hold, or switches it to FAX; a recording below the least length is deleted; a loop drop
ends recording and call as REMOTE, RECORD_DONE before CALL_ENDED; a digit with barge_in or a tone in RECORD_TONE hands
the line to the host with no recording made. -/
def Obligations.VoiceEngineEvents : Prop :=
  (∀ (s : State) (i : LineId), (s.line i).state = .voice → (s.line i).voice.activity = .greeting →
    s.rangeTaken i = true → 0 < (s.line i).profile.recordToneMs → nextHolds (exec (.greetingEnd i) s) (fun t =>
      t = { s with lines := t.lines, areas := t.areas, store := t.store } ∧
      t.line i = { s.line i with
        tone := (t.line i).tone, voice := (t.line i).voice, stage := (t.line i).stage, queue := (t.line i).queue } ∧
      (t.line i).voice.activity = .recordTone ∧ (t.line i).stage = .idle ∧
      (t.line i).voice.toneEnd = some (s.now + (s.line i).profile.recordToneMs) ∧ othersSame i s t)) ∧
  (∀ (s : State) (i : LineId) (d : Ms), (s.line i).voice.activity = .recordTone →
    (s.line i).voice.toneEnd = some d → d ≤ s.now → s.store.formatted = true → s.store.dir.length < 256 →
    s.holdsOpen (some i) = false → nextHolds (exec (.recordToneEnd i) s) (fun t =>
      t = { s with lines := t.lines, store := t.store, areas := t.areas } ∧
      t.line i = { s.line i with
        voice := (t.line i).voice, stage := (t.line i).stage, tone := (t.line i).tone, queue := (t.line i).queue } ∧
      ∃ e,
      t.store.dir = s.store.dir ++ [e] ∧ e.kind = .voice ∧ e.state = .opened ∧ e.origin = some i ∧ e.length = 0 ∧
      (t.line i).voice.activity = .recording ∧ (t.line i).tone.gen = none ∧
      (t.line i).stage = .writing e.id false false ∧ othersSame i s t)) ∧
  (∀ (s : State) (i : LineId) (k : AreaId) (r : Recording) (bytes : List Byte),
    (s.line i).voice.recording = some r → r.ended = none → r.target = .host → s.joined i .rx = some k →
    r.coded + bytes.length ≤ r.limit → bytes.length ≤ (s.area k).room →
    nextHolds (exec (.voiceBytesCoded i bytes) s) (fun t =>
      t = { s with lines := t.lines, areas := t.areas } ∧
      t.line i = { s.line i with voice := (t.line i).voice, queue := (t.line i).queue } ∧
      (t.area k).fifo = (s.area k).fifo ++ bytes.map (fun b => (b, s.now)) ∧
      (t.line i).voice.recording.map Recording.coded = some (r.coded + bytes.length) ∧
      (∀ j, j ≠ k → t.area j = s.area j) ∧ othersSame i s t)) ∧
  (∀ (s : State) (i : LineId) (r : Recording) (id : Nat), (s.line i).voice.recording = some r → r.ended = none →
    r.entry = some id → r.limit ≤ r.coded → nextHolds (exec (.recordMaxLength i) s) (fun t =>
      t = { s with lines := t.lines } ∧
      t.line i = { s.line i with voice := (t.line i).voice } ∧
      ((t.line i).voice.recording.bind Recording.ended).map (fun p => (p.1, p.2.1)) = some (.maxLength, r.limit) ∧
      t.store = s.store ∧ othersSame i s t)) ∧
  (∀ (s : State) (i : LineId) (r : Recording) (d : Ms), (s.line i).voice.recording = some r → r.watchEnd = some d →
    d ≤ s.now → nextHolds (exec (.faxWatchExpiry i) s) (fun t =>
      t = { s with lines := t.lines } ∧
      t.line i = { s.line i with voice := (t.line i).voice } ∧
      (t.line i).voice.recording = some { r with watchOpen := false, watchEnd := none } ∧ t.store = s.store ∧
      othersSame i s t)) ∧
  (∀ (s : State) (i : LineId) (r : Recording) (id n : Nat) (k : AreaId) (e : Entry),
    (s.line i).voice.recording = some { r with ended := some (.silence, n, .stayHost), entry := some id } →
    (s.line i).stage = .writing id false false → s.joined i .stage = some k → (s.area k).fifo = [] →
    (s.area k).marks = [] → s.entry? id = some e → 0 < n → n ≤ e.length →
    (∀ q ∈ s.store.requests, q.line ≠ some i) → r.minMs * r.bits ≤ n →
    (s.line i).queue.entries = [] → (s.line i).profile.wants .recordDone = true →
    nextHolds (exec (.recordingComplete i) s) (fun t =>
      t = { s.serveAll with lines := t.lines, store := t.store, areas := t.areas } ∧ t.dram = s.dram ∧
      (∀ j, j ≠ i → t.line j = s.serveAll.line j) ∧
      (∀ j, s.joined i .stage ≠ some j → t.area j = s.serveAll.area j) ∧
      t.line i = { s.line i with
        voice := (t.line i).voice, stage := (t.line i).stage, queue := (t.line i).queue, call := (t.line i).call
        tone := (t.line i).tone } ∧
      (t.line i).voice.activity = .none ∧
      (t.line i).voice.recording = none ∧ (t.line i).stage = .idle ∧
      (t.entry? id).map (fun x => (x.state, x.length, x.endReason)) =
        some (.new, n, some (.recording .silence)) ∧
      (t.line i).queue.entries = [.recordDone (some id) n .silence])) ∧
  (∀ (s : State) (i : LineId) (k : AreaId) (p : Playback) (n : Nat), (s.line i).voice.activity = .playing →
    (s.line i).voice.playback = some p → p.target = .host → s.joined i .tx = some k → (s.area k).marks = [] →
    0 < n → n ≤ (s.area k).fifo.length → nextHolds (exec (.voiceBytesDecoded i n) s) (fun t =>
      t = { s with lines := t.lines, areas := t.areas } ∧
      t.line i = { s.line i with voice := (t.line i).voice, queue := (t.line i).queue } ∧
      (t.area k).fifo = (s.area k).fifo.drop n ∧
      (t.line i).voice.decoding = some (p.bits, ((s.area k).fifo.take n).map Prod.fst) ∧
      (∀ j, j ≠ k → t.area j = s.area j) ∧ othersSame i s t)) ∧
  (∀ (s : State) (i : LineId) (p : Playback) (id : Nat) (e : Entry), (s.line i).voice.activity = .playing →
    (s.line i).voice.playback = some p → p.target = .store → p.cur = some id → p.ids = [id] → p.pos = 0 →
    s.entry? id = some e → s.rangeTaken i = true → nextHolds (exec (.playEntryEnd i) s) (fun t =>
      t = { s with lines := t.lines, store := t.store, areas := t.areas } ∧
      t.line i = { s.line i with voice := (t.line i).voice, stage := (t.line i).stage, queue := (t.line i).queue } ∧
      (t.line i).voice.activity = .none ∧ (t.line i).voice.playback = none ∧ (t.line i).stage = .idle ∧
      (t.entry? id).map Entry.state = some .kept ∧ othersSame i s t)) ∧
  (∀ (s : State) (i : LineId) (k : AreaId) (r : Recording) (bytes : List Byte),
    (s.line i).voice.recording = some r → r.ended = none → r.target = .host → s.joined i .rx = some k →
    r.coded + (s.area k).room < r.limit → (s.area k).room < bytes.length → (s.line i).queue.entries = [] →
    (s.area k).flow = .stop → (s.line i).profile.wants .lineOverrun = true →
    nextHolds (exec (.voiceBytesCoded i bytes) s) (fun t =>
      t = { s with lines := t.lines, areas := t.areas } ∧
      t.line i = { s.line i with
        voice := { (s.line i).voice with recording := some { r with coded := r.coded + (s.area k).room } }
        queue := { (s.line i).queue with entries := [.lineOverrun (min 65535 (bytes.length - (s.area k).room))] } } ∧
      (t.area k).fifo = (s.area k).fifo ++ (bytes.take (s.area k).room).map (fun b => (b, s.now)) ∧
      (∀ j, j ≠ k → t.area j = s.area j) ∧ othersSame i s t)) ∧
  (∀ (s : State) (i : LineId) (k : AreaId) (r : Recording) (bytes : List Byte),
    (s.line i).voice.recording = some r → r.ended = none → r.target = .store → s.joined i .stage = some k →
    r.coded ≤ r.limit → r.limit < r.coded + bytes.length → r.limit - r.coded ≤ (s.area k).room →
    nextHolds (exec (.voiceBytesCoded i bytes) s) (fun t =>
      t = { s with lines := t.lines, areas := t.areas } ∧
      t.line i = { s.line i with
        voice := { (s.line i).voice with recording := some { r with coded := r.limit } },
          queue := (t.line i).queue } ∧
      (t.area k).fifo = (s.area k).fifo ++ (bytes.take (r.limit - r.coded)).map (fun b => (b, s.now)) ∧
      (∀ j, j ≠ k → t.area j = s.area j) ∧ othersSame i s t)) ∧
  (∀ (s : State) (i : LineId) (r : Recording) (id n : Nat) (k : AreaId) (e : Entry) (why : RecEnd),
    (s.line i).voice.recording = some { r with ended := some (why, n, .handOver), entry := some id } →
    (s.line i).state = .voice → (s.line i).stage = .writing id false false → s.joined i .stage = some k →
      (s.area k).fifo = [] →
    (s.area k).marks = [] → s.entry? id = some e → 0 < n → n ≤ e.length → s.store.requests = [] →
    r.minMs * r.bits ≤ n →
    (s.line i).profile.voiceHold = true → (s.line i).queue.entries = [] →
    (s.line i).profile.wants .recordDone = true → (s.line i).profile.wants .connected = true →
    nextHolds (exec (.recordingComplete i) s) (fun t =>
      t = { s with lines := t.lines, areas := t.areas, store := t.store } ∧ othersSame i s t ∧
      (t.line i).state = .voice ∧ (t.line i).voice.mode = .host ∧ (t.line i).voice.activity = .none ∧
      (t.line i).voice.recording = none ∧ (t.line i).stage = .idle ∧
      (t.entry? id).map (fun x => (x.state, x.length, x.endReason)) = some (.new, n, some (.recording why)) ∧
      (t.line i).queue.entries = [.recordDone (some id) n why, .connected .voice])) ∧
  (∀ (s : State) (i : LineId) (r : Recording) (id n : Nat) (k : AreaId) (e : Entry) (why : RecEnd) (c : CallRecord),
    (s.line i).voice.recording = some { r with ended := some (why, n, .handOver), entry := some id } →
    (s.line i).state = .voice → (s.line i).stage = .writing id false false → s.joined i .stage = some k →
      (s.area k).fifo = [] →
    (s.area k).marks = [] → s.entry? id = some e → 0 < n → n ≤ e.length → s.store.requests = [] →
    r.minMs * r.bits ≤ n →
    (s.line i).profile.voiceHold = false → (s.line i).call = some c → (s.line i).link = {} → (s.line i).fax = {} →
    (s.line i).job = .voice → (s.line i).queue.entries = [] → (s.line i).profile.wants .recordDone = true →
    (s.line i).profile.wants .callEnded = true → nextHolds (exec (.recordingComplete i) s) (fun t =>
      t = { s with lines := t.lines, areas := t.areas, store := t.store } ∧
      (t.line i).state = .release ∧ (t.line i).guard = some (s.now + 1500) ∧ (t.line i).call = none ∧
      (t.entry? id).map (fun x => (x.state, x.length, x.endReason)) = some (.new, n, some (.recording why)) ∧
      [.recordDone (some id) n why, .callEnded { c with messageId := some id, endReason := some .done }].Sublist
        (t.line i).queue.entries)) ∧
  (∀ (s : State) (i : LineId) (r : Recording) (id n : Nat) (k : AreaId) (e : Entry) (c : CallRecord),
    (s.line i).voice.recording = some { r with ended := some (.tone, n, .switchFax), entry := some id } →
    (s.line i).state = .voice → (s.line i).stage = .writing id false false → s.joined i .stage = some k →
      (s.area k).fifo = [] →
    (s.area k).marks = [] → s.entry? id = some e → 0 < n → n ≤ e.length → s.store.requests = [] →
    r.minMs * r.bits ≤ n →
    (s.line i).call = some c → s.incomingReady i (s.line i).copies .fax = true → s.faxLadder ≠ [] →
    (s.line i).queue.entries = [] → (s.line i).profile.wants .recordDone = true →
    nextHolds (exec (.recordingComplete i) s) (fun t =>
      t = { s with lines := t.lines, areas := t.areas, store := t.store } ∧ othersSame i s t ∧
      (t.line i).state = .fax ∧ (t.line i).relay = true ∧ (t.line i).job = .fax ∧
      (t.line i).call = some { c with messageId := some id, job := .fax } ∧ (t.line i).voice = {} ∧
      (t.line i).fax.phase = .establish ∧ (t.line i).fax.role = some .receiver ∧
      (t.entry? id).map (fun x => (x.state, x.length, x.endReason)) = some (.new, n, some (.recording .tone)) ∧
      .recordDone (some id) n .tone ∈ (t.line i).queue.entries)) ∧
  (∀ (s : State) (i : LineId) (r : Recording) (id n d : Nat) (k : AreaId) (e : Entry) (c : CallRecord),
    (s.line i).voice.recording = some r → r.ended = none → r.entry = some id →
    (s.line i).voice.activity = .recording → (s.line i).state = .voice →
      (s.line i).stage = .writing id false false → s.joined i .stage = some k → (s.area k).fifo = [] →
    (s.area k).marks = [] → s.entry? id = some e → 0 < n → n ≤ e.length → s.store.requests = [] →
    r.minMs * r.bits ≤ n →
    n = r.silentStart.getD r.coded → (s.line i).loopTimer = some d → d ≤ s.now → (s.line i).call = some c →
    (s.line i).link = {} → (s.line i).fax = {} → (s.line i).job = .voice → (s.line i).queue.entries = [] →
    (s.line i).profile.wants .recordDone = true → (s.line i).profile.wants .callEnded = true →
    nextHolds (exec (.loopDrop i) s) (fun t =>
      t = { s with lines := t.lines, areas := t.areas, store := t.store } ∧ (t.line i).state = .release ∧
      (t.entry? id).map (fun x => (x.state, x.length, x.endReason)) = some (.new, n, some (.recording .remote)) ∧
      [.recordDone (some id) n .remote, .callEnded { c with messageId := some id, endReason := some .remote }].Sublist
        (t.line i).queue.entries)) ∧
  (∀ (s : State) (i : LineId) (r : Recording) (id n : Nat) (k : AreaId) (e : Entry) (why : RecEnd),
    (s.line i).voice.recording = some { r with ended := some (why, n, .stayHost), entry := some id } →
    (s.line i).stage = .writing id false false → s.joined i .stage = some k → (s.area k).fifo = [] →
    (s.area k).marks = [] → s.entry? id = some e → n ≤ e.length → s.store.requests = [] → n < r.minMs * r.bits →
    (s.line i).queue.entries = [] → (s.line i).profile.wants .recordDone = true →
    nextHolds (exec (.recordingComplete i) s) (fun t =>
      t = { s with lines := t.lines, areas := t.areas, store := t.store } ∧ othersSame i s t ∧
      t.entry? id = none ∧ (t.line i).voice.recording = none ∧ (t.line i).voice.activity = .none ∧
      (t.line i).call = (s.line i).call ∧ (t.line i).queue.entries = [.recordDone none n why])) ∧
  (∀ (s : State) (i : LineId) (b : Ms) (e : ToneEntry) (m : Matcher), (s.line i).state = .voice →
    (s.line i).voice.mode = .auto → (s.line i).voice.activity = .recordTone → (s.line i).tone.matchers = [m] →
    s.toneTable = [e] → m.id = e.id → e.continuous = true → m.phase = .on b →
    b + (e.segment m.seg).onMin ≤ s.now → (e.cls = .busy ∨ e.cls = .congestion ∨ e.cls = .dial) →
    (s.line i).profile.voiceHold = true → (s.line i).queue.entries = [] →
    (s.line i).profile.wants .recordDone = true → (s.line i).profile.wants .connected = true →
    nextHolds (exec (.continuousToneConfirm i e.id) s) (fun t =>
      t = { s with lines := t.lines } ∧ othersSame i s t ∧ (t.line i).state = .voice ∧
      (t.line i).voice.mode = .host ∧ (t.line i).voice.activity = .none ∧ (t.line i).tone.gen = none ∧
      (t.line i).queue.entries = [.recordDone none 0 .tone, .connected .voice])) ∧
  (∀ (s : State) (i : LineId) (x : Digit) (b : Nat), (s.line i).state = .voice → (s.line i).voice.mode = .auto →
    (s.line i).voice.activity = .recordTone → (s.line i).tone.dtmf = .held x (some b) → b + 40 ≤ s.now →
    (s.line i).profile.bargeIn = true → (s.line i).queue.entries = [] →
    (s.line i).profile.wants .digits = false → (s.line i).profile.wants .playDone = true →
    (s.line i).profile.wants .connected = true → nextHolds (exec (.dtmfAbsenceExpiry i) s) (fun t =>
      t = { s with lines := t.lines } ∧ othersSame i s t ∧ (t.line i).state = .voice ∧
      (t.line i).voice.mode = .host ∧ (t.line i).voice.activity = .none ∧ (t.line i).voice.barge = true ∧
      (t.line i).tone.gen = none ∧
      (t.line i).queue.entries = [.playDone (s.line i).voice.greeting .digit [], .connected .voice])) ∧
  (∀ (s : State) (i : LineId) (k : AreaId) (id b n : Nat) (e : Entry), (s.line i).voice.activity = .greeting →
    (s.line i).voice.greeting = some id → s.entry? id = some e → e.bits = some b → s.joined i .stage = some k →
    (s.area k).marks = [] → 0 < n → n ≤ (s.area k).fifo.length → nextHolds (exec (.voiceBytesDecoded i n) s) (fun t =>
      t = { s with lines := t.lines, areas := t.areas } ∧
      t.line i = { s.line i with
        voice := { (s.line i).voice with decoding := some (b, ((s.area k).fifo.take n).map Prod.fst) }
        queue := (t.line i).queue } ∧
      (t.area k).fifo = (s.area k).fifo.drop n ∧ (∀ j, j ≠ k → t.area j = s.area j) ∧ othersSame i s t)) ∧
  (∀ (s : State) (i : LineId) (k : AreaId) (p : Playback) (n : Nat), (s.line i).voice.activity = .playing →
    (s.line i).voice.playback = some p → p.target = .store → s.joined i .stage = some k →
    (s.area k).marks = [] → 0 < n → n ≤ (s.area k).fifo.length → nextHolds (exec (.voiceBytesDecoded i n) s) (fun t =>
      t = { s with lines := t.lines, areas := t.areas } ∧
      t.line i = { s.line i with
        voice := { (s.line i).voice with decoding := some (p.bits, ((s.area k).fifo.take n).map Prod.fst) }
        queue := (t.line i).queue } ∧
      (t.area k).fifo = (s.area k).fifo.drop n ∧ (∀ j, j ≠ k → t.area j = s.area j) ∧ othersSame i s t)) ∧
  (∀ (s : State) (i : LineId) (k : AreaId) (p : Playback) (n : Nat), (s.line i).voice.activity = .playing →
    (s.line i).voice.playback = some p → p.target = .host → s.joined i .tx = some k → (s.area k).fifo = [] →
    (s.area k).flow = .go →
      exec (.voiceBytesDecoded i n) s = .next (s.modLine i (fun l => { l with voice.decoding := none }))) ∧
  (∀ (l : Line) (b : Nat) (bs : List Byte), (l.state = .voice ∨ l.state = .classify) → l.tone.digitTx = none →
    l.tone.gen = none → l.tone.echoGen = none →
    (l.voice.decoding = some (b, bs) → l.transmit = .voice b bs) ∧
    (l.voice.decoding = none → l.transmit = .silence))

/-- The invariant holds right after power-on. -/
def Obligations.ResetIsWf : Prop :=
  State.reset.Wf

/-- Every step keeps the invariant: the canonical form of the DRAM, at most sixteen entries in every notice queue,
every area within its size and its eight marks, at most four directives waiting and at most sixteen replies
outstanding. The canonical form is the model's own (notes/assumptions/2.md). -/
def Obligations.StepKeepsWf : Prop :=
  ∀ s t : State, s.Wf → step s = .next t → t.Wf

/-- STORE_FORMAT leaves every message block on the free chain, and every step keeps each message block of a formatted
store on exactly one chain and the ids of the entries distinct. -/
def Obligations.StepKeepsStoreWhole : Prop :=
  (∀ (mib g : Nat), sizeLegal mib = true → Store.whole
    { formatted := true, size := some mib, guard := g, free := List.range (messageBlocks mib) }) ∧
  (∀ s t : State, s.store.whole → step s = .next t → t.store.whole)

/-- The tone table, the ring patterns, the routing table and the ladders change by their own directives and by resets
alone, and a line profile by SET_PROFILE; a command takes no time (notes/assumptions/3.md) and leaves the commands
that wait as they are (notes/assumptions/16.md). Of the resets, POWER_ON keeps the commands waiting, and a line break
and PART_RESET's reply keep these and the time. -/
def Obligations.TablesChangeByTheirDirectives : Prop :=
  (∀ (c : Instr) (s t : State), exec c s = .next t → c ≠ .powerOn → c ≠ .lineBreak → c ≠ .outboundFrameSent →
    t.now = s.now ∧ t.pending = s.pending ∧ ((∀ d, c ≠ .loadTones d) → t.toneTable = s.toneTable) ∧
    ((∀ d, c ≠ .loadRingPatterns d) → t.patterns = s.patterns) ∧
    ((∀ d, c ≠ .routePut d) → (∀ d, c ≠ .routeDrop d) → (∀ d, c ≠ .routeClear d) → t.routes = s.routes) ∧
    ((∀ d, c ≠ .loadLadder d) → t.dataLadder = s.dataLadder ∧ t.faxLadder = s.faxLadder) ∧
    ((∀ d, c ≠ .setProfile d) → ∀ i, (t.line i).profile = (s.line i).profile)) ∧
  (∀ s t : State, exec .outboundFrameSent s = .next t → t.now = s.now ∧ t.pending = s.pending ∧
    ((∀ f, s.outFrame = some f → f.source ≠ .reply true) →
      tablesSame s t ∧ ∀ i, (t.line i).profile = (s.line i).profile)) ∧
  (∀ s t : State, exec .lineBreak s = .next t → t.now = s.now ∧ t.pending = s.pending) ∧
  (∀ s t : State, exec .powerOn s = .next t → t.pending = s.pending)

/-- The DRAM, kept as the list of notes/assumptions/2.md, reads back what was written and nothing else changes, and
two DRAMs in canonical form that read alike are equal. -/
def Obligations.DramReadsBack : Prop :=
  (∀ (m : List Host.Cell) (a x : Nat) (v : Byte), dramWf m = true →
    dramRead (dramWrite m a v) x = if x = a then v else dramRead m x) ∧
  (∀ m m' : List Host.Cell, dramWf m = true → dramWf m' = true → (∀ x, dramRead m x = dramRead m' x) → m = m')
end

