-- ==== Sys2Proof/Laws/State.lean ====
section
/-! SUPPORT. The small lemmas of State: what each update of one place leaves in every other, so that no later proof
unfolds a record update. -/

namespace Sys2Proof.Machine

variable (s : State) (i j : LineId) (k k' : AreaId)

/-! ## `State.setLine` -/

@[simp] theorem setLine_now (l : Line) : (s.setLine i l).now = s.now := rfl
@[simp] theorem setLine_toneTable (l : Line) : (s.setLine i l).toneTable = s.toneTable := rfl
@[simp] theorem setLine_patterns (l : Line) : (s.setLine i l).patterns = s.patterns := rfl
@[simp] theorem setLine_routes (l : Line) : (s.setLine i l).routes = s.routes := rfl
@[simp] theorem setLine_clock (l : Line) : (s.setLine i l).clock = s.clock := rfl
@[simp] theorem setLine_areas (l : Line) : (s.setLine i l).areas = s.areas := rfl
@[simp] theorem setLine_dataLadder (l : Line) : (s.setLine i l).dataLadder = s.dataLadder := rfl
@[simp] theorem setLine_faxLadder (l : Line) : (s.setLine i l).faxLadder = s.faxLadder := rfl
@[simp] theorem setLine_store (l : Line) : (s.setLine i l).store = s.store := rfl
@[simp] theorem setLine_dram (l : Line) : (s.setLine i l).dram = s.dram := rfl
@[simp] theorem setLine_parser (l : Line) : (s.setLine i l).parser = s.parser := rfl
@[simp] theorem setLine_gapTimer (l : Line) : (s.setLine i l).gapTimer = s.gapTimer := rfl
@[simp] theorem setLine_inBreak (l : Line) : (s.setLine i l).inBreak = s.inBreak := rfl
@[simp] theorem setLine_decoder (l : Line) : (s.setLine i l).decoder = s.decoder := rfl
@[simp] theorem setLine_replies (l : Line) : (s.setLine i l).replies = s.replies := rfl
@[simp] theorem setLine_outFrame (l : Line) : (s.setLine i l).outFrame = s.outFrame := rfl
@[simp] theorem setLine_lastLine (l : Line) : (s.setLine i l).lastLine = s.lastLine := rfl
@[simp] theorem setLine_lastSource (l : Line) : (s.setLine i l).lastSource = s.lastSource := rfl
@[simp] theorem setLine_partQueue (l : Line) : (s.setLine i l).partQueue = s.partQueue := rfl
@[simp] theorem setLine_pending (l : Line) : (s.setLine i l).pending = s.pending := rfl
@[simp] theorem setLine_area (l : Line) : (s.setLine i l).area k' = s.area k' := rfl

/-! ## `State.modLine` -/

@[simp] theorem modLine_now (f : Line → Line) : (s.modLine i f).now = s.now := rfl
@[simp] theorem modLine_toneTable (f : Line → Line) : (s.modLine i f).toneTable = s.toneTable := rfl
@[simp] theorem modLine_patterns (f : Line → Line) : (s.modLine i f).patterns = s.patterns := rfl
@[simp] theorem modLine_routes (f : Line → Line) : (s.modLine i f).routes = s.routes := rfl
@[simp] theorem modLine_clock (f : Line → Line) : (s.modLine i f).clock = s.clock := rfl
@[simp] theorem modLine_areas (f : Line → Line) : (s.modLine i f).areas = s.areas := rfl
@[simp] theorem modLine_dataLadder (f : Line → Line) : (s.modLine i f).dataLadder = s.dataLadder := rfl
@[simp] theorem modLine_faxLadder (f : Line → Line) : (s.modLine i f).faxLadder = s.faxLadder := rfl
@[simp] theorem modLine_store (f : Line → Line) : (s.modLine i f).store = s.store := rfl
@[simp] theorem modLine_dram (f : Line → Line) : (s.modLine i f).dram = s.dram := rfl
@[simp] theorem modLine_parser (f : Line → Line) : (s.modLine i f).parser = s.parser := rfl
@[simp] theorem modLine_gapTimer (f : Line → Line) : (s.modLine i f).gapTimer = s.gapTimer := rfl
@[simp] theorem modLine_inBreak (f : Line → Line) : (s.modLine i f).inBreak = s.inBreak := rfl
@[simp] theorem modLine_decoder (f : Line → Line) : (s.modLine i f).decoder = s.decoder := rfl
@[simp] theorem modLine_replies (f : Line → Line) : (s.modLine i f).replies = s.replies := rfl
@[simp] theorem modLine_outFrame (f : Line → Line) : (s.modLine i f).outFrame = s.outFrame := rfl
@[simp] theorem modLine_lastLine (f : Line → Line) : (s.modLine i f).lastLine = s.lastLine := rfl
@[simp] theorem modLine_lastSource (f : Line → Line) : (s.modLine i f).lastSource = s.lastSource := rfl
@[simp] theorem modLine_partQueue (f : Line → Line) : (s.modLine i f).partQueue = s.partQueue := rfl
@[simp] theorem modLine_pending (f : Line → Line) : (s.modLine i f).pending = s.pending := rfl
@[simp] theorem modLine_area (f : Line → Line) : (s.modLine i f).area k' = s.area k' := rfl

/-! ## `State.setArea` -/

@[simp] theorem setArea_now (a : Area) : (s.setArea k a).now = s.now := rfl
@[simp] theorem setArea_lines (a : Area) : (s.setArea k a).lines = s.lines := rfl
@[simp] theorem setArea_toneTable (a : Area) : (s.setArea k a).toneTable = s.toneTable := rfl
@[simp] theorem setArea_patterns (a : Area) : (s.setArea k a).patterns = s.patterns := rfl
@[simp] theorem setArea_routes (a : Area) : (s.setArea k a).routes = s.routes := rfl
@[simp] theorem setArea_clock (a : Area) : (s.setArea k a).clock = s.clock := rfl
@[simp] theorem setArea_dataLadder (a : Area) : (s.setArea k a).dataLadder = s.dataLadder := rfl
@[simp] theorem setArea_faxLadder (a : Area) : (s.setArea k a).faxLadder = s.faxLadder := rfl
@[simp] theorem setArea_store (a : Area) : (s.setArea k a).store = s.store := rfl
@[simp] theorem setArea_dram (a : Area) : (s.setArea k a).dram = s.dram := rfl
@[simp] theorem setArea_parser (a : Area) : (s.setArea k a).parser = s.parser := rfl
@[simp] theorem setArea_gapTimer (a : Area) : (s.setArea k a).gapTimer = s.gapTimer := rfl
@[simp] theorem setArea_inBreak (a : Area) : (s.setArea k a).inBreak = s.inBreak := rfl
@[simp] theorem setArea_decoder (a : Area) : (s.setArea k a).decoder = s.decoder := rfl
@[simp] theorem setArea_replies (a : Area) : (s.setArea k a).replies = s.replies := rfl
@[simp] theorem setArea_outFrame (a : Area) : (s.setArea k a).outFrame = s.outFrame := rfl
@[simp] theorem setArea_lastLine (a : Area) : (s.setArea k a).lastLine = s.lastLine := rfl
@[simp] theorem setArea_lastSource (a : Area) : (s.setArea k a).lastSource = s.lastSource := rfl
@[simp] theorem setArea_partQueue (a : Area) : (s.setArea k a).partQueue = s.partQueue := rfl
@[simp] theorem setArea_pending (a : Area) : (s.setArea k a).pending = s.pending := rfl
@[simp] theorem setArea_line (a : Area) : (s.setArea k a).line j = s.line j := rfl

/-! ## `State.modArea` -/

@[simp] theorem modArea_now (f : Area → Area) : (s.modArea k f).now = s.now := rfl
@[simp] theorem modArea_lines (f : Area → Area) : (s.modArea k f).lines = s.lines := rfl
@[simp] theorem modArea_toneTable (f : Area → Area) : (s.modArea k f).toneTable = s.toneTable := rfl
@[simp] theorem modArea_patterns (f : Area → Area) : (s.modArea k f).patterns = s.patterns := rfl
@[simp] theorem modArea_routes (f : Area → Area) : (s.modArea k f).routes = s.routes := rfl
@[simp] theorem modArea_clock (f : Area → Area) : (s.modArea k f).clock = s.clock := rfl
@[simp] theorem modArea_dataLadder (f : Area → Area) : (s.modArea k f).dataLadder = s.dataLadder := rfl
@[simp] theorem modArea_faxLadder (f : Area → Area) : (s.modArea k f).faxLadder = s.faxLadder := rfl
@[simp] theorem modArea_store (f : Area → Area) : (s.modArea k f).store = s.store := rfl
@[simp] theorem modArea_dram (f : Area → Area) : (s.modArea k f).dram = s.dram := rfl
@[simp] theorem modArea_parser (f : Area → Area) : (s.modArea k f).parser = s.parser := rfl
@[simp] theorem modArea_gapTimer (f : Area → Area) : (s.modArea k f).gapTimer = s.gapTimer := rfl
@[simp] theorem modArea_inBreak (f : Area → Area) : (s.modArea k f).inBreak = s.inBreak := rfl
@[simp] theorem modArea_decoder (f : Area → Area) : (s.modArea k f).decoder = s.decoder := rfl
@[simp] theorem modArea_replies (f : Area → Area) : (s.modArea k f).replies = s.replies := rfl
@[simp] theorem modArea_outFrame (f : Area → Area) : (s.modArea k f).outFrame = s.outFrame := rfl
@[simp] theorem modArea_lastLine (f : Area → Area) : (s.modArea k f).lastLine = s.lastLine := rfl
@[simp] theorem modArea_lastSource (f : Area → Area) : (s.modArea k f).lastSource = s.lastSource := rfl
@[simp] theorem modArea_partQueue (f : Area → Area) : (s.modArea k f).partQueue = s.partQueue := rfl
@[simp] theorem modArea_pending (f : Area → Area) : (s.modArea k f).pending = s.pending := rfl
@[simp] theorem modArea_line (f : Area → Area) : (s.modArea k f).line j = s.line j := rfl

/-! ## `State.notifyLine` -/

@[simp] theorem notifyLine_now (n : Notice) : (s.notifyLine i n).now = s.now := rfl
@[simp] theorem notifyLine_toneTable (n : Notice) : (s.notifyLine i n).toneTable = s.toneTable := rfl
@[simp] theorem notifyLine_patterns (n : Notice) : (s.notifyLine i n).patterns = s.patterns := rfl
@[simp] theorem notifyLine_routes (n : Notice) : (s.notifyLine i n).routes = s.routes := rfl
@[simp] theorem notifyLine_clock (n : Notice) : (s.notifyLine i n).clock = s.clock := rfl
@[simp] theorem notifyLine_areas (n : Notice) : (s.notifyLine i n).areas = s.areas := rfl
@[simp] theorem notifyLine_dataLadder (n : Notice) : (s.notifyLine i n).dataLadder = s.dataLadder := rfl
@[simp] theorem notifyLine_faxLadder (n : Notice) : (s.notifyLine i n).faxLadder = s.faxLadder := rfl
@[simp] theorem notifyLine_store (n : Notice) : (s.notifyLine i n).store = s.store := rfl
@[simp] theorem notifyLine_dram (n : Notice) : (s.notifyLine i n).dram = s.dram := rfl
@[simp] theorem notifyLine_parser (n : Notice) : (s.notifyLine i n).parser = s.parser := rfl
@[simp] theorem notifyLine_gapTimer (n : Notice) : (s.notifyLine i n).gapTimer = s.gapTimer := rfl
@[simp] theorem notifyLine_inBreak (n : Notice) : (s.notifyLine i n).inBreak = s.inBreak := rfl
@[simp] theorem notifyLine_decoder (n : Notice) : (s.notifyLine i n).decoder = s.decoder := rfl
@[simp] theorem notifyLine_replies (n : Notice) : (s.notifyLine i n).replies = s.replies := rfl
@[simp] theorem notifyLine_outFrame (n : Notice) : (s.notifyLine i n).outFrame = s.outFrame := rfl
@[simp] theorem notifyLine_lastLine (n : Notice) : (s.notifyLine i n).lastLine = s.lastLine := rfl
@[simp] theorem notifyLine_lastSource (n : Notice) : (s.notifyLine i n).lastSource = s.lastSource := rfl
@[simp] theorem notifyLine_partQueue (n : Notice) : (s.notifyLine i n).partQueue = s.partQueue := rfl
@[simp] theorem notifyLine_pending (n : Notice) : (s.notifyLine i n).pending = s.pending := rfl
@[simp] theorem notifyLine_area (n : Notice) : (s.notifyLine i n).area k' = s.area k' := rfl

/-! ## `State.notifyPart` -/

@[simp] theorem notifyPart_now (n : Notice) : (s.notifyPart n).now = s.now := rfl
@[simp] theorem notifyPart_lines (n : Notice) : (s.notifyPart n).lines = s.lines := rfl
@[simp] theorem notifyPart_toneTable (n : Notice) : (s.notifyPart n).toneTable = s.toneTable := rfl
@[simp] theorem notifyPart_patterns (n : Notice) : (s.notifyPart n).patterns = s.patterns := rfl
@[simp] theorem notifyPart_routes (n : Notice) : (s.notifyPart n).routes = s.routes := rfl
@[simp] theorem notifyPart_clock (n : Notice) : (s.notifyPart n).clock = s.clock := rfl
@[simp] theorem notifyPart_areas (n : Notice) : (s.notifyPart n).areas = s.areas := rfl
@[simp] theorem notifyPart_dataLadder (n : Notice) : (s.notifyPart n).dataLadder = s.dataLadder := rfl
@[simp] theorem notifyPart_faxLadder (n : Notice) : (s.notifyPart n).faxLadder = s.faxLadder := rfl
@[simp] theorem notifyPart_store (n : Notice) : (s.notifyPart n).store = s.store := rfl
@[simp] theorem notifyPart_dram (n : Notice) : (s.notifyPart n).dram = s.dram := rfl
@[simp] theorem notifyPart_parser (n : Notice) : (s.notifyPart n).parser = s.parser := rfl
@[simp] theorem notifyPart_gapTimer (n : Notice) : (s.notifyPart n).gapTimer = s.gapTimer := rfl
@[simp] theorem notifyPart_inBreak (n : Notice) : (s.notifyPart n).inBreak = s.inBreak := rfl
@[simp] theorem notifyPart_decoder (n : Notice) : (s.notifyPart n).decoder = s.decoder := rfl
@[simp] theorem notifyPart_replies (n : Notice) : (s.notifyPart n).replies = s.replies := rfl
@[simp] theorem notifyPart_outFrame (n : Notice) : (s.notifyPart n).outFrame = s.outFrame := rfl
@[simp] theorem notifyPart_lastLine (n : Notice) : (s.notifyPart n).lastLine = s.lastLine := rfl
@[simp] theorem notifyPart_lastSource (n : Notice) : (s.notifyPart n).lastSource = s.lastSource := rfl
@[simp] theorem notifyPart_pending (n : Notice) : (s.notifyPart n).pending = s.pending := rfl
@[simp] theorem notifyPart_line (n : Notice) : (s.notifyPart n).line j = s.line j := rfl
@[simp] theorem notifyPart_area (n : Notice) : (s.notifyPart n).area k' = s.area k' := rfl

/-! ## `State.modEntry` -/

@[simp] theorem modEntry_now (id : Nat) (f : Entry → Entry) : (s.modEntry id f).now = s.now := rfl
@[simp] theorem modEntry_lines (id : Nat) (f : Entry → Entry) : (s.modEntry id f).lines = s.lines := rfl
@[simp] theorem modEntry_toneTable (id : Nat) (f : Entry → Entry) : (s.modEntry id f).toneTable = s.toneTable := rfl
@[simp] theorem modEntry_patterns (id : Nat) (f : Entry → Entry) : (s.modEntry id f).patterns = s.patterns := rfl
@[simp] theorem modEntry_routes (id : Nat) (f : Entry → Entry) : (s.modEntry id f).routes = s.routes := rfl
@[simp] theorem modEntry_clock (id : Nat) (f : Entry → Entry) : (s.modEntry id f).clock = s.clock := rfl
@[simp] theorem modEntry_areas (id : Nat) (f : Entry → Entry) : (s.modEntry id f).areas = s.areas := rfl
@[simp] theorem modEntry_dataLadder (id : Nat) (f : Entry → Entry) : (s.modEntry id f).dataLadder = s.dataLadder := rfl
@[simp] theorem modEntry_faxLadder (id : Nat) (f : Entry → Entry) : (s.modEntry id f).faxLadder = s.faxLadder := rfl
@[simp] theorem modEntry_dram (id : Nat) (f : Entry → Entry) : (s.modEntry id f).dram = s.dram := rfl
@[simp] theorem modEntry_parser (id : Nat) (f : Entry → Entry) : (s.modEntry id f).parser = s.parser := rfl
@[simp] theorem modEntry_gapTimer (id : Nat) (f : Entry → Entry) : (s.modEntry id f).gapTimer = s.gapTimer := rfl
@[simp] theorem modEntry_inBreak (id : Nat) (f : Entry → Entry) : (s.modEntry id f).inBreak = s.inBreak := rfl
@[simp] theorem modEntry_decoder (id : Nat) (f : Entry → Entry) : (s.modEntry id f).decoder = s.decoder := rfl
@[simp] theorem modEntry_replies (id : Nat) (f : Entry → Entry) : (s.modEntry id f).replies = s.replies := rfl
@[simp] theorem modEntry_outFrame (id : Nat) (f : Entry → Entry) : (s.modEntry id f).outFrame = s.outFrame := rfl
@[simp] theorem modEntry_lastLine (id : Nat) (f : Entry → Entry) : (s.modEntry id f).lastLine = s.lastLine := rfl
@[simp] theorem modEntry_lastSource (id : Nat) (f : Entry → Entry) : (s.modEntry id f).lastSource = s.lastSource := rfl
@[simp] theorem modEntry_partQueue (id : Nat) (f : Entry → Entry) : (s.modEntry id f).partQueue = s.partQueue := rfl
@[simp] theorem modEntry_pending (id : Nat) (f : Entry → Entry) : (s.modEntry id f).pending = s.pending := rfl
@[simp] theorem modEntry_line (id : Nat) (f : Entry → Entry) : (s.modEntry id f).line j = s.line j := rfl
@[simp] theorem modEntry_area (id : Nat) (f : Entry → Entry) : (s.modEntry id f).area k' = s.area k' := rfl

/-! ## `State.modFax` -/

@[simp] theorem modFax_now (r : FaxRole) (f : Fax → Fax) : (s.modFax i r f).now = s.now := rfl
@[simp] theorem modFax_toneTable (r : FaxRole) (f : Fax → Fax) : (s.modFax i r f).toneTable = s.toneTable := rfl
@[simp] theorem modFax_patterns (r : FaxRole) (f : Fax → Fax) : (s.modFax i r f).patterns = s.patterns := rfl
@[simp] theorem modFax_routes (r : FaxRole) (f : Fax → Fax) : (s.modFax i r f).routes = s.routes := rfl
@[simp] theorem modFax_clock (r : FaxRole) (f : Fax → Fax) : (s.modFax i r f).clock = s.clock := rfl
@[simp] theorem modFax_areas (r : FaxRole) (f : Fax → Fax) : (s.modFax i r f).areas = s.areas := rfl
@[simp] theorem modFax_dataLadder (r : FaxRole) (f : Fax → Fax) : (s.modFax i r f).dataLadder = s.dataLadder := rfl
@[simp] theorem modFax_faxLadder (r : FaxRole) (f : Fax → Fax) : (s.modFax i r f).faxLadder = s.faxLadder := rfl
@[simp] theorem modFax_store (r : FaxRole) (f : Fax → Fax) : (s.modFax i r f).store = s.store := rfl
@[simp] theorem modFax_dram (r : FaxRole) (f : Fax → Fax) : (s.modFax i r f).dram = s.dram := rfl
@[simp] theorem modFax_parser (r : FaxRole) (f : Fax → Fax) : (s.modFax i r f).parser = s.parser := rfl
@[simp] theorem modFax_gapTimer (r : FaxRole) (f : Fax → Fax) : (s.modFax i r f).gapTimer = s.gapTimer := rfl
@[simp] theorem modFax_inBreak (r : FaxRole) (f : Fax → Fax) : (s.modFax i r f).inBreak = s.inBreak := rfl
@[simp] theorem modFax_decoder (r : FaxRole) (f : Fax → Fax) : (s.modFax i r f).decoder = s.decoder := rfl
@[simp] theorem modFax_replies (r : FaxRole) (f : Fax → Fax) : (s.modFax i r f).replies = s.replies := rfl
@[simp] theorem modFax_outFrame (r : FaxRole) (f : Fax → Fax) : (s.modFax i r f).outFrame = s.outFrame := rfl
@[simp] theorem modFax_lastLine (r : FaxRole) (f : Fax → Fax) : (s.modFax i r f).lastLine = s.lastLine := rfl
@[simp] theorem modFax_lastSource (r : FaxRole) (f : Fax → Fax) : (s.modFax i r f).lastSource = s.lastSource := rfl
@[simp] theorem modFax_partQueue (r : FaxRole) (f : Fax → Fax) : (s.modFax i r f).partQueue = s.partQueue := rfl
@[simp] theorem modFax_pending (r : FaxRole) (f : Fax → Fax) : (s.modFax i r f).pending = s.pending := rfl
@[simp] theorem modFax_area (r : FaxRole) (f : Fax → Fax) : (s.modFax i r f).area k' = s.area k' := rfl

/-! ## `State.reply` -/

@[simp] theorem reply_now (r : Reply) : (s.reply r).now = s.now := rfl
@[simp] theorem reply_lines (r : Reply) : (s.reply r).lines = s.lines := rfl
@[simp] theorem reply_toneTable (r : Reply) : (s.reply r).toneTable = s.toneTable := rfl
@[simp] theorem reply_patterns (r : Reply) : (s.reply r).patterns = s.patterns := rfl
@[simp] theorem reply_routes (r : Reply) : (s.reply r).routes = s.routes := rfl
@[simp] theorem reply_clock (r : Reply) : (s.reply r).clock = s.clock := rfl
@[simp] theorem reply_areas (r : Reply) : (s.reply r).areas = s.areas := rfl
@[simp] theorem reply_dataLadder (r : Reply) : (s.reply r).dataLadder = s.dataLadder := rfl
@[simp] theorem reply_faxLadder (r : Reply) : (s.reply r).faxLadder = s.faxLadder := rfl
@[simp] theorem reply_store (r : Reply) : (s.reply r).store = s.store := rfl
@[simp] theorem reply_dram (r : Reply) : (s.reply r).dram = s.dram := rfl
@[simp] theorem reply_parser (r : Reply) : (s.reply r).parser = s.parser := rfl
@[simp] theorem reply_gapTimer (r : Reply) : (s.reply r).gapTimer = s.gapTimer := rfl
@[simp] theorem reply_inBreak (r : Reply) : (s.reply r).inBreak = s.inBreak := rfl
@[simp] theorem reply_decoder (r : Reply) : (s.reply r).decoder = s.decoder := rfl
@[simp] theorem reply_outFrame (r : Reply) : (s.reply r).outFrame = s.outFrame := rfl
@[simp] theorem reply_lastLine (r : Reply) : (s.reply r).lastLine = s.lastLine := rfl
@[simp] theorem reply_lastSource (r : Reply) : (s.reply r).lastSource = s.lastSource := rfl
@[simp] theorem reply_partQueue (r : Reply) : (s.reply r).partQueue = s.partQueue := rfl
@[simp] theorem reply_pending (r : Reply) : (s.reply r).pending = s.pending := rfl
@[simp] theorem reply_line (r : Reply) : (s.reply r).line j = s.line j := rfl
@[simp] theorem reply_area (r : Reply) : (s.reply r).area k' = s.area k' := rfl

/-! ## `State.request` -/

@[simp] theorem request_now (r : BlockRequest) : (s.request r).now = s.now := rfl
@[simp] theorem request_lines (r : BlockRequest) : (s.request r).lines = s.lines := rfl
@[simp] theorem request_toneTable (r : BlockRequest) : (s.request r).toneTable = s.toneTable := rfl
@[simp] theorem request_patterns (r : BlockRequest) : (s.request r).patterns = s.patterns := rfl
@[simp] theorem request_routes (r : BlockRequest) : (s.request r).routes = s.routes := rfl
@[simp] theorem request_clock (r : BlockRequest) : (s.request r).clock = s.clock := rfl
@[simp] theorem request_areas (r : BlockRequest) : (s.request r).areas = s.areas := rfl
@[simp] theorem request_dataLadder (r : BlockRequest) : (s.request r).dataLadder = s.dataLadder := rfl
@[simp] theorem request_faxLadder (r : BlockRequest) : (s.request r).faxLadder = s.faxLadder := rfl
@[simp] theorem request_dram (r : BlockRequest) : (s.request r).dram = s.dram := rfl
@[simp] theorem request_parser (r : BlockRequest) : (s.request r).parser = s.parser := rfl
@[simp] theorem request_gapTimer (r : BlockRequest) : (s.request r).gapTimer = s.gapTimer := rfl
@[simp] theorem request_inBreak (r : BlockRequest) : (s.request r).inBreak = s.inBreak := rfl
@[simp] theorem request_decoder (r : BlockRequest) : (s.request r).decoder = s.decoder := rfl
@[simp] theorem request_replies (r : BlockRequest) : (s.request r).replies = s.replies := rfl
@[simp] theorem request_outFrame (r : BlockRequest) : (s.request r).outFrame = s.outFrame := rfl
@[simp] theorem request_lastLine (r : BlockRequest) : (s.request r).lastLine = s.lastLine := rfl
@[simp] theorem request_lastSource (r : BlockRequest) : (s.request r).lastSource = s.lastSource := rfl
@[simp] theorem request_partQueue (r : BlockRequest) : (s.request r).partQueue = s.partQueue := rfl
@[simp] theorem request_pending (r : BlockRequest) : (s.request r).pending = s.pending := rfl
@[simp] theorem request_line (r : BlockRequest) : (s.request r).line j = s.line j := rfl
@[simp] theorem request_area (r : BlockRequest) : (s.request r).area k' = s.area k' := rfl

/-! ## `State.sendFrame` -/

@[simp] theorem sendFrame_now (f : OutFrame) : (s.sendFrame f).now = s.now := rfl
@[simp] theorem sendFrame_lines (f : OutFrame) : (s.sendFrame f).lines = s.lines := rfl
@[simp] theorem sendFrame_toneTable (f : OutFrame) : (s.sendFrame f).toneTable = s.toneTable := rfl
@[simp] theorem sendFrame_patterns (f : OutFrame) : (s.sendFrame f).patterns = s.patterns := rfl
@[simp] theorem sendFrame_routes (f : OutFrame) : (s.sendFrame f).routes = s.routes := rfl
@[simp] theorem sendFrame_clock (f : OutFrame) : (s.sendFrame f).clock = s.clock := rfl
@[simp] theorem sendFrame_areas (f : OutFrame) : (s.sendFrame f).areas = s.areas := rfl
@[simp] theorem sendFrame_dataLadder (f : OutFrame) : (s.sendFrame f).dataLadder = s.dataLadder := rfl
@[simp] theorem sendFrame_faxLadder (f : OutFrame) : (s.sendFrame f).faxLadder = s.faxLadder := rfl
@[simp] theorem sendFrame_store (f : OutFrame) : (s.sendFrame f).store = s.store := rfl
@[simp] theorem sendFrame_dram (f : OutFrame) : (s.sendFrame f).dram = s.dram := rfl
@[simp] theorem sendFrame_parser (f : OutFrame) : (s.sendFrame f).parser = s.parser := rfl
@[simp] theorem sendFrame_gapTimer (f : OutFrame) : (s.sendFrame f).gapTimer = s.gapTimer := rfl
@[simp] theorem sendFrame_inBreak (f : OutFrame) : (s.sendFrame f).inBreak = s.inBreak := rfl
@[simp] theorem sendFrame_decoder (f : OutFrame) : (s.sendFrame f).decoder = s.decoder := rfl
@[simp] theorem sendFrame_replies (f : OutFrame) : (s.sendFrame f).replies = s.replies := rfl
@[simp] theorem sendFrame_lastLine (f : OutFrame) : (s.sendFrame f).lastLine = s.lastLine := rfl
@[simp] theorem sendFrame_lastSource (f : OutFrame) : (s.sendFrame f).lastSource = s.lastSource := rfl
@[simp] theorem sendFrame_partQueue (f : OutFrame) : (s.sendFrame f).partQueue = s.partQueue := rfl
@[simp] theorem sendFrame_pending (f : OutFrame) : (s.sendFrame f).pending = s.pending := rfl
@[simp] theorem sendFrame_line (f : OutFrame) : (s.sendFrame f).line j = s.line j := rfl
@[simp] theorem sendFrame_area (f : OutFrame) : (s.sendFrame f).area k' = s.area k' := rfl

/-! ## `State.tick` -/

@[simp] theorem tick_lines : (s.tick).lines = s.lines := rfl
@[simp] theorem tick_toneTable : (s.tick).toneTable = s.toneTable := rfl
@[simp] theorem tick_patterns : (s.tick).patterns = s.patterns := rfl
@[simp] theorem tick_routes : (s.tick).routes = s.routes := rfl
@[simp] theorem tick_areas : (s.tick).areas = s.areas := rfl
@[simp] theorem tick_dataLadder : (s.tick).dataLadder = s.dataLadder := rfl
@[simp] theorem tick_faxLadder : (s.tick).faxLadder = s.faxLadder := rfl
@[simp] theorem tick_store : (s.tick).store = s.store := rfl
@[simp] theorem tick_dram : (s.tick).dram = s.dram := rfl
@[simp] theorem tick_parser : (s.tick).parser = s.parser := rfl
@[simp] theorem tick_gapTimer : (s.tick).gapTimer = s.gapTimer := rfl
@[simp] theorem tick_inBreak : (s.tick).inBreak = s.inBreak := rfl
@[simp] theorem tick_decoder : (s.tick).decoder = s.decoder := rfl
@[simp] theorem tick_replies : (s.tick).replies = s.replies := rfl
@[simp] theorem tick_outFrame : (s.tick).outFrame = s.outFrame := rfl
@[simp] theorem tick_lastLine : (s.tick).lastLine = s.lastLine := rfl
@[simp] theorem tick_lastSource : (s.tick).lastSource = s.lastSource := rfl
@[simp] theorem tick_partQueue : (s.tick).partQueue = s.partQueue := rfl
@[simp] theorem tick_pending : (s.tick).pending = s.pending := rfl
@[simp] theorem tick_line : (s.tick).line j = s.line j := rfl
@[simp] theorem tick_area : (s.tick).area k' = s.area k' := rfl

/-! ## Reading a line or an area after an update -/

@[simp] theorem line_setLine_same (l : Line) : (s.setLine i l).line i = l := by
  simp [State.setLine, State.line]

@[simp] theorem line_setLine_ne (l : Line) (h : j ≠ i) : (s.setLine i l).line j = s.line j := by
  simp only [State.setLine, State.line, Fin.getElem_fin]
  exact Vector.getElem_set_ne _ _ (fun e => h (Fin.ext e.symm))

@[simp] theorem line_modLine_same (f : Line → Line) : (s.modLine i f).line i = f (s.line i) := by
  simp [State.modLine]

@[simp] theorem line_modLine_ne (f : Line → Line) (h : j ≠ i) : (s.modLine i f).line j = s.line j := by
  simp [State.modLine, h]

@[simp] theorem area_setArea_same (a : Area) : (s.setArea k a).area k = a := by
  simp [State.setArea, State.area]

@[simp] theorem area_setArea_ne (a : Area) (h : k' ≠ k) : (s.setArea k a).area k' = s.area k' := by
  simp only [State.setArea, State.area, Fin.getElem_fin]
  exact Vector.getElem_set_ne _ _ (fun e => h (Fin.ext e.symm))

@[simp] theorem area_modArea_same (f : Area → Area) : (s.modArea k f).area k = f (s.area k) := by
  simp [State.modArea]

@[simp] theorem area_modArea_ne (f : Area → Area) (h : k' ≠ k) : (s.modArea k f).area k' = s.area k' := by
  simp [State.modArea, h]

@[simp] theorem line_notifyLine_same (n : Notice) : (s.notifyLine i n).line i = (s.line i).notify n := by
  simp [State.notifyLine]

@[simp] theorem line_notifyLine_ne (n : Notice) (h : j ≠ i) : (s.notifyLine i n).line j = s.line j := by
  simp [State.notifyLine, h]

@[simp] theorem line_modFax_same (r : FaxRole) (f : Fax → Fax) : (s.modFax i r f).line i = (s.line i).modHalf r f := by
  simp [State.modFax]

@[simp] theorem line_modFax_ne (r : FaxRole) (f : Fax → Fax) (h : j ≠ i) : (s.modFax i r f).line j = s.line j := by
  simp [State.modFax, h]

/-! ## A notice offered to a line -/

variable (l : Line) (n : Notice)

@[simp] theorem notify_state : (l.notify n).state = l.state := by unfold Line.notify; split <;> rfl
@[simp] theorem notify_job : (l.notify n).job = l.job := by unfold Line.notify; split <;> rfl
@[simp] theorem notify_direction : (l.notify n).direction = l.direction := by unfold Line.notify; split <;> rfl
@[simp] theorem notify_faxSource : (l.notify n).faxSource = l.faxSource := by unfold Line.notify; split <;> rfl
@[simp] theorem notify_profile : (l.notify n).profile = l.profile := by unfold Line.notify; split <;> rfl
@[simp] theorem notify_call : (l.notify n).call = l.call := by unfold Line.notify; split <;> rfl
@[simp] theorem notify_dialList : (l.notify n).dialList = l.dialList := by unfold Line.notify; split <;> rfl
@[simp] theorem notify_dialPos : (l.notify n).dialPos = l.dialPos := by unfold Line.notify; split <;> rfl
@[simp] theorem notify_substRing : (l.notify n).substRing = l.substRing := by unfold Line.notify; split <;> rfl
@[simp] theorem notify_substLoop : (l.notify n).substLoop = l.substLoop := by unfold Line.notify; split <;> rfl
@[simp] theorem notify_loopCount : (l.notify n).loopCount = l.loopCount := by unfold Line.notify; split <;> rfl
@[simp] theorem notify_loopClass : (l.notify n).loopClass = l.loopClass := by unfold Line.notify; split <;> rfl
@[simp] theorem notify_copies : (l.notify n).copies = l.copies := by unfold Line.notify; split <;> rfl
@[simp] theorem notify_realRing : (l.notify n).realRing = l.realRing := by unfold Line.notify; split <;> rfl
@[simp] theorem notify_realLoop : (l.notify n).realLoop = l.realLoop := by unfold Line.notify; split <;> rfl
@[simp] theorem notify_relay : (l.notify n).relay = l.relay := by unfold Line.notify; split <;> rfl
@[simp] theorem notify_ring : (l.notify n).ring = l.ring := by unfold Line.notify; split <;> rfl
@[simp] theorem notify_loopTimer : (l.notify n).loopTimer = l.loopTimer := by unfold Line.notify; split <;> rfl
@[simp] theorem notify_signals : (l.notify n).signals = l.signals := by unfold Line.notify; split <;> rfl
@[simp] theorem notify_guard : (l.notify n).guard = l.guard := by unfold Line.notify; split <;> rfl
@[simp] theorem notify_dialWait : (l.notify n).dialWait = l.dialWait := by unfold Line.notify; split <;> rfl
@[simp] theorem notify_dialStep : (l.notify n).dialStep = l.dialStep := by unfold Line.notify; split <;> rfl
@[simp] theorem notify_answerWait : (l.notify n).answerWait = l.answerWait := by unfold Line.notify; split <;> rfl
@[simp] theorem notify_ringbackSeen : (l.notify n).ringbackSeen = l.ringbackSeen := by unfold Line.notify; split <;> rfl
@[simp] theorem notify_watch : (l.notify n).watch = l.watch := by unfold Line.notify; split <;> rfl
@[simp] theorem notify_classifyTimer : (l.notify n).classifyTimer = l.classifyTimer := by unfold Line.notify; split <;> rfl
@[simp] theorem notify_dropTimer : (l.notify n).dropTimer = l.dropTimer := by unfold Line.notify; split <;> rfl
@[simp] theorem notify_override : (l.notify n).override = l.override := by unfold Line.notify; split <;> rfl
@[simp] theorem notify_answerWaiting : (l.notify n).answerWaiting = l.answerWaiting := by unfold Line.notify; split <;> rfl
@[simp] theorem notify_tone : (l.notify n).tone = l.tone := by unfold Line.notify; split <;> rfl
@[simp] theorem notify_carrier : (l.notify n).carrier = l.carrier := by unfold Line.notify; split <;> rfl
@[simp] theorem notify_quality : (l.notify n).quality = l.quality := by unfold Line.notify; split <;> rfl
@[simp] theorem notify_link : (l.notify n).link = l.link := by unfold Line.notify; split <;> rfl
@[simp] theorem notify_fax : (l.notify n).fax = l.fax := by unfold Line.notify; split <;> rfl
@[simp] theorem notify_faxEcho : (l.notify n).faxEcho = l.faxEcho := by unfold Line.notify; split <;> rfl
@[simp] theorem notify_voice : (l.notify n).voice = l.voice := by unfold Line.notify; split <;> rfl
@[simp] theorem notify_stage : (l.notify n).stage = l.stage := by unfold Line.notify; split <;> rfl

theorem notify_queue : (l.notify n).queue = if l.profile.wants n.kind then l.queue.offer n else l.queue := by
  unfold Line.notify; split <;> rfl

end Sys2Proof.Machine
end

