-- ==== Sys2Proof/Laws/Updates.lean ====
section
/-! SUPPORT. Updates one after another: two updates of one line or one area are one update, and an update by equal
functions is one state. -/

namespace Sys2Proof.Machine

variable (s : State) (i : LineId) (k : AreaId)

@[simp] theorem modLine_modLine (f g : Line → Line) : (s.modLine i f).modLine i g = s.modLine i (fun l => g (f l)) := by
  simp only [State.modLine, line_setLine_same]
  simp [State.setLine]

theorem modLine_congr {f g : Line → Line} (h : f (s.line i) = g (s.line i)) : s.modLine i f = s.modLine i g := by
  simp only [State.modLine, h]

theorem modLine_same {f : Line → Line} (h : f (s.line i) = s.line i) : s.modLine i f = s := by
  simp only [State.modLine, h]
  simp [State.setLine, State.line]

@[simp] theorem modArea_modArea (f g : Area → Area) : (s.modArea k f).modArea k g = s.modArea k (fun a => g (f a)) := by
  simp only [State.modArea, area_setArea_same]
  simp [State.setArea]

theorem modArea_congr {f g : Area → Area} (h : f (s.area k) = g (s.area k)) : s.modArea k f = s.modArea k g := by
  simp only [State.modArea, h]

/-- A notice for a line is an update of that line alone. -/
theorem notifyLine_eq (n : Notice) : s.notifyLine i n = s.modLine i (fun l => l.notify n) := rfl

end Sys2Proof.Machine
end

