-- ==== Sys2Proof/Laws/Areas.lean ====
section
/-! SUPPORT. The Buffer Unit's shared operations: what each can do to an area, and that each keeps it within its bounds
(R60, R66, R67). -/

namespace Sys2Proof.Machine

variable (s : State) (i : LineId) (k b : AreaId)

/-- Judging the flow mark changes one area's flow state and no other area. -/
theorem setFlow_area_here (f : FlowState) :
    (s.setFlow k f).area b = if b = k then { s.area k with flow := f } else s.area b := by
  unfold State.setFlow
  by_cases h : (s.area k).flow = f
  · simp only [h, if_true]
    by_cases hb : b = k
    · subst hb; simp [← h]
    · simp [hb]
  · simp only [h, if_false]
    by_cases hb : b = k
    · subst hb; split <;> simp
    · split <;> simp [hb]

/-- An append leaves the other areas. -/
theorem append_area_ne (bs : List Byte) (h : b ≠ k) : (s.append k bs).1.area b = s.area b := by
  unfold State.append
  dsimp only
  split
  · rfl
  · simp [setFlow_area_here, h]

/-- An append puts what fits at the tail, with its arrival time, and leaves the marks. -/
theorem append_area (bs : List Byte) :
    ((s.append k bs).1.area k).fifo = (s.area k).fifo ++ (bs.take (s.area k).room).map (fun x => (x, s.now)) ∧
    ((s.append k bs).1.area k).marks = (s.area k).marks ∧
    ((s.append k bs).1.area k).size = (s.area k).size := by
  unfold State.append
  dsimp only
  split
  · rename_i h
    rw [List.isEmpty_iff] at h
    simp [h]
  · simp [setFlow_area_here, Area.size]

/-- The count an append gives is what was stored. -/
theorem append_count (bs : List Byte) : (s.append k bs).2 = min (s.area k).room bs.length := by
  unfold State.append
  dsimp only
  split
  · rename_i h
    have := congrArg List.length (List.isEmpty_iff.mp h)
    simpa using this.symm
  · simp

/-- A removal leaves the other areas. -/
theorem remove_area_ne (n : Nat) (h : b ≠ k) : (s.remove k n).2.area b = s.area b := by
  unfold State.remove
  dsimp only
  split
  · rfl
  · simp [setFlow_area_here, h]

/-- A removal takes the oldest bytes and moves every mark with them. -/
theorem remove_area (n : Nat) :
    ((s.remove k n).2.area k).fifo = (s.area k).fifo.drop ((s.area k).removable n) ∧
    ((s.remove k n).2.area k).marks =
      (s.area k).marks.map (fun q => (q.1 - (s.area k).removable n, q.2)) ∧
    ((s.remove k n).2.area k).size = (s.area k).size ∧
    (s.remove k n).1 = ((s.area k).fifo.take ((s.area k).removable n)).map Prod.fst := by
  unfold State.remove
  dsimp only
  split
  · rename_i h
    simp [h]
  · simp [setFlow_area_here, Area.size]

theorem removable_le (a : Area) (n : Nat) : a.removable n ≤ n ∧ a.removable n ≤ a.occupancy := by
  unfold Area.removable
  split <;> omega

/-! ## The bounds -/

variable {s k}

theorem setFlow_fits {f : FlowState} (h : ∀ b, (s.area b).fits) : ((s.setFlow k f).area b).fits := by
  rw [setFlow_area_here]
  split
  · exact h k
  · exact h b

theorem append_fits {bs : List Byte} (h : ∀ b, (s.area b).fits) : ((s.append k bs).1.area b).fits := by
  by_cases hb : b = k
  · subst hb
    obtain ⟨hf, hm, hs⟩ := append_area s b bs
    obtain ⟨h1, h2, h3⟩ := h b
    unfold Area.fits Area.occupancy at *
    rw [hf, hm, hs]
    simp only [List.length_append, List.length_map, List.length_take]
    refine ⟨?_, h2, fun m hm => ?_⟩
    · have : (s.area b).room = (s.area b).size - (s.area b).fifo.length := rfl
      omega
    · have := h3 m hm; omega
  · rw [append_area_ne s k b bs hb]; exact h b

theorem remove_fits {n : Nat} (h : ∀ b, (s.area b).fits) : ((s.remove k n).2.area b).fits := by
  by_cases hb : b = k
  · subst hb
    obtain ⟨hf, hm, hs, -⟩ := remove_area s b n
    obtain ⟨h1, h2, h3⟩ := h b
    unfold Area.fits Area.occupancy at *
    rw [hf, hm, hs]
    simp only [List.length_drop, List.length_map, List.mem_map]
    refine ⟨by omega, h2, ?_⟩
    rintro m ⟨q, hq, rfl⟩
    have := h3 q hq
    dsimp only
    omega
  · rw [remove_area_ne s k b n hb]; exact h b

theorem addMark_fits {v : PageMark} {t : State} (h : ∀ b, (s.area b).fits) (ht : s.addMark k v = some t) :
    (t.area b).fits := by
  unfold State.addMark at ht
  split at ht
  · rename_i hl
    injection ht with ht
    subst ht
    by_cases hb : b = k
    · subst hb
      obtain ⟨h1, h2, h3⟩ := h b
      simp only [area_modArea_same]
      refine ⟨h1, ?_, ?_⟩
      · simp only [List.length_append, List.length_singleton]; omega
      · intro m hm
        rcases List.mem_append.mp hm with hm | hm
        · exact h3 m hm
        · rw [List.mem_singleton] at hm; subst hm; exact le_refl _
    · simp only [area_modArea_ne _ _ _ _ hb]; exact h b
  · cases ht

theorem takeMark_fits (h : ∀ b, (s.area b).fits) : ((s.takeMark k).area b).fits := by
  unfold State.takeMark
  by_cases hb : b = k
  · subst hb
    obtain ⟨h1, h2, h3⟩ := h b
    simp only [area_modArea_same]
    exact ⟨h1, by simp only [List.length_tail]; omega, fun m hm => h3 m (List.mem_of_mem_tail hm)⟩
  · simp only [area_modArea_ne _ _ _ _ hb]; exact h b

theorem emptyArea_fits (h : ∀ b, (s.area b).fits) : ((s.emptyArea k).area b).fits := by
  unfold State.emptyArea
  refine setFlow_fits b fun c => ?_
  by_cases hc : c = k
  · subst hc
    simp [Area.fits, Area.occupancy]
  · simp only [area_modArea_ne _ _ _ _ hc]; exact h c

theorem emptyStage_fits (h : ∀ b, (s.area b).fits) : ((s.emptyStage i).area b).fits := by
  unfold State.emptyStage
  split
  · exact emptyArea_fits b h
  · exact h b

end Sys2Proof.Machine
end

