-- ==== Sys2Proof/Laws/Lines.lean ====
section
/-! SUPPORT. What the changes of line state, the signal record, the flow state and the Tone Engine leave alone (R7, R20,
R28, R67). -/

namespace Sys2Proof.Machine

variable (s : State) (i j : LineId)

/-! ## The signal record -/

@[simp] theorem setSignals_now (a b c d e : Bool) : (s.setSignals i a b c d e).now = s.now := by
  unfold State.setSignals; dsimp only; split <;> rfl
@[simp] theorem setSignals_toneTable (a b c d e : Bool) : (s.setSignals i a b c d e).toneTable = s.toneTable := by
  unfold State.setSignals; dsimp only; split <;> rfl
@[simp] theorem setSignals_patterns (a b c d e : Bool) : (s.setSignals i a b c d e).patterns = s.patterns := by
  unfold State.setSignals; dsimp only; split <;> rfl
@[simp] theorem setSignals_routes (a b c d e : Bool) : (s.setSignals i a b c d e).routes = s.routes := by
  unfold State.setSignals; dsimp only; split <;> rfl
@[simp] theorem setSignals_clock (a b c d e : Bool) : (s.setSignals i a b c d e).clock = s.clock := by
  unfold State.setSignals; dsimp only; split <;> rfl
@[simp] theorem setSignals_areas (a b c d e : Bool) : (s.setSignals i a b c d e).areas = s.areas := by
  unfold State.setSignals; dsimp only; split <;> rfl
@[simp] theorem setSignals_dataLadder (a b c d e : Bool) : (s.setSignals i a b c d e).dataLadder = s.dataLadder := by
  unfold State.setSignals; dsimp only; split <;> rfl
@[simp] theorem setSignals_faxLadder (a b c d e : Bool) : (s.setSignals i a b c d e).faxLadder = s.faxLadder := by
  unfold State.setSignals; dsimp only; split <;> rfl
@[simp] theorem setSignals_store (a b c d e : Bool) : (s.setSignals i a b c d e).store = s.store := by
  unfold State.setSignals; dsimp only; split <;> rfl
@[simp] theorem setSignals_dram (a b c d e : Bool) : (s.setSignals i a b c d e).dram = s.dram := by
  unfold State.setSignals; dsimp only; split <;> rfl
@[simp] theorem setSignals_parser (a b c d e : Bool) : (s.setSignals i a b c d e).parser = s.parser := by
  unfold State.setSignals; dsimp only; split <;> rfl
@[simp] theorem setSignals_gapTimer (a b c d e : Bool) : (s.setSignals i a b c d e).gapTimer = s.gapTimer := by
  unfold State.setSignals; dsimp only; split <;> rfl
@[simp] theorem setSignals_inBreak (a b c d e : Bool) : (s.setSignals i a b c d e).inBreak = s.inBreak := by
  unfold State.setSignals; dsimp only; split <;> rfl
@[simp] theorem setSignals_decoder (a b c d e : Bool) : (s.setSignals i a b c d e).decoder = s.decoder := by
  unfold State.setSignals; dsimp only; split <;> rfl
@[simp] theorem setSignals_replies (a b c d e : Bool) : (s.setSignals i a b c d e).replies = s.replies := by
  unfold State.setSignals; dsimp only; split <;> rfl
@[simp] theorem setSignals_outFrame (a b c d e : Bool) : (s.setSignals i a b c d e).outFrame = s.outFrame := by
  unfold State.setSignals; dsimp only; split <;> rfl
@[simp] theorem setSignals_lastLine (a b c d e : Bool) : (s.setSignals i a b c d e).lastLine = s.lastLine := by
  unfold State.setSignals; dsimp only; split <;> rfl
@[simp] theorem setSignals_lastSource (a b c d e : Bool) : (s.setSignals i a b c d e).lastSource = s.lastSource := by
  unfold State.setSignals; dsimp only; split <;> rfl
@[simp] theorem setSignals_partQueue (a b c d e : Bool) : (s.setSignals i a b c d e).partQueue = s.partQueue := by
  unfold State.setSignals; dsimp only; split <;> rfl
@[simp] theorem setSignals_pending (a b c d e : Bool) : (s.setSignals i a b c d e).pending = s.pending := by
  unfold State.setSignals; dsimp only; split <;> rfl

@[simp] theorem setSignals_area (a b c d e : Bool) (k : AreaId) : (s.setSignals i a b c d e).area k = s.area k := by
  unfold State.setSignals; dsimp only; split <;> rfl

@[simp] theorem setSignals_line_ne (a b c d e : Bool) (h : j ≠ i) : (s.setSignals i a b c d e).line j = s.line j := by
  unfold State.setSignals; dsimp only; split <;> simp [h]

@[simp] theorem setSignals_line_state (a b c d e : Bool) :
    ((s.setSignals i a b c d e).line i).state = (s.line i).state := by
  unfold State.setSignals; dsimp only; split <;> simp
@[simp] theorem setSignals_line_job (a b c d e : Bool) :
    ((s.setSignals i a b c d e).line i).job = (s.line i).job := by
  unfold State.setSignals; dsimp only; split <;> simp
@[simp] theorem setSignals_line_direction (a b c d e : Bool) :
    ((s.setSignals i a b c d e).line i).direction = (s.line i).direction := by
  unfold State.setSignals; dsimp only; split <;> simp
@[simp] theorem setSignals_line_faxSource (a b c d e : Bool) :
    ((s.setSignals i a b c d e).line i).faxSource = (s.line i).faxSource := by
  unfold State.setSignals; dsimp only; split <;> simp
@[simp] theorem setSignals_line_profile (a b c d e : Bool) :
    ((s.setSignals i a b c d e).line i).profile = (s.line i).profile := by
  unfold State.setSignals; dsimp only; split <;> simp
@[simp] theorem setSignals_line_call (a b c d e : Bool) :
    ((s.setSignals i a b c d e).line i).call = (s.line i).call := by
  unfold State.setSignals; dsimp only; split <;> simp
@[simp] theorem setSignals_line_dialList (a b c d e : Bool) :
    ((s.setSignals i a b c d e).line i).dialList = (s.line i).dialList := by
  unfold State.setSignals; dsimp only; split <;> simp
@[simp] theorem setSignals_line_dialPos (a b c d e : Bool) :
    ((s.setSignals i a b c d e).line i).dialPos = (s.line i).dialPos := by
  unfold State.setSignals; dsimp only; split <;> simp
@[simp] theorem setSignals_line_substRing (a b c d e : Bool) :
    ((s.setSignals i a b c d e).line i).substRing = (s.line i).substRing := by
  unfold State.setSignals; dsimp only; split <;> simp
@[simp] theorem setSignals_line_substLoop (a b c d e : Bool) :
    ((s.setSignals i a b c d e).line i).substLoop = (s.line i).substLoop := by
  unfold State.setSignals; dsimp only; split <;> simp
@[simp] theorem setSignals_line_loopCount (a b c d e : Bool) :
    ((s.setSignals i a b c d e).line i).loopCount = (s.line i).loopCount := by
  unfold State.setSignals; dsimp only; split <;> simp
@[simp] theorem setSignals_line_loopClass (a b c d e : Bool) :
    ((s.setSignals i a b c d e).line i).loopClass = (s.line i).loopClass := by
  unfold State.setSignals; dsimp only; split <;> simp
@[simp] theorem setSignals_line_copies (a b c d e : Bool) :
    ((s.setSignals i a b c d e).line i).copies = (s.line i).copies := by
  unfold State.setSignals; dsimp only; split <;> simp
@[simp] theorem setSignals_line_realRing (a b c d e : Bool) :
    ((s.setSignals i a b c d e).line i).realRing = (s.line i).realRing := by
  unfold State.setSignals; dsimp only; split <;> simp
@[simp] theorem setSignals_line_realLoop (a b c d e : Bool) :
    ((s.setSignals i a b c d e).line i).realLoop = (s.line i).realLoop := by
  unfold State.setSignals; dsimp only; split <;> simp
@[simp] theorem setSignals_line_relay (a b c d e : Bool) :
    ((s.setSignals i a b c d e).line i).relay = (s.line i).relay := by
  unfold State.setSignals; dsimp only; split <;> simp
@[simp] theorem setSignals_line_ring (a b c d e : Bool) :
    ((s.setSignals i a b c d e).line i).ring = (s.line i).ring := by
  unfold State.setSignals; dsimp only; split <;> simp
@[simp] theorem setSignals_line_loopTimer (a b c d e : Bool) :
    ((s.setSignals i a b c d e).line i).loopTimer = (s.line i).loopTimer := by
  unfold State.setSignals; dsimp only; split <;> simp
@[simp] theorem setSignals_line_guard (a b c d e : Bool) :
    ((s.setSignals i a b c d e).line i).guard = (s.line i).guard := by
  unfold State.setSignals; dsimp only; split <;> simp
@[simp] theorem setSignals_line_dialWait (a b c d e : Bool) :
    ((s.setSignals i a b c d e).line i).dialWait = (s.line i).dialWait := by
  unfold State.setSignals; dsimp only; split <;> simp
@[simp] theorem setSignals_line_dialStep (a b c d e : Bool) :
    ((s.setSignals i a b c d e).line i).dialStep = (s.line i).dialStep := by
  unfold State.setSignals; dsimp only; split <;> simp
@[simp] theorem setSignals_line_answerWait (a b c d e : Bool) :
    ((s.setSignals i a b c d e).line i).answerWait = (s.line i).answerWait := by
  unfold State.setSignals; dsimp only; split <;> simp
@[simp] theorem setSignals_line_ringbackSeen (a b c d e : Bool) :
    ((s.setSignals i a b c d e).line i).ringbackSeen = (s.line i).ringbackSeen := by
  unfold State.setSignals; dsimp only; split <;> simp
@[simp] theorem setSignals_line_watch (a b c d e : Bool) :
    ((s.setSignals i a b c d e).line i).watch = (s.line i).watch := by
  unfold State.setSignals; dsimp only; split <;> simp
@[simp] theorem setSignals_line_classifyTimer (a b c d e : Bool) :
    ((s.setSignals i a b c d e).line i).classifyTimer = (s.line i).classifyTimer := by
  unfold State.setSignals; dsimp only; split <;> simp
@[simp] theorem setSignals_line_dropTimer (a b c d e : Bool) :
    ((s.setSignals i a b c d e).line i).dropTimer = (s.line i).dropTimer := by
  unfold State.setSignals; dsimp only; split <;> simp
@[simp] theorem setSignals_line_override (a b c d e : Bool) :
    ((s.setSignals i a b c d e).line i).override = (s.line i).override := by
  unfold State.setSignals; dsimp only; split <;> simp
@[simp] theorem setSignals_line_answerWaiting (a b c d e : Bool) :
    ((s.setSignals i a b c d e).line i).answerWaiting = (s.line i).answerWaiting := by
  unfold State.setSignals; dsimp only; split <;> simp
@[simp] theorem setSignals_line_tone (a b c d e : Bool) :
    ((s.setSignals i a b c d e).line i).tone = (s.line i).tone := by
  unfold State.setSignals; dsimp only; split <;> simp
@[simp] theorem setSignals_line_carrier (a b c d e : Bool) :
    ((s.setSignals i a b c d e).line i).carrier = (s.line i).carrier := by
  unfold State.setSignals; dsimp only; split <;> simp
@[simp] theorem setSignals_line_quality (a b c d e : Bool) :
    ((s.setSignals i a b c d e).line i).quality = (s.line i).quality := by
  unfold State.setSignals; dsimp only; split <;> simp
@[simp] theorem setSignals_line_link (a b c d e : Bool) :
    ((s.setSignals i a b c d e).line i).link = (s.line i).link := by
  unfold State.setSignals; dsimp only; split <;> simp
@[simp] theorem setSignals_line_fax (a b c d e : Bool) :
    ((s.setSignals i a b c d e).line i).fax = (s.line i).fax := by
  unfold State.setSignals; dsimp only; split <;> simp
@[simp] theorem setSignals_line_faxEcho (a b c d e : Bool) :
    ((s.setSignals i a b c d e).line i).faxEcho = (s.line i).faxEcho := by
  unfold State.setSignals; dsimp only; split <;> simp
@[simp] theorem setSignals_line_voice (a b c d e : Bool) :
    ((s.setSignals i a b c d e).line i).voice = (s.line i).voice := by
  unfold State.setSignals; dsimp only; split <;> simp
@[simp] theorem setSignals_line_stage (a b c d e : Bool) :
    ((s.setSignals i a b c d e).line i).stage = (s.line i).stage := by
  unfold State.setSignals; dsimp only; split <;> simp

theorem setSignals_line_signals (a b c d e : Bool) : ((s.setSignals i a b c d e).line i).signals =
    if (s.line i).signals.same a b c d && !e then (s.line i).signals else (s.line i).signals.update a b c d e := by
  unfold State.setSignals; dsimp only; split <;> simp_all

/-- The four values after an update are the ones given (R20). -/
theorem setSignals_values (a b c d e : Bool) :
    ((s.setSignals i a b c d e).line i).signals.ring = a ∧ ((s.setSignals i a b c d e).line i).signals.loop = b ∧
    ((s.setSignals i a b c d e).line i).signals.carrier = c ∧ ((s.setSignals i a b c d e).line i).signals.hook = d := by
  rw [setSignals_line_signals]
  split
  · rename_i h; simp_all [Signals.same]
  · simp [Signals.update]

/-! ## A change of line state (R7) -/

@[simp] theorem pass_now (st : LineState) : (s.pass i st).now = s.now := by simp [State.pass]
@[simp] theorem pass_toneTable (st : LineState) : (s.pass i st).toneTable = s.toneTable := by simp [State.pass]
@[simp] theorem pass_patterns (st : LineState) : (s.pass i st).patterns = s.patterns := by simp [State.pass]
@[simp] theorem pass_routes (st : LineState) : (s.pass i st).routes = s.routes := by simp [State.pass]
@[simp] theorem pass_clock (st : LineState) : (s.pass i st).clock = s.clock := by simp [State.pass]
@[simp] theorem pass_areas (st : LineState) : (s.pass i st).areas = s.areas := by simp [State.pass]
@[simp] theorem pass_dataLadder (st : LineState) : (s.pass i st).dataLadder = s.dataLadder := by simp [State.pass]
@[simp] theorem pass_faxLadder (st : LineState) : (s.pass i st).faxLadder = s.faxLadder := by simp [State.pass]
@[simp] theorem pass_store (st : LineState) : (s.pass i st).store = s.store := by simp [State.pass]
@[simp] theorem pass_dram (st : LineState) : (s.pass i st).dram = s.dram := by simp [State.pass]
@[simp] theorem pass_parser (st : LineState) : (s.pass i st).parser = s.parser := by simp [State.pass]
@[simp] theorem pass_gapTimer (st : LineState) : (s.pass i st).gapTimer = s.gapTimer := by simp [State.pass]
@[simp] theorem pass_inBreak (st : LineState) : (s.pass i st).inBreak = s.inBreak := by simp [State.pass]
@[simp] theorem pass_decoder (st : LineState) : (s.pass i st).decoder = s.decoder := by simp [State.pass]
@[simp] theorem pass_replies (st : LineState) : (s.pass i st).replies = s.replies := by simp [State.pass]
@[simp] theorem pass_outFrame (st : LineState) : (s.pass i st).outFrame = s.outFrame := by simp [State.pass]
@[simp] theorem pass_lastLine (st : LineState) : (s.pass i st).lastLine = s.lastLine := by simp [State.pass]
@[simp] theorem pass_lastSource (st : LineState) : (s.pass i st).lastSource = s.lastSource := by simp [State.pass]
@[simp] theorem pass_partQueue (st : LineState) : (s.pass i st).partQueue = s.partQueue := by simp [State.pass]
@[simp] theorem pass_pending (st : LineState) : (s.pass i st).pending = s.pending := by simp [State.pass]

@[simp] theorem pass_area (st : LineState) (k : AreaId) : (s.pass i st).area k = s.area k := by simp [State.pass]

@[simp] theorem pass_line_ne (st : LineState) (h : j ≠ i) : (s.pass i st).line j = s.line j := by simp [State.pass, h]

variable (l : Line) (table : List ToneEntry) (now : Ms) (st : LineState)

@[simp] theorem startQualifying_relay : (l.startQualifying now).relay = l.relay := rfl
@[simp] theorem linePass_state : (l.pass table now st).state = st := by
  unfold Line.pass Line.freshRing; dsimp only; split_ifs <;> rfl
@[simp] theorem linePass_relay : (l.pass table now st).relay = st.offHook := by
  unfold Line.pass Line.freshRing; dsimp only; split_ifs <;> rfl
@[simp] theorem pass_line_state : ((s.pass i st).line i).state = st := by simp [State.pass]
@[simp] theorem pass_line_relay : ((s.pass i st).line i).relay = st.offHook := by simp [State.pass]

@[simp] theorem linePass_job : (l.pass table now st).job = l.job := by
  unfold Line.pass Line.freshRing; dsimp only; split_ifs <;> rfl
@[simp] theorem pass_line_job : ((s.pass i st).line i).job = (s.line i).job := by simp [State.pass]
@[simp] theorem linePass_direction : (l.pass table now st).direction = l.direction := by
  unfold Line.pass Line.freshRing; dsimp only; split_ifs <;> rfl
@[simp] theorem pass_line_direction : ((s.pass i st).line i).direction = (s.line i).direction := by simp [State.pass]
@[simp] theorem linePass_faxSource : (l.pass table now st).faxSource = l.faxSource := by
  unfold Line.pass Line.freshRing; dsimp only; split_ifs <;> rfl
@[simp] theorem pass_line_faxSource : ((s.pass i st).line i).faxSource = (s.line i).faxSource := by simp [State.pass]
@[simp] theorem linePass_profile : (l.pass table now st).profile = l.profile := by
  unfold Line.pass Line.freshRing; dsimp only; split_ifs <;> rfl
@[simp] theorem pass_line_profile : ((s.pass i st).line i).profile = (s.line i).profile := by simp [State.pass]
@[simp] theorem linePass_call : (l.pass table now st).call = l.call := by
  unfold Line.pass Line.freshRing; dsimp only; split_ifs <;> rfl
@[simp] theorem pass_line_call : ((s.pass i st).line i).call = (s.line i).call := by simp [State.pass]
@[simp] theorem linePass_dialList : (l.pass table now st).dialList = l.dialList := by
  unfold Line.pass Line.freshRing; dsimp only; split_ifs <;> rfl
@[simp] theorem pass_line_dialList : ((s.pass i st).line i).dialList = (s.line i).dialList := by simp [State.pass]
@[simp] theorem linePass_dialPos : (l.pass table now st).dialPos = l.dialPos := by
  unfold Line.pass Line.freshRing; dsimp only; split_ifs <;> rfl
@[simp] theorem pass_line_dialPos : ((s.pass i st).line i).dialPos = (s.line i).dialPos := by simp [State.pass]
@[simp] theorem linePass_substRing : (l.pass table now st).substRing = l.substRing := by
  unfold Line.pass Line.freshRing; dsimp only; split_ifs <;> rfl
@[simp] theorem pass_line_substRing : ((s.pass i st).line i).substRing = (s.line i).substRing := by simp [State.pass]
@[simp] theorem linePass_substLoop : (l.pass table now st).substLoop = l.substLoop := by
  unfold Line.pass Line.freshRing; dsimp only; split_ifs <;> rfl
@[simp] theorem pass_line_substLoop : ((s.pass i st).line i).substLoop = (s.line i).substLoop := by simp [State.pass]
@[simp] theorem linePass_loopCount : (l.pass table now st).loopCount = l.loopCount := by
  unfold Line.pass Line.freshRing; dsimp only; split_ifs <;> rfl
@[simp] theorem pass_line_loopCount : ((s.pass i st).line i).loopCount = (s.line i).loopCount := by simp [State.pass]
@[simp] theorem linePass_loopClass : (l.pass table now st).loopClass = l.loopClass := by
  unfold Line.pass Line.freshRing; dsimp only; split_ifs <;> rfl
@[simp] theorem pass_line_loopClass : ((s.pass i st).line i).loopClass = (s.line i).loopClass := by simp [State.pass]
@[simp] theorem linePass_copies : (l.pass table now st).copies = l.copies := by
  unfold Line.pass Line.freshRing; dsimp only; split_ifs <;> rfl
@[simp] theorem pass_line_copies : ((s.pass i st).line i).copies = (s.line i).copies := by simp [State.pass]
@[simp] theorem linePass_realRing : (l.pass table now st).realRing = l.realRing := by
  unfold Line.pass Line.freshRing; dsimp only; split_ifs <;> rfl
@[simp] theorem pass_line_realRing : ((s.pass i st).line i).realRing = (s.line i).realRing := by simp [State.pass]
@[simp] theorem linePass_realLoop : (l.pass table now st).realLoop = l.realLoop := by
  unfold Line.pass Line.freshRing; dsimp only; split_ifs <;> rfl
@[simp] theorem pass_line_realLoop : ((s.pass i st).line i).realLoop = (s.line i).realLoop := by simp [State.pass]
@[simp] theorem linePass_guard : (l.pass table now st).guard = l.guard := by
  unfold Line.pass Line.freshRing; dsimp only; split_ifs <;> rfl
@[simp] theorem pass_line_guard : ((s.pass i st).line i).guard = (s.line i).guard := by simp [State.pass]
@[simp] theorem linePass_dialWait : (l.pass table now st).dialWait = l.dialWait := by
  unfold Line.pass Line.freshRing; dsimp only; split_ifs <;> rfl
@[simp] theorem pass_line_dialWait : ((s.pass i st).line i).dialWait = (s.line i).dialWait := by simp [State.pass]
@[simp] theorem linePass_dialStep : (l.pass table now st).dialStep = l.dialStep := by
  unfold Line.pass Line.freshRing; dsimp only; split_ifs <;> rfl
@[simp] theorem pass_line_dialStep : ((s.pass i st).line i).dialStep = (s.line i).dialStep := by simp [State.pass]
@[simp] theorem linePass_answerWait : (l.pass table now st).answerWait = l.answerWait := by
  unfold Line.pass Line.freshRing; dsimp only; split_ifs <;> rfl
@[simp] theorem pass_line_answerWait : ((s.pass i st).line i).answerWait = (s.line i).answerWait := by simp [State.pass]
@[simp] theorem linePass_ringbackSeen : (l.pass table now st).ringbackSeen = l.ringbackSeen := by
  unfold Line.pass Line.freshRing; dsimp only; split_ifs <;> rfl
@[simp] theorem pass_line_ringbackSeen : ((s.pass i st).line i).ringbackSeen = (s.line i).ringbackSeen := by simp [State.pass]
@[simp] theorem linePass_watch : (l.pass table now st).watch = l.watch := by
  unfold Line.pass Line.freshRing; dsimp only; split_ifs <;> rfl
@[simp] theorem pass_line_watch : ((s.pass i st).line i).watch = (s.line i).watch := by simp [State.pass]
@[simp] theorem linePass_classifyTimer : (l.pass table now st).classifyTimer = l.classifyTimer := by
  unfold Line.pass Line.freshRing; dsimp only; split_ifs <;> rfl
@[simp] theorem pass_line_classifyTimer : ((s.pass i st).line i).classifyTimer = (s.line i).classifyTimer := by simp [State.pass]
@[simp] theorem linePass_dropTimer : (l.pass table now st).dropTimer = l.dropTimer := by
  unfold Line.pass Line.freshRing; dsimp only; split_ifs <;> rfl
@[simp] theorem pass_line_dropTimer : ((s.pass i st).line i).dropTimer = (s.line i).dropTimer := by simp [State.pass]
@[simp] theorem linePass_override : (l.pass table now st).override = l.override := by
  unfold Line.pass Line.freshRing; dsimp only; split_ifs <;> rfl
@[simp] theorem pass_line_override : ((s.pass i st).line i).override = (s.line i).override := by simp [State.pass]
@[simp] theorem linePass_answerWaiting : (l.pass table now st).answerWaiting = l.answerWaiting := by
  unfold Line.pass Line.freshRing; dsimp only; split_ifs <;> rfl
@[simp] theorem pass_line_answerWaiting : ((s.pass i st).line i).answerWaiting = (s.line i).answerWaiting := by simp [State.pass]
@[simp] theorem linePass_quality : (l.pass table now st).quality = l.quality := by
  unfold Line.pass Line.freshRing; dsimp only; split_ifs <;> rfl
@[simp] theorem pass_line_quality : ((s.pass i st).line i).quality = (s.line i).quality := by simp [State.pass]
@[simp] theorem linePass_link : (l.pass table now st).link = l.link := by
  unfold Line.pass Line.freshRing; dsimp only; split_ifs <;> rfl
@[simp] theorem pass_line_link : ((s.pass i st).line i).link = (s.line i).link := by simp [State.pass]
@[simp] theorem linePass_fax : (l.pass table now st).fax = l.fax := by
  unfold Line.pass Line.freshRing; dsimp only; split_ifs <;> rfl
@[simp] theorem pass_line_fax : ((s.pass i st).line i).fax = (s.line i).fax := by simp [State.pass]
@[simp] theorem linePass_faxEcho : (l.pass table now st).faxEcho = l.faxEcho := by
  unfold Line.pass Line.freshRing; dsimp only; split_ifs <;> rfl
@[simp] theorem pass_line_faxEcho : ((s.pass i st).line i).faxEcho = (s.line i).faxEcho := by simp [State.pass]
@[simp] theorem linePass_voice : (l.pass table now st).voice = l.voice := by
  unfold Line.pass Line.freshRing; dsimp only; split_ifs <;> rfl
@[simp] theorem pass_line_voice : ((s.pass i st).line i).voice = (s.line i).voice := by simp [State.pass]
@[simp] theorem linePass_stage : (l.pass table now st).stage = l.stage := by
  unfold Line.pass Line.freshRing; dsimp only; split_ifs <;> rfl
@[simp] theorem pass_line_stage : ((s.pass i st).line i).stage = (s.line i).stage := by simp [State.pass]

/-- The signal record of a line that has passed to a state (R7, R20). -/
theorem pass_signals : let l := (s.line i).pass s.toneTable s.now st
    ((s.pass i st).line i).signals.ring = l.ring.burst.isSome ∧
    ((s.pass i st).line i).signals.loop = (st != .offline && l.loopIn) ∧
    ((s.pass i st).line i).signals.carrier = l.carrier ∧ ((s.pass i st).line i).signals.hook = st.offHook :=
  setSignals_values _ _ _ _ _ _ _

/-! ## Generation and flow -/

@[simp] theorem generate_now (c : ToneClass) (n : Ms) : (s.generate i c n).now = s.now := rfl
@[simp] theorem generate_toneTable (c : ToneClass) (n : Ms) : (s.generate i c n).toneTable = s.toneTable := rfl
@[simp] theorem generate_patterns (c : ToneClass) (n : Ms) : (s.generate i c n).patterns = s.patterns := rfl
@[simp] theorem generate_routes (c : ToneClass) (n : Ms) : (s.generate i c n).routes = s.routes := rfl
@[simp] theorem generate_clock (c : ToneClass) (n : Ms) : (s.generate i c n).clock = s.clock := rfl
@[simp] theorem generate_areas (c : ToneClass) (n : Ms) : (s.generate i c n).areas = s.areas := rfl
@[simp] theorem generate_dataLadder (c : ToneClass) (n : Ms) : (s.generate i c n).dataLadder = s.dataLadder := rfl
@[simp] theorem generate_faxLadder (c : ToneClass) (n : Ms) : (s.generate i c n).faxLadder = s.faxLadder := rfl
@[simp] theorem generate_store (c : ToneClass) (n : Ms) : (s.generate i c n).store = s.store := rfl
@[simp] theorem generate_dram (c : ToneClass) (n : Ms) : (s.generate i c n).dram = s.dram := rfl
@[simp] theorem generate_parser (c : ToneClass) (n : Ms) : (s.generate i c n).parser = s.parser := rfl
@[simp] theorem generate_gapTimer (c : ToneClass) (n : Ms) : (s.generate i c n).gapTimer = s.gapTimer := rfl
@[simp] theorem generate_inBreak (c : ToneClass) (n : Ms) : (s.generate i c n).inBreak = s.inBreak := rfl
@[simp] theorem generate_decoder (c : ToneClass) (n : Ms) : (s.generate i c n).decoder = s.decoder := rfl
@[simp] theorem generate_replies (c : ToneClass) (n : Ms) : (s.generate i c n).replies = s.replies := rfl
@[simp] theorem generate_outFrame (c : ToneClass) (n : Ms) : (s.generate i c n).outFrame = s.outFrame := rfl
@[simp] theorem generate_lastLine (c : ToneClass) (n : Ms) : (s.generate i c n).lastLine = s.lastLine := rfl
@[simp] theorem generate_lastSource (c : ToneClass) (n : Ms) : (s.generate i c n).lastSource = s.lastSource := rfl
@[simp] theorem generate_partQueue (c : ToneClass) (n : Ms) : (s.generate i c n).partQueue = s.partQueue := rfl
@[simp] theorem generate_pending (c : ToneClass) (n : Ms) : (s.generate i c n).pending = s.pending := rfl

@[simp] theorem generate_area (c : ToneClass) (n : Ms) (k : AreaId) : (s.generate i c n).area k = s.area k := rfl
@[simp] theorem generateEcho_now (c : ToneClass) (n : Ms) : (s.generateEcho i c n).now = s.now := rfl
@[simp] theorem generateEcho_toneTable (c : ToneClass) (n : Ms) : (s.generateEcho i c n).toneTable = s.toneTable := rfl
@[simp] theorem generateEcho_patterns (c : ToneClass) (n : Ms) : (s.generateEcho i c n).patterns = s.patterns := rfl
@[simp] theorem generateEcho_routes (c : ToneClass) (n : Ms) : (s.generateEcho i c n).routes = s.routes := rfl
@[simp] theorem generateEcho_clock (c : ToneClass) (n : Ms) : (s.generateEcho i c n).clock = s.clock := rfl
@[simp] theorem generateEcho_areas (c : ToneClass) (n : Ms) : (s.generateEcho i c n).areas = s.areas := rfl
@[simp] theorem generateEcho_dataLadder (c : ToneClass) (n : Ms) : (s.generateEcho i c n).dataLadder = s.dataLadder := rfl
@[simp] theorem generateEcho_faxLadder (c : ToneClass) (n : Ms) : (s.generateEcho i c n).faxLadder = s.faxLadder := rfl
@[simp] theorem generateEcho_store (c : ToneClass) (n : Ms) : (s.generateEcho i c n).store = s.store := rfl
@[simp] theorem generateEcho_dram (c : ToneClass) (n : Ms) : (s.generateEcho i c n).dram = s.dram := rfl
@[simp] theorem generateEcho_parser (c : ToneClass) (n : Ms) : (s.generateEcho i c n).parser = s.parser := rfl
@[simp] theorem generateEcho_gapTimer (c : ToneClass) (n : Ms) : (s.generateEcho i c n).gapTimer = s.gapTimer := rfl
@[simp] theorem generateEcho_inBreak (c : ToneClass) (n : Ms) : (s.generateEcho i c n).inBreak = s.inBreak := rfl
@[simp] theorem generateEcho_decoder (c : ToneClass) (n : Ms) : (s.generateEcho i c n).decoder = s.decoder := rfl
@[simp] theorem generateEcho_replies (c : ToneClass) (n : Ms) : (s.generateEcho i c n).replies = s.replies := rfl
@[simp] theorem generateEcho_outFrame (c : ToneClass) (n : Ms) : (s.generateEcho i c n).outFrame = s.outFrame := rfl
@[simp] theorem generateEcho_lastLine (c : ToneClass) (n : Ms) : (s.generateEcho i c n).lastLine = s.lastLine := rfl
@[simp] theorem generateEcho_lastSource (c : ToneClass) (n : Ms) : (s.generateEcho i c n).lastSource = s.lastSource := rfl
@[simp] theorem generateEcho_partQueue (c : ToneClass) (n : Ms) : (s.generateEcho i c n).partQueue = s.partQueue := rfl
@[simp] theorem generateEcho_pending (c : ToneClass) (n : Ms) : (s.generateEcho i c n).pending = s.pending := rfl
@[simp] theorem generateEcho_area (c : ToneClass) (n : Ms) (k : AreaId) : (s.generateEcho i c n).area k = s.area k := rfl

@[simp] theorem generate_line_ne (c : ToneClass) (n : Ms) (h : j ≠ i) : (s.generate i c n).line j = s.line j := by
  simp [State.generate, h]

@[simp] theorem generateEcho_line_ne (c : ToneClass) (n : Ms) (h : j ≠ i) :
    (s.generateEcho i c n).line j = s.line j := by
  simp [State.generateEcho, h]

@[simp] theorem generate_line_state (c : ToneClass) (n : Ms) :
    ((s.generate i c n).line i).state = (s.line i).state := by simp [State.generate]
@[simp] theorem generate_line_job (c : ToneClass) (n : Ms) :
    ((s.generate i c n).line i).job = (s.line i).job := by simp [State.generate]
@[simp] theorem generate_line_direction (c : ToneClass) (n : Ms) :
    ((s.generate i c n).line i).direction = (s.line i).direction := by simp [State.generate]
@[simp] theorem generate_line_faxSource (c : ToneClass) (n : Ms) :
    ((s.generate i c n).line i).faxSource = (s.line i).faxSource := by simp [State.generate]
@[simp] theorem generate_line_profile (c : ToneClass) (n : Ms) :
    ((s.generate i c n).line i).profile = (s.line i).profile := by simp [State.generate]
@[simp] theorem generate_line_call (c : ToneClass) (n : Ms) :
    ((s.generate i c n).line i).call = (s.line i).call := by simp [State.generate]
@[simp] theorem generate_line_dialList (c : ToneClass) (n : Ms) :
    ((s.generate i c n).line i).dialList = (s.line i).dialList := by simp [State.generate]
@[simp] theorem generate_line_dialPos (c : ToneClass) (n : Ms) :
    ((s.generate i c n).line i).dialPos = (s.line i).dialPos := by simp [State.generate]
@[simp] theorem generate_line_substRing (c : ToneClass) (n : Ms) :
    ((s.generate i c n).line i).substRing = (s.line i).substRing := by simp [State.generate]
@[simp] theorem generate_line_substLoop (c : ToneClass) (n : Ms) :
    ((s.generate i c n).line i).substLoop = (s.line i).substLoop := by simp [State.generate]
@[simp] theorem generate_line_loopCount (c : ToneClass) (n : Ms) :
    ((s.generate i c n).line i).loopCount = (s.line i).loopCount := by simp [State.generate]
@[simp] theorem generate_line_loopClass (c : ToneClass) (n : Ms) :
    ((s.generate i c n).line i).loopClass = (s.line i).loopClass := by simp [State.generate]
@[simp] theorem generate_line_copies (c : ToneClass) (n : Ms) :
    ((s.generate i c n).line i).copies = (s.line i).copies := by simp [State.generate]
@[simp] theorem generate_line_realRing (c : ToneClass) (n : Ms) :
    ((s.generate i c n).line i).realRing = (s.line i).realRing := by simp [State.generate]
@[simp] theorem generate_line_realLoop (c : ToneClass) (n : Ms) :
    ((s.generate i c n).line i).realLoop = (s.line i).realLoop := by simp [State.generate]
@[simp] theorem generate_line_relay (c : ToneClass) (n : Ms) :
    ((s.generate i c n).line i).relay = (s.line i).relay := by simp [State.generate]
@[simp] theorem generate_line_ring (c : ToneClass) (n : Ms) :
    ((s.generate i c n).line i).ring = (s.line i).ring := by simp [State.generate]
@[simp] theorem generate_line_loopTimer (c : ToneClass) (n : Ms) :
    ((s.generate i c n).line i).loopTimer = (s.line i).loopTimer := by simp [State.generate]
@[simp] theorem generate_line_signals (c : ToneClass) (n : Ms) :
    ((s.generate i c n).line i).signals = (s.line i).signals := by simp [State.generate]
@[simp] theorem generate_line_guard (c : ToneClass) (n : Ms) :
    ((s.generate i c n).line i).guard = (s.line i).guard := by simp [State.generate]
@[simp] theorem generate_line_dialWait (c : ToneClass) (n : Ms) :
    ((s.generate i c n).line i).dialWait = (s.line i).dialWait := by simp [State.generate]
@[simp] theorem generate_line_dialStep (c : ToneClass) (n : Ms) :
    ((s.generate i c n).line i).dialStep = (s.line i).dialStep := by simp [State.generate]
@[simp] theorem generate_line_answerWait (c : ToneClass) (n : Ms) :
    ((s.generate i c n).line i).answerWait = (s.line i).answerWait := by simp [State.generate]
@[simp] theorem generate_line_ringbackSeen (c : ToneClass) (n : Ms) :
    ((s.generate i c n).line i).ringbackSeen = (s.line i).ringbackSeen := by simp [State.generate]
@[simp] theorem generate_line_watch (c : ToneClass) (n : Ms) :
    ((s.generate i c n).line i).watch = (s.line i).watch := by simp [State.generate]
@[simp] theorem generate_line_classifyTimer (c : ToneClass) (n : Ms) :
    ((s.generate i c n).line i).classifyTimer = (s.line i).classifyTimer := by simp [State.generate]
@[simp] theorem generate_line_dropTimer (c : ToneClass) (n : Ms) :
    ((s.generate i c n).line i).dropTimer = (s.line i).dropTimer := by simp [State.generate]
@[simp] theorem generate_line_override (c : ToneClass) (n : Ms) :
    ((s.generate i c n).line i).override = (s.line i).override := by simp [State.generate]
@[simp] theorem generate_line_answerWaiting (c : ToneClass) (n : Ms) :
    ((s.generate i c n).line i).answerWaiting = (s.line i).answerWaiting := by simp [State.generate]
@[simp] theorem generate_line_carrier (c : ToneClass) (n : Ms) :
    ((s.generate i c n).line i).carrier = (s.line i).carrier := by simp [State.generate]
@[simp] theorem generate_line_quality (c : ToneClass) (n : Ms) :
    ((s.generate i c n).line i).quality = (s.line i).quality := by simp [State.generate]
@[simp] theorem generate_line_link (c : ToneClass) (n : Ms) :
    ((s.generate i c n).line i).link = (s.line i).link := by simp [State.generate]
@[simp] theorem generate_line_fax (c : ToneClass) (n : Ms) :
    ((s.generate i c n).line i).fax = (s.line i).fax := by simp [State.generate]
@[simp] theorem generate_line_faxEcho (c : ToneClass) (n : Ms) :
    ((s.generate i c n).line i).faxEcho = (s.line i).faxEcho := by simp [State.generate]
@[simp] theorem generate_line_voice (c : ToneClass) (n : Ms) :
    ((s.generate i c n).line i).voice = (s.line i).voice := by simp [State.generate]
@[simp] theorem generate_line_stage (c : ToneClass) (n : Ms) :
    ((s.generate i c n).line i).stage = (s.line i).stage := by simp [State.generate]
@[simp] theorem generate_line_queue (c : ToneClass) (n : Ms) :
    ((s.generate i c n).line i).queue = (s.line i).queue := by simp [State.generate]
@[simp] theorem setFlow_now (k : AreaId) (v : FlowState) : (s.setFlow k v).now = s.now := by
  unfold State.setFlow; split_ifs; · rfl
  · split <;> rfl
@[simp] theorem setFlow_toneTable (k : AreaId) (v : FlowState) : (s.setFlow k v).toneTable = s.toneTable := by
  unfold State.setFlow; split_ifs; · rfl
  · split <;> rfl
@[simp] theorem setFlow_patterns (k : AreaId) (v : FlowState) : (s.setFlow k v).patterns = s.patterns := by
  unfold State.setFlow; split_ifs; · rfl
  · split <;> rfl
@[simp] theorem setFlow_routes (k : AreaId) (v : FlowState) : (s.setFlow k v).routes = s.routes := by
  unfold State.setFlow; split_ifs; · rfl
  · split <;> rfl
@[simp] theorem setFlow_clock (k : AreaId) (v : FlowState) : (s.setFlow k v).clock = s.clock := by
  unfold State.setFlow; split_ifs; · rfl
  · split <;> rfl
@[simp] theorem setFlow_dataLadder (k : AreaId) (v : FlowState) : (s.setFlow k v).dataLadder = s.dataLadder := by
  unfold State.setFlow; split_ifs; · rfl
  · split <;> rfl
@[simp] theorem setFlow_faxLadder (k : AreaId) (v : FlowState) : (s.setFlow k v).faxLadder = s.faxLadder := by
  unfold State.setFlow; split_ifs; · rfl
  · split <;> rfl
@[simp] theorem setFlow_store (k : AreaId) (v : FlowState) : (s.setFlow k v).store = s.store := by
  unfold State.setFlow; split_ifs; · rfl
  · split <;> rfl
@[simp] theorem setFlow_dram (k : AreaId) (v : FlowState) : (s.setFlow k v).dram = s.dram := by
  unfold State.setFlow; split_ifs; · rfl
  · split <;> rfl
@[simp] theorem setFlow_parser (k : AreaId) (v : FlowState) : (s.setFlow k v).parser = s.parser := by
  unfold State.setFlow; split_ifs; · rfl
  · split <;> rfl
@[simp] theorem setFlow_gapTimer (k : AreaId) (v : FlowState) : (s.setFlow k v).gapTimer = s.gapTimer := by
  unfold State.setFlow; split_ifs; · rfl
  · split <;> rfl
@[simp] theorem setFlow_inBreak (k : AreaId) (v : FlowState) : (s.setFlow k v).inBreak = s.inBreak := by
  unfold State.setFlow; split_ifs; · rfl
  · split <;> rfl
@[simp] theorem setFlow_decoder (k : AreaId) (v : FlowState) : (s.setFlow k v).decoder = s.decoder := by
  unfold State.setFlow; split_ifs; · rfl
  · split <;> rfl
@[simp] theorem setFlow_replies (k : AreaId) (v : FlowState) : (s.setFlow k v).replies = s.replies := by
  unfold State.setFlow; split_ifs; · rfl
  · split <;> rfl
@[simp] theorem setFlow_outFrame (k : AreaId) (v : FlowState) : (s.setFlow k v).outFrame = s.outFrame := by
  unfold State.setFlow; split_ifs; · rfl
  · split <;> rfl
@[simp] theorem setFlow_lastLine (k : AreaId) (v : FlowState) : (s.setFlow k v).lastLine = s.lastLine := by
  unfold State.setFlow; split_ifs; · rfl
  · split <;> rfl
@[simp] theorem setFlow_lastSource (k : AreaId) (v : FlowState) : (s.setFlow k v).lastSource = s.lastSource := by
  unfold State.setFlow; split_ifs; · rfl
  · split <;> rfl
@[simp] theorem setFlow_partQueue (k : AreaId) (v : FlowState) : (s.setFlow k v).partQueue = s.partQueue := by
  unfold State.setFlow; split_ifs; · rfl
  · split <;> rfl
@[simp] theorem setFlow_pending (k : AreaId) (v : FlowState) : (s.setFlow k v).pending = s.pending := by
  unfold State.setFlow; split_ifs; · rfl
  · split <;> rfl

/-- A flow state is all that a flow change moves among the areas (R67). -/
theorem setFlow_area (k b : AreaId) (f : FlowState) :
    (s.setFlow k f).area b = if b = k then { s.area k with flow := f } else s.area b := by
  unfold State.setFlow
  by_cases h : (s.area k).flow = f
  · simp [h]; intro hb; subst hb; rw [← h]
  · simp only [h, if_false]
    by_cases hb : b = k
    · subst hb; split <;> simp
    · split <;> simp [hb]

end Sys2Proof.Machine
end

