-- ==== Sys2Proof/Laws/Memory.lean ====
section
/-! SUPPORT. The DRAM: every operation on it keeps its canonical form, and nothing but a write to an entry changes it. -/

namespace Sys2Proof.Machine

theorem dramWfFrom_mono {lo lo' : Nat} (h : lo' ≤ lo) :
    ∀ {m : List Host.Cell}, dramWfFrom lo m = true → dramWfFrom lo' m = true
  | [], _ => rfl
  | (a, b) :: t, hm => by
    simp only [dramWfFrom, Bool.and_eq_true, decide_eq_true_eq] at hm ⊢
    exact ⟨⟨by omega, hm.1.2⟩, hm.2⟩

/-- A write keeps the form from any bound at or below its address. -/
theorem dramWfFrom_write {lo x : Nat} (v : Byte) (hx : lo ≤ x) :
    ∀ {m : List Host.Cell}, dramWfFrom lo m = true → dramWfFrom lo (dramWrite m x v) = true := by
  intro m
  induction m generalizing lo with
  | nil => intro _; unfold dramWrite; split <;> simp_all [dramWfFrom]
  | cons c t ih =>
    obtain ⟨a, b⟩ := c
    intro hm
    simp only [dramWfFrom, Bool.and_eq_true, decide_eq_true_eq] at hm
    unfold dramWrite
    split
    · split
      · simp [dramWfFrom, hm]
      · simp only [dramWfFrom, Bool.and_eq_true, decide_eq_true_eq]
        exact ⟨⟨hx, by assumption⟩, ⟨by omega, hm.1.2⟩, hm.2⟩
    · split
      · rename_i h2; subst h2
        split
        · exact dramWfFrom_mono (by omega) hm.2
        · simp only [dramWfFrom, Bool.and_eq_true, decide_eq_true_eq]
          exact ⟨⟨hx, by assumption⟩, hm.2⟩
      · simp only [dramWfFrom, Bool.and_eq_true, decide_eq_true_eq]
        exact ⟨hm.1, ih (by omega) hm.2⟩

/-- A write keeps the canonical form. -/
theorem dramWf_write {m : List Host.Cell} (x : Nat) (v : Byte) (h : dramWf m = true) : dramWf (dramWrite m x v) = true :=
  dramWfFrom_write v (Nat.zero_le x) h

/-- A run of writes keeps the canonical form. -/
theorem dramWf_writeAll (addr : Nat → Nat) :
    ∀ (bs : List Byte) (o : Nat) {m : List Host.Cell}, dramWf m = true → dramWf (dramWriteAll addr o bs m) = true
  | [], _, _, h => h
  | b :: t, o, _, h => dramWf_writeAll addr t (o + 1) (dramWf_write (addr o) b h)

/-- A write to an entry keeps the canonical form. -/
theorem dramWf_storeBytes {s : State} (id : Nat) (bs : List Byte) (h : dramWf s.dram = true) :
    dramWf (s.storeBytes id bs).dram = true := by
  unfold State.storeBytes
  split
  · exact h
  · exact dramWf_writeAll _ _ _ h

/-! ## What the other operations of the store leave: the DRAM is not touched -/

variable (s : State) (id n : Nat)

@[simp] theorem allocate_dram : (s.allocate id n).dram = s.dram := by
  unfold State.allocate; split <;> rfl

/-- The Buffer Unit holds no part of the DRAM and no part of the store record: an area emptied leaves both. -/
@[simp] theorem emptyArea_dram (k : AreaId) : (s.emptyArea k).dram = s.dram := by simp [State.emptyArea]

@[simp] theorem emptyArea_store (k : AreaId) : (s.emptyArea k).store = s.store := by simp [State.emptyArea]

@[simp] theorem emptyStage_dram (i : LineId) : (s.emptyStage i).dram = s.dram := by
  unfold State.emptyStage; split <;> simp

@[simp] theorem emptyStage_store (i : LineId) : (s.emptyStage i).store = s.store := by
  unfold State.emptyStage; split <;> simp

/-- A refusal touches the line only. -/
@[simp] theorem refuseBlock_dram (i : LineId) (k : RequestKind) : (s.refuseBlock i k).dram = s.dram := by
  cases k <;> simp [State.refuseBlock]

@[simp] theorem refuseBlock_store (i : LineId) (k : RequestKind) : (s.refuseBlock i k).store = s.store := by
  cases k <;> simp [State.refuseBlock]

/-- A block request answered writes no byte. -/
@[simp] theorem serveRequest_dram : s.serveRequest.dram = s.dram := by
  unfold State.serveRequest; split
  · rfl
  · dsimp only; split <;> simp

theorem serveMany_dram : ∀ (n : Nat) (s : State), (serveMany n s).dram = s.dram
  | 0, _ => rfl
  | n + 1, s => (serveMany_dram n s.serveRequest).trans (serveRequest_dram s)

@[simp] theorem serveAll_dram : s.serveAll.dram = s.dram := serveMany_dram _ s

/-- With no block request waiting a freeing is taken as it comes. -/
theorem serveAll_none (h : s.store.requests = []) : s.serveAll = s := by simp [State.serveAll, h, serveMany]

@[simp] theorem unlinkTail_dram : (s.unlinkTail id n).dram = s.dram := by unfold State.unlinkTail; split <;> rfl

@[simp] theorem freeTail_dram : (s.freeTail id n).dram = s.dram := by simp [State.freeTail]

@[simp] theorem trimEntry_dram : (s.trimEntry id n).dram = s.dram := by simp [State.trimEntry]

@[simp] theorem deleteEntry_dram : (s.deleteEntry id).dram = s.dram := by simp [State.deleteEntry]

@[simp] theorem finishEntry_dram (why : EntryEnd) : (s.finishEntry id why).dram = s.dram := by
  unfold State.finishEntry
  split
  · rfl
  · simp

@[simp] theorem closeEntry_dram (why : EntryEnd) : (s.closeEntry id why).dram = s.dram := by
  unfold State.closeEntry
  split
  · rfl
  · split <;> simp

/-- The entry with the id, after an update of that entry. -/
theorem entry_modEntry_same (f : Entry → Entry) (hf : ∀ e, (f e).id = e.id) :
    (s.modEntry id f).entry? id = (s.entry? id).map f := by
  unfold State.modEntry State.entry?
  dsimp only
  induction s.store.dir with
  | nil => rfl
  | cons e t ih =>
    simp only [List.map_cons, List.find?_cons]
    by_cases h : e.id = id
    · simp [h, hf]
    · have hb : (e.id == id) = false := by simpa using h
      simp [h, hb, ih]

/-- The other entries, after an update of one. -/
theorem entry_modEntry_ne (f : Entry → Entry) {j : Nat} (h : j ≠ id) (hf : ∀ e, (f e).id = e.id) :
    (s.modEntry id f).entry? j = s.entry? j := by
  unfold State.modEntry State.entry?
  dsimp only
  induction s.store.dir with
  | nil => rfl
  | cons e t ih =>
    simp only [List.map_cons, List.find?_cons]
    by_cases he : e.id = id
    · have hj : (id == j) = false := by simp; omega
      simp [he, hf, ih, hj]
    · simp [he, ih]

end Sys2Proof.Machine
end

