-- ==== Sys2Proof/Laws/Chains.lean ====
section
/-! SUPPORT. The chains of the store: every operation on entries keeps the ids distinct and every message block on
exactly one chain (R143, R145). -/

namespace Sys2Proof.Machine

/-- The blocks of the chains of a list of entries. -/
theorem flatMap_chain_congr {f : Entry → Entry} (h : ∀ e, (f e).chain = e.chain) :
    ∀ l : List Entry, (l.map f).flatMap Entry.chain = l.flatMap Entry.chain
  | [] => rfl
  | e :: t => by simp [h, flatMap_chain_congr h t]

/-- A change of one entry by id, where ids are distinct: what its chain gains or gives up is all that the chains together
gain or give up. -/
theorem flatMap_chain_mod {id : Nat} {f : Entry → Entry} {xs ys : List Nat} :
    ∀ {l : List Entry} {e : Entry}, (l.map Entry.id).Nodup → l.find? (fun e => e.id == id) = some e →
      ((f e).chain ++ xs).Perm (e.chain ++ ys) →
      ((l.map (fun e => if e.id = id then f e else e)).flatMap Entry.chain ++ xs).Perm
        (l.flatMap Entry.chain ++ ys)
  | [], _, _, h, _ => by simp at h
  | a :: t, e, hn, hf, hp => by
    simp only [List.map_cons, List.nodup_cons] at hn
    simp only [List.find?_cons] at hf
    by_cases ha : a.id = id
    · have hae : a = e := by simpa [ha] using hf
      subst hae
      have ht : t.map (fun e => if e.id = id then f e else e) = t := by
        conv_rhs => rw [← List.map_id t]
        refine List.map_congr_left fun b hb => ?_
        have : b.id ≠ id := fun hb' => hn.1 (by rw [ha, ← hb']; exact List.mem_map_of_mem hb)
        simp [this]
      simp only [List.map_cons, ha, if_true, ht, List.flatMap_cons]
      calc ((f a).chain ++ t.flatMap Entry.chain ++ xs).Perm ((f a).chain ++ xs ++ t.flatMap Entry.chain) := by
            simp only [List.append_assoc]; exact List.Perm.append_left _ List.perm_append_comm
        _ |>.Perm (a.chain ++ ys ++ t.flatMap Entry.chain) := List.Perm.append_right _ hp
        _ |>.Perm (a.chain ++ t.flatMap Entry.chain ++ ys) := by
            simp only [List.append_assoc]; exact List.Perm.append_left _ List.perm_append_comm
    · have hf' : t.find? (fun e => e.id == id) = some e := by
        have hb : (a.id == id) = false := by simpa using ha
        simpa [hb] using hf
      have ih := flatMap_chain_mod (f := f) (xs := xs) (ys := ys) hn.2 hf' hp
      simp only [List.map_cons, ha, if_false, List.flatMap_cons, List.append_assoc]
      exact List.Perm.append_left _ ih

/-! ## The store as a whole -/

/-- An update that keeps every id and every chain keeps the store whole. -/
theorem whole_map {st st' : Store} {f : Entry → Entry} (hi : ∀ e, (f e).id = e.id) (hc : ∀ e, (f e).chain = e.chain)
    (hd : st'.dir = st.dir.map f) (hf : st'.free = st.free) (hs : st'.size = st.size)
    (hfm : st'.formatted = st.formatted) (h : st.whole) : st'.whole := by
  intro hft
  obtain ⟨hn, hp⟩ := h (hfm ▸ hft)
  have hm : st'.m = st.m := by simp only [Store.m, hs]
  rw [hd, hf, hm, flatMap_chain_congr hc, List.map_map, show Entry.id ∘ f = Entry.id from funext hi]
  exact ⟨hn, hp⟩

/-- A store that differs in neither blocks nor entries is whole as before. -/
theorem whole_same {st st' : Store} (hd : st'.dir = st.dir) (hf : st'.free = st.free) (hs : st'.size = st.size)
    (hfm : st'.formatted = st.formatted) (h : st.whole) : st'.whole :=
  whole_map (f := id) (fun _ => rfl) (fun _ => rfl) (by simp [hd]) hf hs hfm h

theorem modEntry_whole {s : State} {n : Nat} {f : Entry → Entry} (hi : ∀ e, (f e).id = e.id)
    (hc : ∀ e, (f e).chain = e.chain) (h : s.store.whole) : (s.modEntry n f).store.whole := by
  refine whole_map (f := fun e => if e.id = n then f e else e) (fun e => ?_) (fun e => ?_) rfl rfl rfl rfl h
  · split
    · exact hi e
    · rfl
  · split
    · exact hc e
    · rfl

/-- A change of one entry's chain with the blocks it gains or gives up taken from or put on the free chain. -/
theorem whole_mod {st st' : Store} {id : Nat} {f : Entry → Entry} {e : Entry} (hi : ∀ e, (f e).id = e.id)
    (hf : st.dir.find? (fun e => e.id == id) = some e) (hd : st'.dir = st.dir.map (fun e => if e.id = id then f e else e))
    (hs : st'.size = st.size) (hfm : st'.formatted = st.formatted)
    (hp : ((f e).chain ++ st'.free).Perm (e.chain ++ st.free)) (h : st.whole) : st'.whole := by
  intro hft
  obtain ⟨hn, hw⟩ := h (hfm ▸ hft)
  have hm : st'.m = st.m := by simp only [Store.m, hs]
  have hid : (fun e => if e.id = id then f e else e : Entry → Entry) = fun e => if e.id = id then f e else e := rfl
  refine ⟨?_, ?_⟩
  · rw [hd, List.map_map]
    have : (Entry.id ∘ fun e => if e.id = id then f e else e) = Entry.id := by
      funext a; dsimp only [Function.comp]; split
      · exact hi a
      · rfl
    rw [this]; exact hn
  · rw [hm, hd]
    have := flatMap_chain_mod hn hf hp
    exact (List.perm_append_comm.trans this).trans (List.perm_append_comm.trans hw)

theorem allocate_whole {s : State} (id n : Nat) (h : s.store.whole) : (s.allocate id n).store.whole := by
  unfold State.allocate
  split
  · exact h
  · rename_i e he
    refine whole_mod (st := s.store) (id := id) (e := e) (f := fun e => { e with chain := e.chain ++ s.store.free.take n })
      (fun _ => rfl) he rfl rfl rfl ?_ h
    simp only [List.append_assoc, List.take_append_drop]
    exact List.Perm.refl _

theorem unlinkTail_whole {s : State} (id keep : Nat) (h : s.store.whole) :
    (s.unlinkTail id keep).store.whole := by
  unfold State.unlinkTail
  split
  · exact h
  · rename_i e he
    refine whole_mod (st := s.store) (id := id) (e := e) (f := fun e => { e with chain := e.chain.take keep })
      (fun _ => rfl) he rfl rfl rfl ?_ h
    calc (e.chain.take keep ++ (s.store.free ++ e.chain.drop keep)).Perm
          (e.chain.take keep ++ (e.chain.drop keep ++ s.store.free)) := List.Perm.append_left _ List.perm_append_comm
      _ |>.Perm (e.chain ++ s.store.free) := by rw [← List.append_assoc, List.take_append_drop]

/-- A block request answered keeps the store whole. -/
theorem serveRequest_whole {s : State} (h : s.store.whole) : s.serveRequest.store.whole := by
  unfold State.serveRequest
  split
  · exact h
  · have hr : ∀ rest, ({ s.store with requests := rest } : Store).whole := fun rest =>
      whole_same rfl rfl rfl rfl h
    dsimp only
    split
    · exact allocate_whole _ _ (hr _)
    · exact allocate_whole _ _ (hr _)
    · rw [refuseBlock_store]; exact hr _
    · exact hr _

theorem serveMany_whole : ∀ (n : Nat) {s : State}, s.store.whole → (serveMany n s).store.whole
  | 0, _, h => h
  | n + 1, _, h => serveMany_whole n (serveRequest_whole h)

theorem serveAll_whole {s : State} (h : s.store.whole) : s.serveAll.store.whole := serveMany_whole _ h

theorem freeTail_whole {s : State} (id keep : Nat) (h : s.store.whole) : (s.freeTail id keep).store.whole :=
  unlinkTail_whole _ _ (serveAll_whole h)

theorem trimEntry_whole {s : State} (id n : Nat) (h : s.store.whole) : (s.trimEntry id n).store.whole :=
  freeTail_whole _ _ (modEntry_whole (fun _ => rfl) (fun _ => rfl) h)

/-- An entry whose chain is empty leaves the directory. -/
theorem filter_chains {id : Nat} :
    ∀ {l : List Entry}, (∀ e ∈ l, e.id = id → e.chain = []) →
      (l.filter (fun e => e.id != id)).flatMap Entry.chain = l.flatMap Entry.chain
  | [], _ => rfl
  | a :: t, h => by
    have ih := filter_chains (l := t) (fun e he => h e (List.mem_cons_of_mem _ he))
    by_cases ha : a.id = id
    · have hb : (a.id != id) = false := by simpa using ha
      simp [hb, ih, h a List.mem_cons_self ha]
    · have hb : (a.id != id) = true := by simpa using ha
      simp [hb, ih]

theorem freeTail_zero_empty {s : State} {id : Nat} : ∀ e ∈ (s.freeTail id 0).store.dir, e.id = id → e.chain = [] := by
  unfold State.freeTail State.unlinkTail
  intro e he hid
  split at he
  · rename_i hn
    have := List.find?_eq_none.mp hn e he
    simp [hid] at this
  · simp only [State.modEntry, List.mem_map] at he
    obtain ⟨a, _, ha⟩ := he
    split at ha
    · subst ha; simp
    · subst ha; contradiction

theorem deleteEntry_whole {s : State} (id : Nat) (h : s.store.whole) : (s.deleteEntry id).store.whole := by
  intro hft
  obtain ⟨hn, hp⟩ := freeTail_whole id 0 h hft
  refine ⟨?_, ?_⟩
  · exact (List.Sublist.map _ List.filter_sublist).nodup hn
  · show ((s.freeTail id 0).store.free ++
      ((s.freeTail id 0).store.dir.filter (fun e => e.id != id)).flatMap Entry.chain).Perm _
    rw [filter_chains freeTail_zero_empty]
    exact hp

theorem finishEntry_whole {s : State} (id : Nat) (why : EntryEnd) (h : s.store.whole) :
    (s.finishEntry id why).store.whole := by
  unfold State.finishEntry
  split
  · exact h
  · exact modEntry_whole (fun _ => rfl) (fun _ => rfl) (trimEntry_whole id _ h)

theorem closeEntry_whole {s : State} (id : Nat) (why : EntryEnd) (h : s.store.whole) :
    (s.closeEntry id why).store.whole := by
  unfold State.closeEntry
  split
  · exact h
  · split
    · exact deleteEntry_whole id h
    · exact finishEntry_whole id why h

/-! ## A new entry (R145) -/

/-- The id `k` places after `n` in the order of R145. -/
def idAhead (n k : Nat) : Nat :=
  if n ≤ 65535 then (if n + k ≤ 65535 then n + k else n + k - 65535) else n + k

theorem idAhead_succ {n k : Nat} (hk : k < 65535) : idAhead (idAfter n) k = idAhead n (k + 1) := by
  unfold idAhead idAfter
  split_ifs <;> omega

theorem idAhead_inj {n j k : Nat} (hj : j < 65535) (hk : k < 65535) (h : idAhead n j = idAhead n k) : j = k := by
  unfold idAhead at h
  split_ifs at h <;> omega

/-- Where the search for a free id ends on an id in use, every id it looked at is in use. -/
theorem freeId_mem {ids : List Nat} :
    ∀ {fuel n : Nat}, fuel < 65535 → freeId ids fuel n ∈ ids → ∀ k, k < fuel → idAhead n k ∈ ids
  | 0, _, _, _, _, hk => absurd hk (Nat.not_lt_zero _)
  | fuel + 1, n, hf, h, k, hk => by
    rw [freeId] at h
    by_cases hc : ids.contains n = true
    · rw [if_pos hc] at h
      cases k with
      | zero =>
        have : idAhead n 0 = n := by unfold idAhead; split_ifs <;> omega
        rw [this]; simpa using hc
      | succ j =>
        rw [← idAhead_succ (by omega)]
        exact freeId_mem (by omega) h j (by omega)
    · rw [if_neg hc] at h
      exact absurd (by simpa using h) hc

/-- The search finds a free id where fewer ids are in use than it looks at. -/
theorem freeId_notMem {ids : List Nat} {fuel n : Nat} (hf : fuel < 65535) (hl : ids.length < fuel) :
    freeId ids fuel n ∉ ids := by
  intro h
  have hn : ((List.range fuel).map (idAhead n)).Nodup :=
    List.Nodup.map_on (fun j hj k hk he => idAhead_inj (by have := List.mem_range.mp hj; omega)
      (by have := List.mem_range.mp hk; omega) he) List.nodup_range
  have hs : (List.range fuel).map (idAhead n) ⊆ ids := fun x hx => by
    obtain ⟨k, hk, rfl⟩ := List.mem_map.mp hx
    exact freeId_mem hf h k (List.mem_range.mp hk)
  have := (hn.subperm hs).length_le
  simp only [List.length_map, List.length_range] at this
  omega

/-- Opening an entry keeps the store whole: its id is new and its chain is empty. -/
theorem openEntry_whole {s t : State} {kind : MsgKind} {mailbox id : Nat} {o : Option LineId} {cid : Option CidRecord}
    {bits : Option Nat} (h : s.store.whole) (ho : s.openEntry kind mailbox o cid bits = .ok (id, t)) : t.store.whole := by
  unfold State.openEntry at ho
  split at ho
  · cases ho
  · split at ho
    · cases ho
    · split at ho
      · cases ho
      · rename_i hd _
        simp only [Except.ok.injEq, Prod.mk.injEq] at ho
        obtain ⟨-, rfl⟩ := ho
        intro hft
        obtain ⟨hn, hp⟩ := h hft
        have hl : (s.store.dir.map Entry.id).length < 257 := by
          simp only [List.length_map]; unfold Config.directoryMax at hd; omega
        refine ⟨?_, ?_⟩
        · simp only [List.map_append, List.map_cons, List.map_nil]
          rw [List.nodup_append]
          refine ⟨hn, by simp, ?_⟩
          intro a ha b hb
          simp only [List.mem_singleton] at hb
          subst hb
          exact fun hab => freeId_notMem (by omega) hl (hab ▸ ha)
        · simpa [Store.m] using hp

end Sys2Proof.Machine
end

