-- ==== Sys2Proof/Laws/Directives.lean ====
section
/-! SUPPORT. What a directive comes to when the Decoder deals with it at once, and what the readers of its arguments
and line value give. -/

namespace Sys2Proof.Machine

theorem takes_decoder {s : State} (h : s.takes) : s.decoder = {} := h.1

/-- The state a directive is dealt with in: it is in hand. -/
def State.inHand (s : State) (code : Byte) (d : Directive) : State := { s with decoder.hand := some ⟨code, d⟩ }

/-- A directive dealt with at once: its block acts, its reply joins the list, and the next is taken into hand. -/
theorem directive_taken {s : State} (h : s.takes) (code : Byte) (d : Directive) (run : Directive → State → Answer) :
    s.directive code d run =
      (let a := run d (s.inHand code d)
       let s1 := a.state.reply ⟨code, d.tag, a.status, a.results⟩
       { s1 with decoder := { s1.decoder with resetting := s1.decoder.resetting || resets code a.status }.next }) := by
  have hr : (s.inHand code d).replyRoom = true := h.2
  unfold State.directive
  rw [if_neg (by simp [h.1]), if_pos (by simp [h.1, Decoder.idle])]
  unfold State.deal
  exact if_pos hr

theorem lineOf_byte (i : LineId) : lineOf? (byte i.val) = some i := by
  revert i; decide

/-- A directive on one line whose arguments read to their end. -/
theorem onLine_good {α : Type} {p : Arg α} {f : LineId → Option α → State → Answer} {d : Directive} {s : State}
    {i : LineId} {v : α} (hl : lineOf? d.line = some i) (hv : p.read d.args = .good v) :
    onLine p f d s = f i (some v) s := by
  simp [onLine, hl, hv]

/-- A directive with line value 0x0E whose arguments read to their end. -/
theorem onPart_good {α : Type} {p : Arg α} {f : Option α → State → Answer} {d : Directive} {s : State}
    {v : α} (hl : d.line = 0x0E) (hv : p.read d.args = .good v) : onPart p f d s = f (some v) s := by
  simp [onPart, hl, hv]

/-- A directive without arguments reads to its end where none are sent. -/
theorem read_none {v : Unit} : (Arg.pure v).read [] = .good v := rfl

end Sys2Proof.Machine
end

