-- ==== Sys2Proof/Laws/Exec.lean ====
section
/-! SUPPORT. Each command's meaning, by name: what `exec` is on each constructor, true by unfolding. -/

namespace Sys2Proof.Machine

variable (s : State)

@[simp] theorem exec_powerOn : exec .powerOn s = execPowerOn s := rfl
@[simp] theorem exec_partReset (d : Directive) : exec (.partReset d) s = execPartReset d s := rfl
@[simp] theorem exec_lineBreak : exec .lineBreak s = execLineBreak s := rfl
@[simp] theorem exec_breakEnd : exec .breakEnd s = execBreakEnd s := rfl
@[simp] theorem exec_hostDirectiveFrame (payload : List Byte) :
    exec (.hostDirectiveFrame payload) s = execHostDirectiveFrame payload s := rfl
@[simp] theorem exec_hostLineDataFrame (i : LineId) (k : DataKind) (payload : List Byte) :
    exec (.hostLineDataFrame i k payload) s = execHostLineDataFrame i k payload s := rfl
@[simp] theorem exec_hostPageEndFrame (i : LineId) (payload : List Byte) :
    exec (.hostPageEndFrame i payload) s = execHostPageEndFrame i payload s := rfl
@[simp] theorem exec_hostStoreDataFrame (payload : List Byte) :
    exec (.hostStoreDataFrame payload) s = execHostStoreDataFrame payload s := rfl
@[simp] theorem exec_hostStoreEndFrame (payload : List Byte) :
    exec (.hostStoreEndFrame payload) s = execHostStoreEndFrame payload s := rfl
@[simp] theorem exec_hostFrameBad (wire : List RxByte) : exec (.hostFrameBad wire) s = execHostFrameBad wire s := rfl
@[simp] theorem exec_interByteGapExpiry : exec .interByteGapExpiry s = execInterByteGapExpiry s := rfl
@[simp] theorem exec_unknownDirective (code : Byte) (d : Directive) :
    exec (.unknownDirective code d) s = execUnknownDirective code d s := rfl
@[simp] theorem exec_outboundFrameChoice : exec .outboundFrameChoice s = execOutboundFrameChoice s := rfl
@[simp] theorem exec_outboundFrameSent : exec .outboundFrameSent s = execOutboundFrameSent s := rfl
@[simp] theorem exec_lineEnable (d : Directive) : exec (.lineEnable d) s = execLineEnable d s := rfl
@[simp] theorem exec_lineDisable (d : Directive) : exec (.lineDisable d) s = execLineDisable d s := rfl
@[simp] theorem exec_lineReset (d : Directive) : exec (.lineReset d) s = execLineReset d s := rfl
@[simp] theorem exec_setProfile (d : Directive) : exec (.setProfile d) s = execSetProfile d s := rfl
@[simp] theorem exec_loadRingPatterns (d : Directive) : exec (.loadRingPatterns d) s = execLoadRingPatterns d s := rfl
@[simp] theorem exec_dial (d : Directive) : exec (.dial d) s = execDial d s := rfl
@[simp] theorem exec_hangUp (d : Directive) : exec (.hangUp d) s = execHangUp d s := rfl
@[simp] theorem exec_loopbackEnter (d : Directive) : exec (.loopbackEnter d) s = execLoopbackEnter d s := rfl
@[simp] theorem exec_loopbackLeave (d : Directive) : exec (.loopbackLeave d) s = execLoopbackLeave d s := rfl
@[simp] theorem exec_loopSignals (d : Directive) : exec (.loopSignals d) s = execLoopSignals d s := rfl
@[simp] theorem exec_loadTones (d : Directive) : exec (.loadTones d) s = execLoadTones d s := rfl
@[simp] theorem exec_sendDigits (d : Directive) : exec (.sendDigits d) s = execSendDigits d s := rfl
@[simp] theorem exec_routePut (d : Directive) : exec (.routePut d) s = execRoutePut d s := rfl
@[simp] theorem exec_routeDrop (d : Directive) : exec (.routeDrop d) s = execRouteDrop d s := rfl
@[simp] theorem exec_routeClear (d : Directive) : exec (.routeClear d) s = execRouteClear d s := rfl
@[simp] theorem exec_routeRead (d : Directive) : exec (.routeRead d) s = execRouteRead d s := rfl
@[simp] theorem exec_routeTest (d : Directive) : exec (.routeTest d) s = execRouteTest d s := rfl
@[simp] theorem exec_answer (d : Directive) : exec (.answer d) s = execAnswer d s := rfl
@[simp] theorem exec_reject (d : Directive) : exec (.reject d) s = execReject d s := rfl
@[simp] theorem exec_setClock (d : Directive) : exec (.setClock d) s = execSetClock d s := rfl
@[simp] theorem exec_areaDefine (d : Directive) : exec (.areaDefine d) s = execAreaDefine d s := rfl
@[simp] theorem exec_areaJoin (d : Directive) : exec (.areaJoin d) s = execAreaJoin d s := rfl
@[simp] theorem exec_areaUnjoin (d : Directive) : exec (.areaUnjoin d) s = execAreaUnjoin d s := rfl
@[simp] theorem exec_areaFlush (d : Directive) : exec (.areaFlush d) s = execAreaFlush d s := rfl
@[simp] theorem exec_areaRead (d : Directive) : exec (.areaRead d) s = execAreaRead d s := rfl
@[simp] theorem exec_loadLadder (d : Directive) : exec (.loadLadder d) s = execLoadLadder d s := rfl
@[simp] theorem exec_rateRequestTrial (d : Directive) : exec (.rateRequestTrial d) s = execRateRequestTrial d s := rfl
@[simp] theorem exec_rateRequest (d : Directive) : exec (.rateRequest d) s = execRateRequest d s := rfl
@[simp] theorem exec_qualityRead (d : Directive) : exec (.qualityRead d) s = execQualityRead d s := rfl
@[simp] theorem exec_faxDocument (d : Directive) : exec (.faxDocument d) s = execFaxDocument d s := rfl
@[simp] theorem exec_storeFormat (d : Directive) : exec (.storeFormat d) s = execStoreFormat d s := rfl
@[simp] theorem exec_storeStatus (d : Directive) : exec (.storeStatus d) s = execStoreStatus d s := rfl
@[simp] theorem exec_msgList (d : Directive) : exec (.msgList d) s = execMsgList d s := rfl
@[simp] theorem exec_msgInfo (d : Directive) : exec (.msgInfo d) s = execMsgInfo d s := rfl
@[simp] theorem exec_msgMark (d : Directive) : exec (.msgMark d) s = execMsgMark d s := rfl
@[simp] theorem exec_msgDelete (d : Directive) : exec (.msgDelete d) s = execMsgDelete d s := rfl
@[simp] theorem exec_msgUpload (d : Directive) : exec (.msgUpload d) s = execMsgUpload d s := rfl
@[simp] theorem exec_msgDownload (d : Directive) : exec (.msgDownload d) s = execMsgDownload d s := rfl
@[simp] theorem exec_transferStop (d : Directive) : exec (.transferStop d) s = execTransferStop d s := rfl
@[simp] theorem exec_record (d : Directive) : exec (.record d) s = execRecord d s := rfl
@[simp] theorem exec_play (d : Directive) : exec (.play d) s = execPlay d s := rfl
@[simp] theorem exec_voiceStop (d : Directive) : exec (.voiceStop d) s = execVoiceStop d s := rfl
@[simp] theorem exec_lineStatus (d : Directive) : exec (.lineStatus d) s = execLineStatus d s := rfl
@[simp] theorem exec_ringInputChange (i : LineId) (active : Bool) :
    exec (.ringInputChange i active) s = execRingInputChange i active s := rfl
@[simp] theorem exec_ringQualified (i : LineId) : exec (.ringQualified i) s = execRingQualified i s := rfl
@[simp] theorem exec_burstTrailingEdge (i : LineId) : exec (.burstTrailingEdge i) s = execBurstTrailingEdge i s := rfl
@[simp] theorem exec_ringGapExpiry (i : LineId) : exec (.ringGapExpiry i) s = execRingGapExpiry i s := rfl
@[simp] theorem exec_ringAbandonExpiry (i : LineId) : exec (.ringAbandonExpiry i) s = execRingAbandonExpiry i s := rfl
@[simp] theorem exec_loopInputChange (i : LineId) (present : Bool) :
    exec (.loopInputChange i present) s = execLoopInputChange i present s := rfl
@[simp] theorem exec_loopDrop (i : LineId) : exec (.loopDrop i) s = execLoopDrop i s := rfl
@[simp] theorem exec_releaseGuardExpiry (i : LineId) :
    exec (.releaseGuardExpiry i) s = execReleaseGuardExpiry i s := rfl
@[simp] theorem exec_dialToneWaitExpiry (i : LineId) :
    exec (.dialToneWaitExpiry i) s = execDialToneWaitExpiry i s := rfl
@[simp] theorem exec_awaitToneExpiry (i : LineId) : exec (.awaitToneExpiry i) s = execAwaitToneExpiry i s := rfl
@[simp] theorem exec_dtmfDigitOnEnd (i : LineId) : exec (.dtmfDigitOnEnd i) s = execDtmfDigitOnEnd i s := rfl
@[simp] theorem exec_dtmfDigitOffEnd (i : LineId) : exec (.dtmfDigitOffEnd i) s = execDtmfDigitOffEnd i s := rfl
@[simp] theorem exec_pulseBreakEnd (i : LineId) : exec (.pulseBreakEnd i) s = execPulseBreakEnd i s := rfl
@[simp] theorem exec_pulseMakeEnd (i : LineId) : exec (.pulseMakeEnd i) s = execPulseMakeEnd i s := rfl
@[simp] theorem exec_pulseInterdigitEnd (i : LineId) :
    exec (.pulseInterdigitEnd i) s = execPulseInterdigitEnd i s := rfl
@[simp] theorem exec_dialPauseEnd (i : LineId) : exec (.dialPauseEnd i) s = execDialPauseEnd i s := rfl
@[simp] theorem exec_flashEnd (i : LineId) : exec (.flashEnd i) s = execFlashEnd i s := rfl
@[simp] theorem exec_answerWaitExpiry (i : LineId) : exec (.answerWaitExpiry i) s = execAnswerWaitExpiry i s := rfl
@[simp] theorem exec_toneDetectorChange (i : LineId) (id : Nat) (heard : List HeardTone) (already : Bool) :
    exec (.toneDetectorChange i id heard already) s = execToneDetectorChange i id heard already s := rfl
@[simp] theorem exec_cadencePeriodExpiry (i : LineId) (id : Nat) :
    exec (.cadencePeriodExpiry i id) s = execCadencePeriodExpiry i id s := rfl
@[simp] theorem exec_continuousToneConfirm (i : LineId) (id : Nat) :
    exec (.continuousToneConfirm i id) s = execContinuousToneConfirm i id s := rfl
@[simp] theorem exec_generatedToneEnd (i : LineId) : exec (.generatedToneEnd i) s = execGeneratedToneEnd i s := rfl
@[simp] theorem exec_powerFrameEnd (i : LineId) (power : Int) :
    exec (.powerFrameEnd i power) s = execPowerFrameEnd i power s := rfl
@[simp] theorem exec_dtmfPairChange (i : LineId) (heard : List HeardTone) :
    exec (.dtmfPairChange i heard) s = execDtmfPairChange i heard s := rfl
@[simp] theorem exec_dtmfPresenceExpiry (i : LineId) :
    exec (.dtmfPresenceExpiry i) s = execDtmfPresenceExpiry i s := rfl
@[simp] theorem exec_dtmfAbsenceExpiry (i : LineId) : exec (.dtmfAbsenceExpiry i) s = execDtmfAbsenceExpiry i s := rfl
@[simp] theorem exec_cidMessageEnd (i : LineId) (heard : List HeardTone) :
    exec (.cidMessageEnd i heard) s = execCidMessageEnd i heard s := rfl
@[simp] theorem exec_cidWaitExpiry (i : LineId) : exec (.cidWaitExpiry i) s = execCidWaitExpiry i s := rfl
@[simp] theorem exec_classifyTimeExpiry (i : LineId) :
    exec (.classifyTimeExpiry i) s = execClassifyTimeExpiry i s := rfl
@[simp] theorem exec_answerDropExpiry (i : LineId) : exec (.answerDropExpiry i) s = execAnswerDropExpiry i s := rfl
@[simp] theorem exec_clockMinuteAdvance : exec .clockMinuteAdvance s = execClockMinuteAdvance s := rfl
@[simp] theorem exec_measurementRecord (i : LineId) (r : MeasRecord) :
    exec (.measurementRecord i r) s = execMeasurementRecord i r s := rfl
@[simp] theorem exec_trainingRecord (i : LineId) (r : MeasRecord) :
    exec (.trainingRecord i r) s = execTrainingRecord i r s := rfl
@[simp] theorem exec_trainingOutcome (i : LineId) (locked : Bool) :
    exec (.trainingOutcome i locked) s = execTrainingOutcome i locked s := rfl
@[simp] theorem exec_rateOkWaitExpiry (i : LineId) : exec (.rateOkWaitExpiry i) s = execRateOkWaitExpiry i s := rfl
@[simp] theorem exec_linkRateReceived (i : LineId) (step : Nat) :
    exec (.linkRateReceived i step) s = execLinkRateReceived i step s := rfl
@[simp] theorem exec_linkRateOkReceived (i : LineId) (step : Nat) :
    exec (.linkRateOkReceived i step) s = execLinkRateOkReceived i step s := rfl
@[simp] theorem exec_carrierChange (i : LineId) (on : Bool) :
    exec (.carrierChange i on) s = execCarrierChange i on s := rfl
@[simp] theorem exec_carrierLossExpiry (i : LineId) : exec (.carrierLossExpiry i) s = execCarrierLossExpiry i s := rfl
@[simp] theorem exec_frameCheckFail (i : LineId) : exec (.frameCheckFail i) s = execFrameCheckFail i s := rfl
@[simp] theorem exec_capsReceived (i : LineId) (c : Capability) :
    exec (.capsReceived i c) s = execCapsReceived i c s := rfl
@[simp] theorem exec_capsRepeatExpiry (i : LineId) : exec (.capsRepeatExpiry i) s = execCapsRepeatExpiry i s := rfl
@[simp] theorem exec_exchangeTimerExpiry (i : LineId) :
    exec (.exchangeTimerExpiry i) s = execExchangeTimerExpiry i s := rfl
@[simp] theorem exec_dataAnswerToneEnd (i : LineId) : exec (.dataAnswerToneEnd i) s = execDataAnswerToneEnd i s := rfl
@[simp] theorem exec_linkDataReceived (i : LineId) (seq ack : Fin 64) (payload : List Byte) :
    exec (.linkDataReceived i seq ack payload) s = execLinkDataReceived i seq ack payload s := rfl
@[simp] theorem exec_linkAckReceived (i : LineId) (n : Fin 64) :
    exec (.linkAckReceived i n) s = execLinkAckReceived i n s := rfl
@[simp] theorem exec_linkResendReceived (i : LineId) (seq : Fin 64) :
    exec (.linkResendReceived i seq) s = execLinkResendReceived i seq s := rfl
@[simp] theorem exec_linkPauseReceived (i : LineId) : exec (.linkPauseReceived i) s = execLinkPauseReceived i s := rfl
@[simp] theorem exec_linkResumeReceived (i : LineId) :
    exec (.linkResumeReceived i) s = execLinkResumeReceived i s := rfl
@[simp] theorem exec_linkEndReceived (i : LineId) : exec (.linkEndReceived i) s = execLinkEndReceived i s := rfl
@[simp] theorem exec_linkEndOkReceived (i : LineId) : exec (.linkEndOkReceived i) s = execLinkEndOkReceived i s := rfl
@[simp] theorem exec_linkFrameFormed (i : LineId) : exec (.linkFrameFormed i) s = execLinkFrameFormed i s := rfl
@[simp] theorem exec_linkFrameTransmitted (i : LineId) :
    exec (.linkFrameTransmitted i) s = execLinkFrameTransmitted i s := rfl
@[simp] theorem exec_resendTimerExpiry (i : LineId) : exec (.resendTimerExpiry i) s = execResendTimerExpiry i s := rfl
@[simp] theorem exec_pauseTimerExpiry (i : LineId) : exec (.pauseTimerExpiry i) s = execPauseTimerExpiry i s := rfl
@[simp] theorem exec_ackSpacingExpiry (i : LineId) : exec (.ackSpacingExpiry i) s = execAckSpacingExpiry i s := rfl
@[simp] theorem exec_drainTimerExpiry (i : LineId) : exec (.drainTimerExpiry i) s = execDrainTimerExpiry i s := rfl
@[simp] theorem exec_endOkWaitExpiry (i : LineId) : exec (.endOkWaitExpiry i) s = execEndOkWaitExpiry i s := rfl
@[simp] theorem exec_faxAnswerToneEnd (i : LineId) : exec (.faxAnswerToneEnd i) s = execFaxAnswerToneEnd i s := rfl
@[simp] theorem exec_faxCallToneExpiry (i : LineId) : exec (.faxCallToneExpiry i) s = execFaxCallToneExpiry i s := rfl
@[simp] theorem exec_faxOfferReceived (i : LineId) (rate : Nat) (resolutions : List Resolution) (blockCorrection : Bool) :
    exec (.faxOfferReceived i rate resolutions blockCorrection) s =
      execFaxOfferReceived i rate resolutions blockCorrection s := rfl
@[simp] theorem exec_faxChooseReceived (i : LineId) (step : Nat) (res : Resolution) (blockCorrection : Bool) :
    exec (.faxChooseReceived i step res blockCorrection) s = execFaxChooseReceived i step res blockCorrection s := rfl
@[simp] theorem exec_faxCheckEnd (i : LineId) (locked : Bool) (errors : Nat) :
    exec (.faxCheckEnd i locked errors) s = execFaxCheckEnd i locked errors s := rfl
@[simp] theorem exec_faxTrainLockTimeout (i : LineId) :
    exec (.faxTrainLockTimeout i) s = execFaxTrainLockTimeout i s := rfl
@[simp] theorem exec_faxTrainOkReceived (i : LineId) :
    exec (.faxTrainOkReceived i) s = execFaxTrainOkReceived i s := rfl
@[simp] theorem exec_faxTrainRetryReceived (i : LineId) :
    exec (.faxTrainRetryReceived i) s = execFaxTrainRetryReceived i s := rfl
@[simp] theorem exec_faxPageBegin (i : LineId) : exec (.faxPageBegin i) s = execFaxPageBegin i s := rfl
@[simp] theorem exec_faxSenderPageEnd (i : LineId) : exec (.faxSenderPageEnd i) s = execFaxSenderPageEnd i s := rfl
@[simp] theorem exec_faxFillExpiry (i : LineId) : exec (.faxFillExpiry i) s = execFaxFillExpiry i s := rfl
@[simp] theorem exec_faxErrorBurst (i : LineId) : exec (.faxErrorBurst i) s = execFaxErrorBurst i s := rfl
@[simp] theorem exec_faxPageCloseReceived (i : LineId) (last : Bool) (again : Bool) :
    exec (.faxPageCloseReceived i last again) s = execFaxPageCloseReceived i last again s := rfl
@[simp] theorem exec_faxVerdictReceived (i : LineId) (v : Verdict) (stop : Bool) (q : Nat) :
    exec (.faxVerdictReceived i v stop q) s = execFaxVerdictReceived i v stop q s := rfl
@[simp] theorem exec_faxBlockFrameReceived (i : LineId) (seq : Fin 32) (payload : List Byte) :
    exec (.faxBlockFrameReceived i seq payload) s = execFaxBlockFrameReceived i seq payload s := rfl
@[simp] theorem exec_faxBlockEndReceived (i : LineId) (number : Nat) (count : Nat) :
    exec (.faxBlockEndReceived i number count) s = execFaxBlockEndReceived i number count s := rfl
@[simp] theorem exec_faxBlockMapReceived (i : LineId) (number : Nat) (missing : List Nat) :
    exec (.faxBlockMapReceived i number missing) s = execFaxBlockMapReceived i number missing s := rfl
@[simp] theorem exec_faxEndReceived (i : LineId) (role : FaxRole) :
    exec (.faxEndReceived i role) s = execFaxEndReceived i role s := rfl
@[simp] theorem exec_faxEndTransmitted (i : LineId) (role : FaxRole) :
    exec (.faxEndTransmitted i role) s = execFaxEndTransmitted i role s := rfl
@[simp] theorem exec_faxResponseWaitExpiry (i : LineId) (role : FaxRole) :
    exec (.faxResponseWaitExpiry i role) s = execFaxResponseWaitExpiry i role s := rfl
@[simp] theorem exec_faxReceiveWaitExpiry (i : LineId) :
    exec (.faxReceiveWaitExpiry i) s = execFaxReceiveWaitExpiry i s := rfl
@[simp] theorem exec_storeBlockRequest : exec .storeBlockRequest s = execStoreBlockRequest s := rfl
@[simp] theorem exec_storeStageWrite (i : LineId) : exec (.storeStageWrite i) s = execStoreStageWrite i s := rfl
@[simp] theorem exec_storeStageFill (i : LineId) : exec (.storeStageFill i) s = execStoreStageFill i s := rfl
@[simp] theorem exec_greetingEnd (i : LineId) : exec (.greetingEnd i) s = execGreetingEnd i s := rfl
@[simp] theorem exec_recordToneEnd (i : LineId) : exec (.recordToneEnd i) s = execRecordToneEnd i s := rfl
@[simp] theorem exec_recordMaxLength (i : LineId) : exec (.recordMaxLength i) s = execRecordMaxLength i s := rfl
@[simp] theorem exec_recordingComplete (i : LineId) : exec (.recordingComplete i) s = execRecordingComplete i s := rfl
@[simp] theorem exec_faxWatchExpiry (i : LineId) : exec (.faxWatchExpiry i) s = execFaxWatchExpiry i s := rfl
@[simp] theorem exec_playEntryEnd (i : LineId) : exec (.playEntryEnd i) s = execPlayEntryEnd i s := rfl
@[simp] theorem exec_cidSynchronised (i : LineId) (heard : List HeardTone) :
    exec (.cidSynchronised i heard) s = execCidSynchronised i heard s := rfl
@[simp] theorem exec_faxPageDataReceived (i : LineId) (bytes : List Byte) :
    exec (.faxPageDataReceived i bytes) s = execFaxPageDataReceived i bytes s := rfl
@[simp] theorem exec_faxPageDataSent (i : LineId) (n : Nat) :
    exec (.faxPageDataSent i n) s = execFaxPageDataSent i n s := rfl
@[simp] theorem exec_voiceBytesCoded (i : LineId) (bytes : List Byte) :
    exec (.voiceBytesCoded i bytes) s = execVoiceBytesCoded i bytes s := rfl
@[simp] theorem exec_voiceBytesDecoded (i : LineId) (n : Nat) :
    exec (.voiceBytesDecoded i n) s = execVoiceBytesDecoded i n s := rfl

end Sys2Proof.Machine
end

