-- ==== Sys2Proof/Laws/Notices.lean ====
section
/-! SUPPORT. The notice queues: an offer keeps a queue within sixteen entries, and what it can do to one (R178 to
R180). -/

namespace Sys2Proof.Machine

/-- Coalescing updates one entry in place. -/
theorem mergeInto_length {n : Notice} : ∀ {es es' : List Notice}, mergeInto n es = some es' → es'.length = es.length
  | [], _, h => by cases h
  | m :: t, es', h => by
    unfold mergeInto at h
    split at h
    · injection h with h; subst h; rfl
    · cases ht : mergeInto n t with
      | none => rw [ht] at h; cases h
      | some t' =>
        rw [ht] at h
        injection h with h
        subst h
        simp [mergeInto_length ht]

/-- The lowest priority present is that of some entry. -/
theorem lowestPriority_mem {es : List Notice} (h : es ≠ []) : ∃ m ∈ es, m.priority = lowestPriority es := by
  have hp : ∀ n : Notice, 1 ≤ n.priority := fun n => by
    cases n <;> simp [Notice.priority, Notice.kind, NoticeKind.priority]
  have key : ∀ (es : List Notice) (p : Nat),
      es.foldl (fun p n => max p n.priority) p = p ∨
      ∃ m ∈ es, m.priority = es.foldl (fun p n => max p n.priority) p := by
    intro es
    induction es with
    | nil => intro p; exact .inl rfl
    | cons a t ih =>
      intro p
      rcases ih (max p a.priority) with h | ⟨m, hm, h⟩
      · rcases Nat.le_total a.priority p with hl | hl
        · left; simp only [List.foldl_cons]; rw [h]; omega
        · right
          refine ⟨a, List.mem_cons_self, ?_⟩
          simp only [List.foldl_cons]; rw [h]; omega
      · right; exact ⟨m, List.mem_cons_of_mem _ hm, h⟩
  have mono : ∀ (es : List Notice) (p : Nat), p ≤ es.foldl (fun p n => max p n.priority) p := by
    intro es
    induction es with
    | nil => intro p; exact le_refl _
    | cons a t ih => intro p; exact le_trans (le_max_left p a.priority) (ih _)
  rcases key es 0 with h0 | h0
  · cases es with
    | nil => exact absurd rfl h
    | cons a t =>
      have h1 := hp a
      have h2 := mono t (max 0 a.priority)
      have h3 := h0
      simp only [List.foldl_cons] at h3
      omega
  · exact h0

/-- A new entry keeps the queue within sixteen. -/
theorem enter_fits {q : NoticeQueue} {n : Notice} (h : q.fits) : (q.enter n).fits := by
  unfold NoticeQueue.enter NoticeQueue.fits at *
  split
  · simp only [List.length_append, List.length_singleton]; omega
  · split
    · rename_i hf _
      have hne : q.entries ≠ [] := by
        intro he
        rw [he] at hf
        exact hf (by decide)
      obtain ⟨m, hm, hp⟩ := lowestPriority_mem hne
      have hl := List.length_eraseP_of_mem (p := fun m : Notice => decide (m.priority = lowestPriority q.entries)) hm
        (by simpa using hp)
      have hpos := List.length_pos_of_mem hm
      simp only [List.length_append, List.length_singleton]
      omega
    · exact h

/-- An offer keeps the queue within sixteen. -/
theorem offer_fits {q : NoticeQueue} {n : Notice} (h : q.fits) : (q.offer n).fits := by
  unfold NoticeQueue.offer
  split
  · rename_i es he
    unfold NoticeQueue.fits at *
    dsimp only
    rw [mergeInto_length he]
    exact h
  · exact enter_fits h

theorem notify_fits {l : Line} {n : Notice} (h : l.queue.fits) : (l.notify n).queue.fits := by
  unfold Line.notify
  split
  · exact offer_fits h
  · exact h

variable {s : State} {i j : LineId}

/-- A notice for one line keeps every line's queue within sixteen. -/
theorem notifyLine_fits {n : Notice} (h : ∀ j, (s.line j).queue.fits) : ((s.notifyLine i n).line j).queue.fits := by
  unfold State.notifyLine
  by_cases hj : j = i
  · subst hj
    rw [line_modLine_same]
    exact notify_fits (h j)
  · rw [line_modLine_ne _ _ _ _ hj]
    exact h j

theorem notifyPart_fits {n : Notice} (h : s.partQueue.fits) : (s.notifyPart n).partQueue.fits := offer_fits h

/-- The entry the arbiter takes leaves the queue no longer than it was. -/
theorem take_fits {q q' : NoticeQueue} {n : Notice} {lost : Bool} (h : q.fits) (ht : q.take? = some (n, lost, q')) :
    q'.fits := by
  unfold NoticeQueue.take? at ht
  split at ht
  · cases ht
  · injection ht with ht
    cases ht
    exact le_trans (List.length_eraseP_le) h

end Sys2Proof.Machine
end

