-- ==== Sys2Proof/Laws/Window.lean ====
section
/-! SUPPORT. The caller identity window: a close that is not the end of a message changes its line alone, and the clock is
set by a message only (R38, R41). -/

namespace Sys2Proof.Machine

variable (s : State) (i j : LineId)

/-- A window closed with no message ended has no record of a date. -/
@[simp] theorem unfinished_date (c : CidRx) : c.unfinished.date = none := rfl

/-- A record is never COMPLETE where no message has ended. -/
theorem unfinished_incomplete (c : CidRx) : c.unfinished.status ≠ .complete := by
  unfold CidRx.unfinished
  split <;> simp

/-- A close on a record without a date changes nothing of the part but its line. -/
theorem closeWindowOn_undated {r : CidRecord} (h : r.date = none) :
    s.closeWindowOn i r = { s with lines := (s.closeWindowOn i r).lines } := by
  unfold State.closeWindowOn
  rw [h]
  dsimp only
  split_ifs <;> rfl

/-- A close at an event other than the end of a message changes nothing of the part but its line. -/
theorem closeWindow_lines : s.closeWindow i = { s with lines := (s.closeWindow i).lines } :=
  closeWindowOn_undated s i rfl

@[simp] theorem closeWindow_clock : (s.closeWindow i).clock = s.clock := by rw [closeWindow_lines]

@[simp] theorem clockFromCid_line (d : CidDate) : (s.clockFromCid d).line j = s.line j := rfl

/-- The other lines stand. -/
theorem closeWindowOn_line_ne (r : CidRecord) (h : j ≠ i) : (s.closeWindowOn i r).line j = s.line j := by
  unfold State.closeWindowOn
  dsimp only
  split_ifs
  · rfl
  all_goals cases r.date <;> simp [h]

theorem closeWindow_line_ne (h : j ≠ i) : (s.closeWindow i).line j = s.line j := closeWindowOn_line_ne s i j _ h

end Sys2Proof.Machine
end

