-- ==== Sys2Proof/Tests/Slice0.lean ====
section
/-! SUPPORT. Small tests: a state that meets the hypotheses of every clause of every statement that has hypotheses,
ill-formed commands that the checks refuse, and worked values of the spec. -/

namespace Sys2Proof.Tests

open Sys2Proof.Machine

/-! ## Samples -/

def on0 (l : Line) : State := ({} : State).setLine 0 l
def sampleEntry : Entry :=
  { id := 1, kind := .voice, mailbox := 0, origin := none, stamp := none, cid := none, bits := some 4, chain := [0] }
def sampleTone (c : ToneClass) : ToneEntry := ⟨1, c, 350, some 440, -15, [⟨400, 600, 400, 600⟩], 1⟩
def sampleCall : CallRecord :=
  { direction := .incoming, ringCount := 1, cadence := some .pending, cid := none, job := .none, start := none }
def sampleCopy : RoutingCopy := ⟨none, .answer, some 4, ⟨false, false, true⟩, 0, none, .none⟩
def sampleRoute : RouteEntry :=
  ⟨#v[true, false, false, false], .any, .any, none, .answer, some 4, ⟨false, false, true⟩, 0, none⟩

def sampleRec : Recording :=
  { target := .store, kind := .voice, mailbox := 0, entry := some 1, bits := 4, limit := 4000, watchOpen := false
    silenceEndS := 5, minMs := 1 }

/-- A part with nothing in it meets the invariant. -/
theorem blank_wf : ({} : State).Wf :=
  ⟨rfl, Nat.zero_le _, show ∀ i, ((({} : State).line i).queue.entries.length ≤ 16) by decide,
    show ∀ k, (({} : State).area k).occupancy ≤ (({} : State).area k).size ∧ (({} : State).area k).marks.length ≤ 8 ∧
      ∀ m ∈ (({} : State).area k).marks, m.1 ≤ (({} : State).area k).occupancy by decide,
    Nat.zero_le _, Nat.zero_le _⟩

/-! ## A formatted store with one entry -/

theorem range_tail_perm : ∀ m, 0 < m → ((List.range m).tail ++ [0]).Perm (List.range m)
  | 0, h => absurd h (Nat.lt_irrefl 0)
  | m + 1, _ => by
    rw [List.range_succ_eq_map]
    exact List.perm_append_comm

theorem range_tail : ∀ {m}, 1 < m → (List.range m).tail = 1 :: (List.range m).tail.tail
  | m + 2, _ => by rw [List.range_succ_eq_map, List.range_succ_eq_map]; rfl

/-- The message blocks of a store of 2 MiB but the first. -/
@[irreducible] def spareBlocks : List Nat := (List.range (messageBlocks 2)).tail

/-- Those but the first of them. -/
@[irreducible] def laterBlocks : List Nat := spareBlocks.tail

theorem spareBlocks_def : spareBlocks = (List.range (messageBlocks 2)).tail := by
  delta spareBlocks
  exact Eq.refl _

theorem spareBlocks_length : spareBlocks.length = 2027 := by
  have h : messageBlocks 2 = 2028 := by decide
  unfold spareBlocks
  simp only [List.length_tail, List.length_range, h]

theorem spareBlocks_eq : spareBlocks = 1 :: laterBlocks := by
  have h1 : 1 < messageBlocks 2 := by decide
  unfold laterBlocks spareBlocks
  have h2 := range_tail h1
  generalize List.range (messageBlocks 2) = l at h2 ⊢
  exact h2

theorem laterBlocks_length : 16 ≤ laterBlocks.length := by
  rw [laterBlocks, List.length_tail, spareBlocks_length]
  decide

/-- A formatted store of 2 MiB with one entry, which holds block 0. -/
def storeWith (e : Entry) : Store := { formatted := true, size := some 2, free := spareBlocks, dir := [e] }

theorem oneEntry_whole {st : Store} {e : Entry} (hd : st.dir = [e]) (hc : e.chain = [0])
    (hf : st.free = (List.range st.m).tail) (hm : 0 < st.m) : st.whole := fun _ => by
  refine ⟨by simp [hd], ?_⟩
  have hl : st.dir.flatMap Entry.chain = [0] := by simp [hd, hc]
  rw [hl, hf]
  exact range_tail_perm st.m hm

theorem storeWith_m (e : Entry) : (storeWith e).m = messageBlocks 2 := by
  simp only [storeWith, Store.m, Option.map_some, Option.getD_some]

theorem storeWith_free (e : Entry) : (storeWith e).free = (List.range (messageBlocks 2)).tail :=
  (Eq.refl spareBlocks : (storeWith e).free = spareBlocks).trans spareBlocks_def

theorem storeWith_whole {e : Entry} (h : e.chain = [0]) : (storeWith e).whole := by
  have hm : 0 < messageBlocks 2 := by decide
  refine oneEntry_whole (e := e) rfl h ?_ ?_
  · rw [storeWith_m]
    exact storeWith_free e
  · rw [storeWith_m]
    exact hm

theorem whole_update {st st' : Store} (h : st.whole) (hd : st'.dir = st.dir) (hf : st'.free = st.free)
    (hs : st'.size = st.size) (hfm : st'.formatted = st.formatted) : st'.whole := by
  unfold Store.whole Store.m at *
  rw [hd, hf, hs, hfm]
  exact h

theorem storeWith_few : spareBlocks.length ≤ 65535 := by
  rw [spareBlocks_length]
  decide

theorem blank_offers_none (x : DataSource) : ({} : State).offers x = false := by
  cases x with
  | channel5 => rfl
  | rx i => revert i; decide

/-! ## The hypotheses of the statements, met -/

theorem TimePasses_met :
    (∃ (s : State), s.pending = []) ∧
    (∃ (s : State), s.clock.isSet = true ∧ 60000 ≤ s.clock.elapsed ∧ s.clock.minute < 1439) ∧
    (∃ (s : State), s.clock.isSet = true ∧ 60000 ≤ s.clock.elapsed ∧ s.clock.minute = 1439) ∧
    (∃ (s : State), s.clock.isSet = false) :=
  ⟨⟨{}, by decide⟩,
  ⟨{ clock := ⟨1438, 0, true, 60000⟩ }, by decide⟩,
  ⟨{ clock := ⟨1439, 65535, true, 60000⟩ }, by decide⟩,
  ⟨{}, by decide⟩⟩

theorem ResetsOfThePart_met :
    (∃ (s : State), s.inBreak = false) ∧
    (∃ (s : State), s.inBreak = true) ∧
    (∃ (s : State), s.inBreak = true ∧ s.partQueue.entries = []) ∧
    (∃ (s : State) (tag : Byte), s.takes) ∧
    (∃ (s : State) (f : OutFrame), s.outFrame = some f ∧ f.source = .reply true) :=
  ⟨⟨{}, by decide⟩,
  ⟨{ inBreak := true }, by decide⟩,
  ⟨{ inBreak := true }, by decide⟩,
  ⟨{}, 0xFF, by decide⟩,
  ⟨{ outFrame := some ⟨0, 2, [], .reply true⟩ }, ⟨0, 2, [], .reply true⟩, by decide⟩⟩

theorem WireFrameIsReadBack_met :
    ∃ (s : State) (channel : Nat) (kind : Nat) (payload : List Byte), definedIncoming channel kind = true ∧
        payload.length ≤ 255 ∧ s.parser = .hunt ∧ s.inBreak = false :=
  ⟨{}, 4, 4, [0xC5], by decide⟩

theorem HostFramesArrive_met :
    (∃ (s : State) (code : Byte) (line : Byte) (tag : Byte) (args : List Byte), args.length ≤ 252 ∧ s.parser = .hunt
        ∧ s.inBreak = false ∧ s.decoder = {}) ∧
    (∃ (s : State) (i : LineId) (k : DataKind) (a : AreaId) (payload : List Byte), s.parser = .hunt ∧ s.inBreak =
        false ∧ payload.length ≤ 255 ∧ s.joined i .tx = some a ∧ (s.line i).takesFrame k = true) ∧
    (∃ (s : State) (i : LineId) (a : AreaId) (m : PageMark), s.parser = .hunt ∧ s.inBreak = false ∧ s.joined i .tx =
        some a ∧ (s.line i).takesFrame .page = true ∧ (s.area a).marks.length < 8) ∧
    (∃ (s : State) (code : Byte) (line : Byte) (tag : Byte) (args : List Byte), args.length ≤ 252 ∧ s.parser = .hunt
        ∧ s.inBreak = false ∧ s.decoder.idle = false ∧ s.decoder.input.length < 4) ∧
    (∃ (s : State) (payload : List Byte), payload.length < 3 ∧ s.parser = .hunt ∧ s.inBreak = false ∧
        s.partQueue.entries = []) ∧
    (∃ (s : State) (i : LineId) (k : DataKind) (payload : List Byte), s.parser = .hunt ∧ s.inBreak = false ∧
        payload.length ≤ 255 ∧ payload ≠ [] ∧ (s.joined i .tx = none ∨ (s.line i).takesFrame k = false) ∧ (s.line
        i).queue.entries = [] ∧ (s.line i).profile.wants .hostDataDropped = true) ∧
    (∃ (s : State) (i : LineId) (payload : List Byte), s.parser = .hunt ∧ s.inBreak = false ∧ payload.length ≤ 255 ∧
        payload ≠ [] ∧ ((payload ≠ [0] ∧ payload ≠ [1]) ∨ (s.line i).takesFrame .page = false ∨ ∀ a, s.joined i .tx
        = some a → 8 ≤ (s.area a).marks.length) ∧ (s.line i).queue.entries = [] ∧ (s.line i).profile.wants
        .hostDataDropped = true) :=
  ⟨⟨{}, 0x61, 0x0E, 1, [], by decide⟩,
  ⟨((on0 {job := .data}).setArea 0
      { isDefined := true, units := 2, join := some (0, .tx), fifo := List.replicate 511 (0, 0), high := 512 }), 0,
      .data, 0, [0xC5, 0xC5], by decide⟩,
  ⟨((on0 {job := .fax, faxSource := some .host}).setArea 0
      { isDefined := true, units := 2, join := some (0, .tx) }), 0, 0, .last, by decide⟩,
  ⟨{ decoder := { hand := some ⟨0x61, ⟨0x0E, 1, []⟩⟩ } }, 0x61, 0x0E, 2, [], by decide⟩,
  ⟨{}, [0x61, 0x0E], by decide⟩,
  ⟨{}, 3, .voice, [1, 2], by decide⟩,
  ⟨{}, 3, [0], by decide⟩⟩

theorem DownloadStoresAndEnds_met :
    (∃ (s : State) (id : Nat) (e : Entry) (payload : List Byte), s.parser = .hunt ∧ s.inBreak = false ∧
        payload.length ≤ 255 ∧ s.store.transfer = .download id ∧ s.entry? id = some e ∧ s.store.formatted = true ∧
        s.store.whole ∧ dramWf s.dram = true ∧ payload.length ≤ e.room) ∧
    (∃ (s : State) (id : Nat) (e : Entry), s.parser = .hunt ∧ s.inBreak = false ∧ s.store.transfer = .download id ∧
        s.entry? id = some e ∧ 0 < e.length) ∧
    (∃ (s : State) (id : Nat) (b : Nat) (fs : List Nat) (e : Entry) (payload : List Byte), s.parser = .hunt ∧
        s.inBreak = false ∧ payload.length ≤ 255 ∧ s.store.transfer = .download id ∧ s.entry? id = some e ∧
        s.store.formatted = true ∧ s.store.whole ∧ dramWf s.dram = true ∧ e.room < payload.length ∧ e.length ≤
        e.chain.length * 1024 ∧ s.store.requests = [] ∧ s.store.free = b :: fs ∧ s.store.guard ≤ fs.length) ∧
    (∃ (s : State) (id : Nat) (e : Entry) (payload : List Byte), s.parser = .hunt ∧ s.inBreak = false ∧
        payload.length ≤ 255 ∧ s.store.transfer = .download id ∧ s.entry? id = some e ∧ s.store.formatted = true ∧
        s.store.whole ∧ dramWf s.dram = true ∧ e.room < payload.length ∧ e.length ≤ e.chain.length * 1024 ∧
        s.store.requests = [] ∧ s.store.free.length ≤ s.store.guard ∧ 0 < e.length + e.room) ∧
    (∃ (s : State) (id : Nat) (e : Entry) (payload : List Byte), s.parser = .hunt ∧ s.inBreak = false ∧
        payload.length ≤ 255 ∧ s.store.transfer = .download id ∧ s.entry? id = some e ∧ e.room < payload.length ∧ (∀
        r ∈ s.store.requests, r.entry ≠ id)) ∧
    (∃ (s : State) (id : Nat) (e : Entry), s.parser = .hunt ∧ s.inBreak = false ∧ s.store.transfer = .download id ∧
        s.entry? id = some e ∧ e.length = 0) ∧
    (∃ (s : State) (payload : List Byte), s.parser = .hunt ∧ s.inBreak = false ∧ payload.length ≤ 255 ∧ payload ≠ []
        ∧ (∀ id, s.store.transfer ≠ .download id) ∧ s.partQueue.entries = []) :=
  ⟨⟨{ store := { storeWith sampleEntry with transfer := .download 1 } }, 1, sampleEntry, [0xC5], ⟨rfl, rfl, by
      decide, rfl, rfl, rfl, whole_update (storeWith_whole rfl) rfl rfl rfl rfl, rfl, by decide⟩⟩,
  ⟨{ store := { transfer := .download 1, dir := [{ sampleEntry with length := 1 }] } }, 1,
      { sampleEntry with length := 1 }, by decide⟩,
  ⟨{ store := { storeWith { sampleEntry with length := 1024 } with transfer := .download 1 } }, 1, 1, laterBlocks,
      { sampleEntry with length := 1024 }, [0xC5], ⟨rfl, rfl, by decide, rfl, rfl, rfl, whole_update
      (storeWith_whole rfl) rfl rfl rfl rfl, rfl, by decide, by decide, rfl, spareBlocks_eq, laterBlocks_length⟩⟩,
  ⟨{ store := { storeWith { sampleEntry with length := 1024 } with transfer := .download 1, guard := 65535 } }, 1,
      { sampleEntry with length := 1024 }, [0xC5], ⟨rfl, rfl, by decide, rfl, rfl, rfl, whole_update
      (storeWith_whole rfl) rfl rfl rfl rfl, rfl, by decide, by decide, rfl, storeWith_few, by decide⟩⟩,
  ⟨{ store := { transfer := .download 1, dir := [{ sampleEntry with length := 1024 }] } }, 1,
      { sampleEntry with length := 1024 }, [0xC5], by decide⟩,
  ⟨{ store := { transfer := .download 1, dir := [sampleEntry] } }, 1, sampleEntry, by decide⟩,
  ⟨{}, [0xC5], ⟨rfl, rfl, by decide, by decide, fun _ => nofun, rfl⟩⟩⟩

theorem BadFramesAndUnknownCodes_met :
    (∃ (s : State) (h : Byte), s.parser = .hunt ∧ s.inBreak = false ∧ definedIncoming (h.toNat / 16) (h.toNat % 16)
        = false ∧ s.partQueue.entries = []) ∧
    (∃ (s : State) (d : Ms), s.parser ≠ .hunt ∧ s.gapTimer = some d ∧ d ≤ s.now ∧ s.partQueue.entries = []) ∧
    (∃ (s : State) (code : Byte) (d : Directive), s.takes ∧ knownCodes.contains code = false) :=
  ⟨⟨{}, 0x00, by decide⟩,
  ⟨{ parser := .header, gapTimer := some 0 }, 0, by decide⟩,
  ⟨{}, 0xFF, ⟨0x0E, 9, []⟩, by decide⟩⟩

theorem OutboundArbiter_met :
    (∃ (s : State) (r : Reply) (rest : List Reply), s.outFrame = none ∧ s.replies = r :: rest) ∧
    (∃ (s : State) (n : Notice), s.outFrame = none ∧ s.replies = [] ∧ s.partQueue.entries = [n]) ∧
    (∃ (s : State) (f : OutFrame), s.outFrame = some f) ∧
    (∃ (s : State) (f : OutFrame), s.outFrame = some f ∧ f.source ≠ .reply true ∧ f.source ≠ .uploadEnd) ∧
    (∃ (s : State) (f : OutFrame) (id : Nat) (pos : Nat), s.outFrame = some f ∧ f.source = .uploadEnd ∧
        s.store.transfer = .upload id pos ∧ s.partQueue.entries = []) ∧
    (∃ (s : State) (i : LineId) (n : Notice) (before : List LineId) (after : List LineId) (a : List Notice) (b :
        List Notice), s.outFrame = none ∧ s.replies = [] ∧ s.partQueue.entries = [] ∧ [s.lastLine + 1, s.lastLine +
        2, s.lastLine + 3, s.lastLine] = before ++ i :: after ∧ (∀ j ∈ before, (s.line j).queue.entries = []) ∧
        (s.line i).queue.entries = a ++ n :: b ∧ (∀ m ∈ a, n.priority < m.priority) ∧ (∀ m ∈ b, n.priority ≤
        m.priority)) ∧
    (∃ (s : State) (i : LineId) (k : AreaId) (before : List DataSource) (after : List DataSource) (m : PageMark) (ms
        : List (Nat × PageMark)), s.outFrame = none ∧ s.replies = [] ∧ s.partQueue.entries = [] ∧ (∀ j, (s.line
        j).queue.entries = []) ∧ sourcesAfter s.lastSource = before ++ .rx i :: after ∧ (∀ e ∈ before, s.offers e =
        false) ∧ s.joined i .rx = some k ∧ (s.area k).marks = (0, m) :: ms ∧ (s.line i).fax.heldMark = none) ∧
    (∃ (s : State) (i : LineId) (k : AreaId) (before : List DataSource) (after : List DataSource) (n : Nat),
        s.outFrame = none ∧ s.replies = [] ∧ s.partQueue.entries = [] ∧ (∀ j, (s.line j).queue.entries = []) ∧
        sourcesAfter s.lastSource = before ++ .rx i :: after ∧ (∀ e ∈ before, s.offers e = false) ∧ s.joined i .rx =
        some k ∧ n = min 255 (((s.area k).marks.head?.map Prod.fst).getD (s.area k).fifo.length) ∧ 0 < n ∧ n ≤
        (s.area k).fifo.length) ∧
    (∃ (s : State) (id : Nat) (pos : Nat) (e : Entry) (before : List DataSource) (after : List DataSource),
        s.outFrame = none ∧ s.replies = [] ∧ s.partQueue.entries = [] ∧ (∀ j, (s.line j).queue.entries = []) ∧
        sourcesAfter s.lastSource = before ++ .channel5 :: after ∧ (∀ x ∈ before, s.offers x = false) ∧
        s.store.transfer = .upload id pos ∧ s.entry? id = some e) ∧
    (∃ (s : State), s.outFrame = none ∧ s.replies = [] ∧ s.partQueue.entries = [] ∧ (∀ j, (s.line j).queue.entries =
        []) ∧ (∀ x, s.offers x = false)) ∧
    (∃ (q : NoticeQueue) (n : Notice) (m : Notice) (m' : Notice) (a : List Notice) (b : List Notice), q.entries = a
        ++ m :: b ∧ (∀ x ∈ a, x.kind ≠ n.kind) ∧ m.merge n = some m') ∧
    (∃ (l : List (AreaId × FlowState)) (k : AreaId) (f : FlowState), (l.map Prod.fst).Nodup) ∧
    (∃ (q : NoticeQueue) (n : Notice), q.entries.length < 16 ∧ (∀ m ∈ q.entries, m.merge n = none)) ∧
    (∃ (q : NoticeQueue) (n : Notice) (m : Notice) (a : List Notice) (b : List Notice), 16 ≤ q.entries.length ∧
        q.entries = a ++ m :: b ∧ (∀ x ∈ q.entries, x.merge n = none) ∧ (∀ x ∈ a, x.priority < m.priority) ∧ (∀ x ∈
        b, x.priority ≤ m.priority)) :=
  ⟨⟨{ replies := [⟨2, 9, .ok, []⟩] }, ⟨2, 9, .ok, []⟩, [], by decide⟩,
  ⟨{ partQueue := { entries := [.linkFrameBad 1] } }, .linkFrameBad 1, by decide⟩,
  ⟨{ outFrame := some ⟨5, 1, [], .upload⟩ }, ⟨5, 1, [], .upload⟩, by decide⟩,
  ⟨{ outFrame := some ⟨5, 1, [], .upload⟩ }, ⟨5, 1, [], .upload⟩, by decide⟩,
  ⟨{ outFrame := some ⟨5, 2, [], .uploadEnd⟩, store := { transfer := .upload 1 0 } }, ⟨5, 2, [], .uploadEnd⟩, 1, 0,
      by decide⟩,
  ⟨(on0 {queue := { entries := [.signals {}, .connected .voice] }}), 0, .connected .voice, [], [1, 2, 3], [.signals
      {}], [], by decide⟩,
  ⟨(State.setArea {} 0
      {
        isDefined := true, units := 2, join := some (0, .rx), fifo := [(0xC5, 0)], marks := [(0, .last), (1, .more)] }),
      0, 0, [], [.rx 1, .rx 2, .rx 3, .channel5], .last, [(1, .more)], by decide⟩,
  ⟨(State.setArea {} 0
      { isDefined := true, units := 2, join := some (0, .rx), fifo := [(0xC5, 0), (0, 0)], marks := [(1, .last)] }),
      0, 0, [], [.rx 1, .rx 2, .rx 3, .channel5], 1, by decide⟩,
  ⟨{ store := { transfer := .upload 1 255, dir := [{ sampleEntry with length := 256 }] } }, 1, 255,
      { sampleEntry with length := 256 }, [.rx 0, .rx 1, .rx 2, .rx 3], [], by decide⟩,
  ⟨{}, ⟨by decide, by decide, by decide, by decide, blank_offers_none⟩⟩,
  ⟨{ entries := [.connected .voice, .linkFrameBad 255] }, .linkFrameBad 1, .linkFrameBad 255, .linkFrameBad 255,
      [.connected .voice], [], by decide⟩,
  ⟨[(11, .go)], 11, .stop, by decide⟩,
  ⟨{ entries := [.connected .voice] }, .connected .voice, by decide⟩,
  ⟨{ entries := List.replicate 16 (.pageDone 1 .good 1 none none) }, .flow [(0, .stop)], .pageDone 1 .good 1 none
      none, [], List.replicate 15 (.pageDone 1 .good 1 none none), by decide⟩⟩

theorem LineEnableAndDisable_met :
    (∃ (s : State) (i : LineId) (d : Directive), s.takes ∧ lineOf? d.line = some i ∧ d.args = [] ∧ (s.line i).state
        = .offline) ∧
    (∃ (s : State) (i : LineId) (d : Directive), s.takes ∧ lineOf? d.line = some i ∧ d.args = [] ∧ (s.line i).state
        ≠ .offline) ∧
    (∃ (s : State) (i : LineId) (d : Directive), s.takes ∧ lineOf? d.line = some i ∧ d.args = []) :=
  ⟨⟨(on0 {realLoop := true}), 0, ⟨0, 9, []⟩, by decide⟩,
  ⟨(on0 {state := .loopback}), 0, ⟨0, 9, []⟩, by decide⟩,
  ⟨(on0 {state := .progress, relay := true}), 0, ⟨0, 9, []⟩, by decide⟩⟩

theorem ProfileAndTablesReplaced_met :
    (∃ (s : State) (i : LineId) (d : Directive) (pairs : List (Nat × Nat)) (p : Profile) (c : List Nat), s.takes ∧
        lineOf? d.line = some i ∧ argProfile.read d.args = .good pairs ∧ (s.line i).profile.apply [] pairs = some
        (p, c) ∧ p.dataFloor ≤ p.dataStart ∧ p.dataStart ≤ p.dataCeiling ∧ p.faxFloor ≤ p.faxCeiling) ∧
    (∃ (s : State) (i : LineId) (d : Directive) (pairs : List (Nat × Nat)), s.takes ∧ lineOf? d.line = some i ∧
        argProfile.read d.args = .good pairs ∧ (∀ q ∈ (s.line i).profile.apply [] pairs, q.1.dataStart <
        q.1.dataFloor ∨ q.1.dataCeiling < q.1.dataStart ∨ q.1.faxCeiling < q.1.faxFloor)) ∧
    (∃ (s : State) (d : Directive) (ps : List (List (Ms × Ms))), s.takes ∧ d.line = 0x0E ∧ argPatterns.read d.args =
        .good ps ∧ (∀ i, (s.line i).state ≠ .alerting) ∧ ps.length ≤ 4 ∧ ps.all patternLegal = true) ∧
    (∃ (s : State) (d : Directive) (as : List ToneArgs) (es : List ToneEntry), s.takes ∧ d.line = 0x0E ∧
        argTone.list.read d.args = .good as ∧ toneTable? as = some es) ∧
    (∃ (s : State) (d : Directive) (fax : Bool) (steps : List LadderStep), s.takes ∧ d.line = 0x0E ∧ argLadder.read
        d.args = .good (fax, steps) ∧ (∀ i, (s.line i).job ≠ if fax then .fax else .data) ∧ steps.length ≤ (if fax
        then 6 else 8) ∧ ladderLegal steps = true) ∧
    (∃ (p : Profile) (q : Profile) (pairs : List (Nat × Nat)) (c : List Nat) (id : Nat) (v : Nat) (lo : Nat) (hi :
        Nat), p.apply [] pairs = some (q, c) ∧ fieldRange id = some (lo, hi)) ∧
    (∃ (p : Profile) (q : Profile) (pairs : List (Nat × Nat)) (c : List Nat) (id : Nat) (v : Nat), p.apply [] pairs
        = some (q, c) ∧ ((id ∈ [0, 8, 14, 15, 38, 42, 48, 49] ∧ v ≤ 1) ∨ (id = 17 ∧ 1 ≤ v ∧ v ≤ 7) ∨ (id = 43 ∧ 2 ≤
        v ∧ v ≤ 4) ∨ (id = 51 ∧ v < 262144))) ∧
    (∃ (p : Profile) (pairs : List (Nat × Nat)) (id : Nat) (v : Nat), fieldRange id = none ∧ ¬ ((id ∈ [0, 8, 14, 15,
        38, 42, 48, 49] ∧ v ≤ 1) ∨ (id = 17 ∧ 1 ≤ v ∧ v ≤ 7) ∨ (id = 43 ∧ 2 ≤ v ∧ v ≤ 4) ∨ (id = 51 ∧ v < 262144)))
        ∧
    (∃ (p : Profile) (pairs : List (Nat × Nat)) (x : Nat × Nat), p.apply [] pairs = none) ∧
    (∃ (s : State) (d : Directive) (pairs : List (Nat × Nat)) (q : Profile) (c : List Nat), s.takes ∧ d.line = 0x0F
        ∧ argProfile.read d.args = .good pairs ∧ (s.line 0).profile.apply [] pairs = some (q, c) ∧ (∀ i, ∃ p k,
        (s.line i).profile.apply [] pairs = some (p, k) ∧ p.consistent = true)) ∧
    (∃ (s : State) (d : Directive) (pairs : List (Nat × Nat)) (i : LineId), s.takes ∧ d.line = 0x0F ∧
        argProfile.read d.args = .good pairs ∧ (∀ q ∈ (s.line i).profile.apply [] pairs, q.1.consistent = false)) ∧
    (∃ (s : State) (d : Directive) (as : List ToneArgs), s.takes ∧ d.line = 0x0E ∧ argTone.list.read d.args = .good
        as ∧ toneTable? as = none) ∧
    (∃ (s : State) (d : Directive) (ps : List (List (Ms × Ms))), s.takes ∧ d.line = 0x0E ∧ argPatterns.read d.args =
        .good ps) ∧
    (∃ (s : State) (d : Directive) (fax : Bool) (steps : List LadderStep), s.takes ∧ d.line = 0x0E ∧ argLadder.read
        d.args = .good (fax, steps) ∧ ((∃ i, (s.line i).job = if fax then .fax else .data) ∨ (if fax then 6 else 8)
        < steps.length ∨ ladderLegal steps = false)) :=
  ⟨⟨{}, 3, ⟨3, 9, [2, 0, 1, 9, 0]⟩, [(0, 1), (9, 0)], { dialMethod := .pulse, answerWaitS := 10 }, [9], by decide⟩,
  ⟨{}, 0, ⟨0, 9, [1, 24, 7]⟩, [(24, 7)], ⟨by decide, by decide, by decide, by decide⟩⟩,
  ⟨{}, ⟨0x0E, 9, [1, 1, 0, 0, 0x10, 0x27]⟩, [[(0, 10000)]], by decide⟩,
  ⟨{}, ⟨0x0E, 9, [1, 1, 0, 94, 1, 1, 184, 1, 241, 1, 144, 1, 88, 2, 144, 1, 88, 2, 1]⟩, [⟨1, 0, 350, some 440, -15,
      [⟨400, 600, 400, 600⟩], 1⟩], [sampleTone .dial], by decide⟩,
  ⟨{}, ⟨0x0E, 9, [1, 1, 0x40, 0x83, 159, 160, 255]⟩, true, [⟨33600, 159, 160, 255⟩], by decide⟩,
  ⟨{}, { dialMethod := .pulse }, [(0, 1)], [], 10, 301, 50, 300, by decide⟩,
  ⟨{}, {}, [], [], 51, 262143, by decide⟩,
  ⟨{}, [], 17, 8, by decide⟩,
  ⟨{}, [(43, 1)], (0, 0), by decide⟩,
  ⟨{}, ⟨0x0F, 9, [1, 9, 121]⟩, [(9, 121)], { answerWaitS := 120 }, [9], ⟨by decide, by decide, by decide, by decide,
      fun i => ⟨{ answerWaitS := 120 }, [9], by revert i; decide, rfl⟩⟩⟩,
  ⟨{}, ⟨0x0F, 9, [1, 24, 7]⟩, [(24, 7)], 3, ⟨by decide, by decide, by decide, by decide⟩⟩,
  ⟨{}, ⟨0x0E, 9, [1, 16, 0, 94, 1, 0, 241, 1, 144, 1, 88, 2, 144, 1, 88, 2, 1]⟩, [⟨16, 0, 350, none, -15, [⟨400,
      600, 400, 600⟩], 1⟩], by decide⟩,
  ⟨{}, ⟨0x0E, 9, [1, 1, 0, 0, 0x10, 0x27]⟩, [[(0, 10000)]], by decide⟩,
  ⟨{}, ⟨0x0E, 9, [1, 1, 0x40, 0x83, 160, 160, 255]⟩, true, [⟨33600, 160, 160, 255⟩], by decide⟩⟩

theorem DialAndHangUp_met :
    (∃ (s : State) (i : LineId) (d : Directive) (a : DialArgs) (es : List DialElement), s.takes ∧ lineOf? d.line =
        some i ∧ argDial.read d.args = .good a ∧ (s.line i).state = .idle ∧ (s.line i).dialList? a = some es ∧
        a.document = none ∧ s.hasTone .dial = true ∧ s.dialReady i a = true) ∧
    (∃ (s : State) (i : LineId) (d : Directive) (n : Nat), s.takes ∧ lineOf? d.line = some i ∧ (argNum 1).read
        d.args = .good n ∧ n ≤ 1 ∧ ((s.line i).state = .seizing ∨ (s.line i).state = .dialling ∨ (s.line i).state =
        .progress ∨ (s.line i).state = .classify ∨ (s.line i).state = .voice)) ∧
    (∃ (s : State) (i : LineId) (d : Directive) (n : Nat), s.takes ∧ lineOf? d.line = some i ∧ (argNum 1).read
        d.args = .good n ∧ ((s.line i).state = .offline ∨ (s.line i).state = .idle ∨ (s.line i).state = .alerting ∨
        (s.line i).state = .release)) ∧
    (∃ (s : State) (i : LineId) (d : Directive) (n : Nat), s.takes ∧ lineOf? d.line = some i ∧ (argNum 1).read
        d.args = .good n ∧ n ≤ 1 ∧ (s.line i).row = .data ∧ (s.line i).link.farEnd = none ∧ ((s.line i).quality.rc =
        .steady ∧ (s.line i).link.rateWait = [] ∨ (s.line i).quality.rc = .renegotiating) ∧ (s.line i).link.txNow =
        none ∧ (s.line i).link.endWait = [] ∧ (s.line i).link.endOnSteady = false ∧ ((s.line i).link.phase =
        .draining ∨ (s.line i).link.phase = .linked ∧ (n = 0 ∨ (s.line i).link.sendQueue = [] ∧ s.txEmpty i =
        true))) ∧
    (∃ (s : State) (i : LineId) (d : Directive) (n : Nat) (f : LinkFrame), s.takes ∧ lineOf? d.line = some i ∧
        (argNum 1).read d.args = .good n ∧ n ≤ 1 ∧ (s.line i).row = .data ∧ (s.line i).link.farEnd = none ∧ (s.line
        i).link.phase = .linked ∧ (s.line i).quality.rc = .steady ∧ n = 1 ∧ ((s.line i).link.sendQueue ≠ [] ∨
        s.txEmpty i = false) ∧ (s.line i).link.txNow = some f) ∧
    (∃ (s : State) (i : LineId) (d : Directive) (n : Nat), s.takes ∧ lineOf? d.line = some i ∧ (argNum 1).read
        d.args = .good n ∧ n ≤ 1 ∧ ((s.line i).row = .data ∧ ((s.line i).link.farEnd.isSome = true ∨ (s.line
        i).link.phase = .closing) ∨ (s.line i).row = .fax ∧ (s.line i).fax.phase = .close ∧ (s.line i).fax.role =
        some .sender)) ∧
    (∃ (s : State) (i : LineId) (d : Directive) (n : Nat), s.takes ∧ lineOf? d.line = some i ∧ (argNum 1).read
        d.args = .good n ∧ n ≤ 1 ∧ ((s.line i).row = .data ∧ (s.line i).link.farEnd = none ∧ (s.line i).link.phase ≠
        .closing ∧ ((s.line i).link.phase ∉ [.linked, .draining] ∨ (s.line i).quality.rc = .retraining) ∨ (s.line
        i).row = .fax ∧ (s.line i).fax.role.isSome = true ∧ (s.line i).fax.phase ≠ .close ∧ (s.line i).fax.terms =
        none)) ∧
    (∃ (s : State) (i : LineId) (d : Directive) (n : Nat), s.takes ∧ lineOf? d.line = some i ∧ (argNum 1).read
        d.args = .good n ∧ n ≤ 1 ∧ (s.line i).row = .fax ∧ (s.line i).fax.role.isSome = true ∧ (s.line i).fax.phase
        ≠ .close ∧ (s.line i).fax.terms.isSome = true) ∧
    (∃ (s : State) (i : LineId) (d : Directive) (n : Nat), s.takes ∧ lineOf? d.line = some i ∧ (argNum 1).read
        d.args = .good n ∧ 2 ≤ n ∧ (s.line i).state ∈ [.seizing, .dialling, .progress, .classify, .data, .fax,
        .voice]) :=
  ⟨⟨{ (((on0 {
      state := .idle }).setArea
      0 {
        isDefined := true, units := 2, join := some (0, .tx) }).setArea
        1 { isDefined := true, units := 2, join := some (0, .rx) }) with
    toneTable := [sampleTone .dial] }, 0, ⟨0, 9, [0, 1, 0, 5]⟩, ⟨.data, none, [some (.digit .d5)]⟩, [.digit .d5], by
      decide⟩,
  ⟨(on0 {state := .voice}), 0, ⟨0, 9, [1]⟩, 1, by decide⟩,
  ⟨(on0 {state := .release}), 0, ⟨0, 9, [0]⟩, 0, by decide⟩,
  ⟨(on0 {state := .data, quality := { rc := .steady }, link := { phase := .draining }}), 0, ⟨0, 9, [1]⟩, 1, by
      decide⟩,
  ⟨(on0
      {
        state := .data, quality := { rc := .steady }
        link := { phase := .linked, sendQueue := [{ seq := 63, payload := [0xC5] }], txNow := some .pause } }), 0,
      ⟨0, 9, [1]⟩, 1, .pause, by decide⟩,
  ⟨(on0 {state := .data, link := { phase := .closing }}), 0, ⟨0, 9, [0]⟩, 0, by decide⟩,
  ⟨(on0 {state := .data, link := { phase := .training }}), 0, ⟨0, 9, [1]⟩, 1, by decide⟩,
  ⟨(on0 {state := .fax, fax := { role := some .sender, phase := .train, terms := some ⟨0, .normal, false⟩ }}), 0,
      ⟨0, 9, [0]⟩, 0, by decide⟩,
  ⟨(on0 {state := .voice}), 0, ⟨0, 9, [2]⟩, 2, by decide⟩⟩

theorem LineResetLeaves_met :
    (∃ (s : State) (i : LineId) (d : Directive), s.takes ∧ lineOf? d.line = some i ∧ d.args = [] ∧ (s.line i).state
        ≠ .offline ∧ (s.line i).ring.burst = none ∧ (s.line i).signals.ring = false) ∧
    (∃ (s : State) (i : LineId) (d : Directive), s.takes ∧ lineOf? d.line = some i ∧ d.args = [] ∧ ((s.line i).state
        = .idle ∨ (s.line i).state = .alerting ∨ (s.line i).state = .release) ∧ (s.line i).ring.burst.isSome = true
        ∧ (s.line i).signals.ring = true) ∧
    (∃ (s : State) (i : LineId) (d : Directive), s.takes ∧ lineOf? d.line = some i ∧ d.args = [] ∧ (s.line i).state
        = .offline ∧ (s.line i).call = none) :=
  ⟨⟨(on0 {state := .data}), 0, ⟨0, 9, []⟩, by decide⟩,
  ⟨(on0 {state := .alerting, signals := { ring := true }, ring := { burst := some 0 }}), 0, ⟨0, 9, []⟩, by decide⟩,
  ⟨(on0 {}), 0, ⟨0, 9, []⟩, by decide⟩⟩

theorem LoopbackEntersAndLeaves_met :
    (∃ (s : State) (i : LineId) (d : Directive), s.takes ∧ lineOf? d.line = some i ∧ (argNum 1).read d.args = .good
        0 ∧ (s.line i).state = .idle) ∧
    (∃ (s : State) (i : LineId) (d : Directive), s.takes ∧ lineOf? d.line = some i ∧ (argNum 1).read d.args = .good
        1 ∧ (s.line i).state = .loopback ∧ (s.line i).call = none) ∧
    (∃ (s : State) (i : LineId) (d : Directive) (r : Nat) (l : Nat), s.takes ∧ lineOf? d.line = some i ∧
        argPair.read d.args = .good (r, l) ∧ r ≤ 1 ∧ l ≤ 1 ∧ (s.line i).state = .loopback) ∧
    (∃ (s : State) (i : LineId) (d : Directive) (a : DialArgs), s.takes ∧ lineOf? d.line = some i ∧ argDial.read
        d.args = .good a ∧ (s.line i).state = .loopback ∧ (s.line i).job = .none ∧ a.list = [] ∧ a.document = none ∧
        s.dialReady i a = true ∧ s.dataLadder ≠ [] ∧ s.faxLadder ≠ []) ∧
    (∃ (s : State) (i : LineId) (d : Directive) (a : DialArgs), s.takes ∧ lineOf? d.line = some i ∧ argDial.read
        d.args = .good a ∧ (s.line i).state = .loopback ∧ (s.line i).job = .none ∧ a.list ≠ []) ∧
    (∃ (s : State) (i : LineId) (d : Directive) (a : DialArgs), s.takes ∧ lineOf? d.line = some i ∧ argDial.read
        d.args = .good a ∧ (s.line i).state = .loopback ∧ (s.line i).job ≠ .none) :=
  ⟨⟨(on0 {state := .idle}), 0, ⟨0, 9, [0]⟩, by decide⟩,
  ⟨(on0 {state := .loopback}), 0, ⟨0, 9, [1]⟩, by decide⟩,
  ⟨(on0 {state := .loopback}), 0, ⟨0, 9, [1, 0]⟩, 1, 0, by decide⟩,
  ⟨{ ((on0 {state := .loopback}).setArea 0 { isDefined := true, units := 2, join := some (0, .tx) }) with
    dataLadder := [⟨300, 0, 1, 0⟩], faxLadder := [⟨300, 0, 1, 0⟩] }, 0, ⟨0, 9, [2, 0]⟩, ⟨.voice, none, []⟩, by
      decide⟩,
  ⟨(on0 {state := .loopback}), 0, ⟨0, 9, [2, 1, 0, 5]⟩, ⟨.voice, none, [some (.digit .d5)]⟩, by decide⟩,
  ⟨(on0 {state := .loopback, job := .voice}), 0, ⟨0, 9, [2, 0]⟩, ⟨.voice, none, []⟩, by decide⟩⟩

theorem DigitsSentAndRecognised_met :
    (∃ (s : State) (i : LineId) (d : Directive) (ns : List Nat) (x : Digit) (ds : List Digit), s.takes ∧ lineOf?
        d.line = some i ∧ argDigits.read d.args = .good ns ∧ allSome (ns.map digitOfPlace?) = some (x :: ds) ∧
        ds.length ≤ 31 ∧ (s.line i).inVoice = true ∧ (s.line i).tone.sendQueue = [] ∧ (s.line i).tone.digitTx =
        none) ∧
    (∃ (s : State) (i : LineId) (d : Digit) (heard : List HeardTone), dtmfPair heard = some d ∧ (s.line i).state =
        .voice ∧ (s.line i).tone.digitTx = none ∧ (s.line i).tone.dtmf = .idle) ∧
    (∃ (s : State) (i : LineId) (d : Digit) (b : Ms), (s.line i).tone.dtmf = .presence d b ∧ b + 40 ≤ s.now) ∧
    (∃ (s : State) (i : LineId) (d : Digit) (b : Ms), (s.line i).tone.dtmf = .held d (some b) ∧ b + 40 ≤ s.now ∧
        (s.line i).state = .voice ∧ (s.line i).voice = { mode := .host } ∧ (s.line i).profile.wants .digits = true ∧
        (s.line i).queue.entries = []) ∧
    (∃ (s : State) (i : LineId) (d : Digit) (heard : List HeardTone), dtmfPair heard = none ∧ (s.line i).state =
        .voice ∧ (s.line i).tone.digitTx = none ∧ (s.line i).tone.dtmf = .held d none) ∧
    (∃ (s : State) (i : LineId) (d : Digit) (b : Ms) (heard : List HeardTone), dtmfPair heard = none ∧ (s.line
        i).state = .voice ∧ (s.line i).tone.digitTx = none ∧ (s.line i).tone.dtmf = .presence d b ∧ s.now < b + 40)
        :=
  ⟨⟨(on0 {state := .voice}), 0, ⟨0, 9, [1, 15]⟩, [15], .ld, [], by decide⟩,
  ⟨(on0 {state := .voice}), 0, .star, [⟨941000, -3000⟩, ⟨1209000, -2200⟩], by decide⟩,
  ⟨{ (on0 {tone := { dtmf := .presence .d5 0 }}) with now := 40 }, 0, .d5, 0, by decide⟩,
  ⟨{ (on0 {state := .voice, voice := { mode := .host }, tone := { dtmf := .held .d5 (some 0) }}) with now := 40 },
      0, .d5, 0, by decide⟩,
  ⟨(on0 {state := .voice, tone := { dtmf := .held .d5 none, pairOn := true }}), 0, .d5, [], by decide⟩,
  ⟨{ (on0 {state := .voice, tone := { dtmf := .presence .d5 0, pairOn := true }}) with now := 39 }, 0, .d5, 0, [],
      by decide⟩⟩

theorem AnswerAndReject_met :
    (∃ (s : State) (i : LineId) (d : Directive) (n : Nat) (m : JobSet) (b : Ms), s.takes ∧ lineOf? d.line = some i ∧
        (argNum 1).read d.args = .good n ∧ mask? n = some m ∧ (s.line i).state = .alerting ∧ (s.line i).ring.burst =
        some b) ∧
    (∃ (s : State) (i : LineId) (d : Directive) (n : Nat) (m : JobSet), s.takes ∧ lineOf? d.line = some i ∧ (argNum
        1).read d.args = .good n ∧ mask? n = some m ∧ (s.line i).state = .alerting ∧ (s.line i).ring.burst = none ∧
        (s.line i).call.isSome = true) ∧
    (∃ (s : State) (i : LineId) (d : Directive), s.takes ∧ lineOf? d.line = some i ∧ d.args = [] ∧ (s.line i).state
        = .alerting) ∧
    (∃ (s : State) (i : LineId) (d : Directive), s.takes ∧ lineOf? d.line = some i ∧ d.args = [] ∧ (s.line i).state
        ≠ .alerting) ∧
    (∃ (s : State) (i : LineId) (d : Directive) (n : Nat) (m : JobSet), s.takes ∧ lineOf? d.line = some i ∧ (argNum
        1).read d.args = .good n ∧ mask? n = some m ∧ (s.line i).state ≠ .alerting) ∧
    (∃ (s : State) (i : LineId) (d : Directive) (n : Nat), s.takes ∧ lineOf? d.line = some i ∧ (argNum 1).read
        d.args = .good n ∧ (n = 0 ∨ 8 ≤ n)) :=
  ⟨⟨(on0 {state := .alerting, ring := { burst := some 0 }}), 0, ⟨0, 9, [7]⟩, 7, ⟨true, true, true⟩, 0, by decide⟩,
  ⟨(on0 {state := .alerting, call := some sampleCall}), 0, ⟨0, 9, [3]⟩, 3, ⟨true, true, false⟩, by decide⟩,
  ⟨(on0 {state := .alerting}), 0, ⟨0, 9, []⟩, by decide⟩,
  ⟨(on0 {state := .idle}), 0, ⟨0, 9, []⟩, by decide⟩,
  ⟨(on0 {state := .idle}), 0, ⟨0, 9, [7]⟩, 7, ⟨true, true, true⟩, by decide⟩,
  ⟨(on0 {state := .alerting}), 0, ⟨0, 9, [8]⟩, 8, by decide⟩⟩

theorem ReleaseLeaves_met :
    ∃ (s : State) (i : LineId) (why : EndReason), (s.line i).state ≠ .loopback :=
  ⟨(on0 {state := .progress, relay := true, call := some sampleCall}), 0, .busy, by decide⟩

theorem RingInputBeginsCall_met :
    (∃ (s : State) (i : LineId), (s.line i).state = .idle ∧ (s.line i).realRing = false ∧ (s.line i).ring.burst =
        none) ∧
    (∃ (s : State) (i : LineId) (b : Ms), (s.line i).state = .alerting ∧ (s.line i).realRing = true ∧ (s.line
        i).ring.burst = some b) ∧
    (∃ (s : State) (i : LineId) (b : Ms) (q : Ms), (s.line i).state = .idle ∧ (s.line i).ring.qual = some (b, q) ∧ q
        ≤ s.now) :=
  ⟨⟨(on0 {state := .idle}), 0, by decide⟩,
  ⟨(on0 {state := .alerting, realRing := true, ring := { burst := some 0 }}), 0, 0, by decide⟩,
  ⟨(on0 {state := .idle, ring := { qual := some (0, 0) }}), 0, 0, 0, by decide⟩⟩

theorem RingCycleCloses_met :
    (∃ (s : State) (i : LineId) (b : Ms) (q : Ms), (s.line i).ring.burst = some b ∧ (s.line i).ring.quiet = some q ∧
        q + 100 ≤ s.now ∧ (s.line i).answerWaiting = false ∧ (s.line i).ring.cycle = true) ∧
    (∃ (s : State) (i : LineId) (g : Ms) (c : CallRecord), (s.line i).state = .alerting ∧ (s.line i).call = some c ∧
        (s.line i).ring.gap = some g ∧ g ≤ s.now ∧ (s.line i).ring.cycle = true ∧ (s.line i).ring.burst = none ∧
        (s.line i).ring.closed = 0 ∧ c.routing = none ∧ (s.line i).tone.cid.window = .open_) ∧
    (∃ (s : State) (i : LineId) (d : Ms), (s.line i).state = .alerting ∧ (s.line i).call.isSome = true ∧ (s.line
        i).ring.abandon = some d ∧ d ≤ s.now ∧ (s.line i).ring.burst = none) ∧
    (∃ (s : State) (i : LineId) (g : Ms) (c : CallRecord) (cp : RoutingCopy) (k : Nat), (s.line i).state = .alerting
        ∧ (s.line i).call = some c ∧ c.routing = some cp ∧ (s.line i).ring.gap = some g ∧ g ≤ s.now ∧ (s.line
        i).ring.cycle = true ∧ (s.line i).ring.burst = none ∧ 1 ≤ (s.line i).ring.closed ∧ (cp.action = .reject ∨
        (cp.action = .answer ∧ cp.rings = some k ∧ min 255 ((s.line i).ring.closed + 1) < k))) ∧
    (∃ (s : State) (i : LineId) (g : Ms) (c : CallRecord) (cp : RoutingCopy) (k : Nat), (s.line i).state = .alerting
        ∧ (s.line i).call = some c ∧ c.routing = some cp ∧ (s.line i).ring.gap = some g ∧ g ≤ s.now ∧ (s.line
        i).ring.cycle = true ∧ (s.line i).ring.burst = none ∧ 1 ≤ (s.line i).ring.closed ∧ cp.action = .answer ∧
        cp.rings = some k ∧ k ≤ min 255 ((s.line i).ring.closed + 1) ∧ cp.mask = ⟨true, true, false⟩) ∧
    (∃ (s : State) (i : LineId) (g : Ms) (c : CallRecord) (cp : RoutingCopy), (s.line i).state = .alerting ∧ (s.line
        i).call = some c ∧ c.routing = some cp ∧ (s.line i).ring.gap = some g ∧ g ≤ s.now ∧ (s.line i).ring.cycle =
        true ∧ (s.line i).ring.burst = none ∧ 1 ≤ (s.line i).ring.closed ∧ cp.action = .answerDrop) ∧
    (∃ (s : State) (i : LineId) (g : Ms) (c : CallRecord) (cp : RoutingCopy), (s.line i).state = .alerting ∧ (s.line
        i).call = some c ∧ c.routing = none ∧ (s.line i).ring.gap = some g ∧ g ≤ s.now ∧ (s.line i).ring.cycle =
        true ∧ (s.line i).ring.burst = none ∧ (s.line i).ring.closed = 0 ∧ (s.line i).tone.cid.window = .closed ∧
        (s.line i).override = .none ∧ cp = s.route i (cadenceClass (s.line i).ring.durs 1 s.patterns) (c.cid.getD
        { status := .none }) ∧ (cp.action = .reject ∨ (cp.action = .answer ∧ 1 < cp.rings.getD 1))) :=
  ⟨⟨{ (on0 {state := .alerting, ring := { burst := some 0, quiet := some 0, cycle := true }}) with now := 100 }, 0,
      0, 0, by decide⟩,
  ⟨(on0
      {
        state := .alerting, call := some sampleCall, ring := { gap := some 0, cycle := true }
        tone := { cid := { window := .open_ } } }), 0, 0, sampleCall, by decide⟩,
  ⟨(on0 {state := .alerting, call := some sampleCall, ring := { abandon := some 0 }}), 0, 0, by decide⟩,
  ⟨{ (on0 {
      state := .alerting, call := some { sampleCall with routing := some sampleCopy }
      ring := { gap := some 0, cycle := true, closed := 1 } }) with
    now := 1 }, 0, 0, { sampleCall with routing := some sampleCopy }, sampleCopy, 4, by decide⟩,
  ⟨{ (on0 {
      state := .alerting
      call := some { sampleCall with routing := some ⟨none, .answer, some 2, ⟨true, true, false⟩, 0, none, .none⟩ }
      ring := { gap := some 0, cycle := true, closed := 1 } }) with
    now := 1 }, 0, 0,
      { sampleCall with routing := some ⟨none, .answer, some 2, ⟨true, true, false⟩, 0, none, .none⟩ }, ⟨none,
      .answer, some 2, ⟨true, true, false⟩, 0, none, .none⟩, 2, by decide⟩,
  ⟨{ (on0 {
      state := .alerting
      call := some { sampleCall with routing := some { sampleCopy with action := .answerDrop, rings := none } }
      ring := { gap := some 0, cycle := true, closed := 1 } }) with
    now := 1 }, 0, 0, { sampleCall with routing := some { sampleCopy with action := .answerDrop, rings := none } },
      { sampleCopy with action := .answerDrop, rings := none }, by decide⟩,
  ⟨(on0
      {
        state := .alerting, call := some sampleCall, ring := { gap := some 0, cycle := true }
        tone := { cid := { window := .closed } } }), 0, 0, sampleCall, ⟨none, .answer, some 4, ⟨false, false, true⟩,
      0, none, .none⟩, by decide⟩⟩

theorem LoopDropReleases_met :
    (∃ (s : State) (i : LineId), (s.line i).state = .progress ∧ (s.line i).relay = true ∧ (s.line i).realLoop = true
        ∧ (s.line i).signals.loop = true) ∧
    (∃ (s : State) (i : LineId), (s.line i).state = .progress ∧ (s.line i).relay = true ∧ (s.line i).realLoop =
        false) ∧
    (∃ (s : State) (i : LineId) (d : Ms), (s.line i).loopTimer = some d ∧ d ≤ s.now) ∧
    (∃ (s : State) (i : LineId) (d : Ms), (s.line i).state = .release ∧ (s.line i).guard = some d ∧ d ≤ s.now ∧
        (s.line i).ring.burst = none) :=
  ⟨⟨(on0 {state := .progress, relay := true, realLoop := true, signals := { loop := true }}), 0, by decide⟩,
  ⟨(on0 {state := .progress, relay := true}), 0, by decide⟩,
  ⟨(on0 {state := .dialling, loopTimer := some 0}), 0, 0, by decide⟩,
  ⟨(on0 {state := .release, guard := some 0}), 0, 0, by decide⟩⟩

theorem DialTimings_met :
    (∃ (s : State) (i : LineId) (d : Ms), (s.line i).state = .seizing ∧ (s.line i).dialWait = some d ∧ d ≤ s.now ∧
        (s.line i).profile.blindDial = false) ∧
    (∃ (s : State) (i : LineId) (d : Ms) (n : Nat) (es : List DialElement), (s.line i).state = .seizing ∧ (s.line
        i).dialWait = some d ∧ d ≤ s.now ∧ (s.line i).profile.blindDial = true ∧ (s.line i).dialList = .pause n ::
        es ∧ (s.line i).dialPos = 0) ∧
    (∃ (s : State) (i : LineId) (u : Ms), (s.line i).dialStep = .await u ∧ u ≤ s.now) ∧
    (∃ (s : State) (i : LineId) (d : Ms), (s.line i).state = .progress ∧ (s.line i).answerWait = some d ∧ d ≤ s.now) ∧
    (∃ (s : State) (i : LineId) (left : Nat) (u : Ms), (s.line i).dialStep = .pulseBreak left u ∧ u ≤ s.now) ∧
    (∃ (s : State) (i : LineId) (left : Nat) (u : Ms), (s.line i).dialStep = .pulseMake left u ∧ u ≤ s.now) ∧
    (∃ (s : State) (i : LineId) (u : Ms), (s.line i).dialStep = .interdigit u ∧ u ≤ s.now) ∧
    (∃ (s : State) (i : LineId) (u : Ms), (s.line i).dialStep = .pause u ∧ u ≤ s.now) ∧
    (∃ (s : State) (i : LineId) (u : Ms), (s.line i).dialStep = .flash u ∧ u ≤ s.now) ∧
    (∃ (s : State) (i : LineId) (x : DigitTx), (s.line i).tone.digitTx = some x ∧ x.isOn = true ∧ x.until_ ≤ s.now) ∧
    (∃ (s : State) (i : LineId) (x : DigitTx) (d : Digit) (ds : List Digit), (s.line i).tone.digitTx = some x ∧
        x.isOn = false ∧ x.until_ ≤ s.now ∧ (s.line i).dialStep = .idle ∧ (s.line i).tone.sendQueue = d :: ds) :=
  ⟨⟨(on0 {state := .seizing, dialWait := some 0}), 0, 0, by decide⟩,
  ⟨(on0 {state := .seizing, dialWait := some 0, profile := { blindDial := true }, dialList := [.pause 1]}), 0, 0, 1,
      [], by decide⟩,
  ⟨(on0 {dialStep := .await 0}), 0, 0, by decide⟩,
  ⟨(on0 {state := .progress, answerWait := some 0}), 0, 0, by decide⟩,
  ⟨(on0 {dialStep := .pulseBreak 0 0}), 0, 0, 0, by decide⟩,
  ⟨(on0 {dialStep := .pulseMake 1 0}), 0, 1, 0, by decide⟩,
  ⟨(on0 {dialStep := .interdigit 0}), 0, 0, by decide⟩,
  ⟨(on0 {dialStep := .pause 0}), 0, 0, by decide⟩,
  ⟨(on0 {dialStep := .flash 0}), 0, 0, by decide⟩,
  ⟨(on0 {tone := { digitTx := some ⟨.d5, true, 0, 80⟩ }}), 0, ⟨.d5, true, 0, 80⟩, by decide⟩,
  ⟨(on0 {tone := { digitTx := some ⟨.d5, false, 0, 80⟩, sendQueue := [.d6] }}), 0, ⟨.d5, false, 0, 80⟩, .d6, [], by
      decide⟩⟩

theorem DialListGoesOn_met :
    (∃ (s : State) (i : LineId), (s.line i).dialList.length ≤ (s.line i).dialPos + 1) ∧
    (∃ (s : State) (i : LineId) (d : Digit) (n : Nat), (s.line i).dialList[(s.line i).dialPos + 1]? = some (.digit
        d) ∧ (s.line i).profile.dialMethod = .pulse ∧ digitBreaks? d = some n) ∧
    (∃ (s : State) (i : LineId) (d : Digit), (s.line i).dialList[(s.line i).dialPos + 1]? = some (.digit d) ∧
        (s.line i).profile.dialMethod = .tone) ∧
    (∃ (s : State) (i : LineId), (s.line i).dialList[(s.line i).dialPos + 1]? = some .awaitTone) ∧
    (∃ (s : State) (i : LineId), (s.line i).dialList[(s.line i).dialPos + 1]? = some .flash) :=
  ⟨⟨(on0 {dialList := [.flash]}), 0, by decide⟩,
  ⟨(on0 {dialList := [.flash, .digit .d0], profile := { dialMethod := .pulse }}), 0, .d0, 10, by decide⟩,
  ⟨(on0 {dialList := [.flash, .digit .ld]}), 0, .ld, by decide⟩,
  ⟨(on0 {dialList := [.flash, .awaitTone]}), 0, by decide⟩,
  ⟨(on0 {dialList := [.flash, .flash]}), 0, by decide⟩⟩

theorem ToneMatchingInSeizing_met :
    (∃ (s : State) (i : LineId) (e : ToneEntry) (m : Matcher) (heard : List HeardTone), e.isOn heard = true ∧
        (s.line i).tone.matchers = [m] ∧ s.toneTable = [e] ∧ m.id = e.id ∧ m.det = false ∧ m.phase = .waiting ∧
        e.cls ≠ .ringback) ∧
    (∃ (s : State) (i : LineId) (e : ToneEntry) (m : Matcher) (b : Ms), (s.line i).state = .seizing ∧ (s.line
        i).voice = {} ∧ (s.line i).tone.matchers = [m] ∧ s.toneTable = [e] ∧ m.id = e.id ∧ e.cls = .busy ∧
        e.continuous = false ∧ m.phase = .off b false ∧ b + (e.segment m.seg).offMin ≤ s.now ∧ m.seg + 1 =
        e.cadence.length ∧ m.reps + 1 = e.confirm) ∧
    (∃ (s : State) (i : LineId) (e : ToneEntry) (m : Matcher) (b : Nat) (n : Nat), (s.line i).state = .seizing ∧
        (s.line i).voice = {} ∧ (s.line i).tone.matchers = [m] ∧ s.toneTable = [e] ∧ m.id = e.id ∧ e.cls = .dial ∧
        e.continuous = true ∧ m.phase = .on b ∧ b + (e.segment m.seg).onMin ≤ s.now ∧ (s.line i).dialList = [.pause
        n] ∧ (s.line i).dialPos = 0) ∧
    (∃ (s : State) (i : LineId) (e : ToneEntry) (m : Matcher) (heard : List HeardTone) (already : Bool), e.isOn
        heard = false ∧ (s.line i).tone.matchers = [m] ∧ s.toneTable = [e] ∧ m.id = e.id ∧ m.det = true ∧
        e.continuous = true ∧ e.cls ≠ .ringback ∧ m.phase = .confirmed) ∧
    (∃ (s : State) (i : LineId) (e : ToneEntry) (m : Matcher) (heard : List HeardTone), e.isOn heard = true ∧
        (s.line i).tone.matchers = [m] ∧ s.toneTable = [e] ∧ m.id = e.id ∧ m.det = false) :=
  ⟨⟨{ (on0 {state := .seizing, tone := { matchers := [{ id := 1 }] }}) with toneTable := [sampleTone .busy] }, 0,
      sampleTone .busy, { id := 1 }, [⟨350000, -1500⟩, ⟨446600, -1500⟩], by decide⟩,
  ⟨{ (on0 {state := .seizing, tone := { matchers := [{ id := 1, phase := .off 0 false }] }}) with
    toneTable := [sampleTone .busy], now := 400 }, 0, sampleTone .busy, { id := 1, phase := .off 0 false }, 0, by
      decide⟩,
  ⟨{ (on0 {state := .seizing, dialList := [.pause 1], tone := { matchers := [{ id := 1, phase := .on 0 }] }}) with
    toneTable := [{ sampleTone .dial with cadence := [⟨1000, 2000, 0, 0⟩] }], now := 1000 }, 0,
      { sampleTone .dial with cadence := [⟨1000, 2000, 0, 0⟩] }, { id := 1, phase := .on 0 }, 0, 1, by decide⟩,
  ⟨{ (on0 {state := .seizing, tone := { matchers := [{ id := 1, det := true, phase := .confirmed }] }}) with
    toneTable := [{ sampleTone .dial with cadence := [⟨1000, 2000, 0, 0⟩] }] }, 0,
      { sampleTone .dial with cadence := [⟨1000, 2000, 0, 0⟩] }, { id := 1, det := true, phase := .confirmed },
      [⟨350000, -1501⟩, ⟨440000, -1500⟩], false, by decide⟩,
  ⟨{ (on0 {state := .seizing, tone := { matchers := [{ id := 1 }] }}) with toneTable := [sampleTone .busy] }, 0,
      sampleTone .busy, { id := 1 }, [⟨350000, -1500⟩, ⟨446600, -1500⟩], by decide⟩⟩

theorem ToneSendingAndNoiseFloor_met :
    (∃ (s : State) (i : LineId) (g : ToneGen), (s.line i).tone.gen = some g ∧ g.stopAt ≤ s.now ∧ (s.line
        i).tone.echoGen = none) ∧
    (∃ (s : State) (i : LineId) (p : Int), (s.line i).state = .progress ∧ (s.line i).tone.frameStart + 32 ≤ s.now ∧
        (s.line i).watch = none ∧ (s.line i).voice = {} ∧ (s.line i).tone.frameBusy = false ∧ clampPower p < (s.line
        i).tone.nf + (s.line i).profile.speechMarginDb) ∧
    (∃ (s : State) (i : LineId) (p : Int), (s.line i).state = .progress ∧ (s.line i).tone.frameStart + 32 ≤ s.now ∧
        (s.line i).watch = none ∧ (s.line i).voice = {} ∧ (s.line i).tone.frameBusy = true) ∧
    (∃ (l : Line) (x : DigitTx), l.tone.digitTx = some x ∧ l.state ≠ .offline) ∧
    (∃ (l : Line) (g : ToneGen), l.tone.digitTx = none ∧ l.tone.gen = some g ∧ l.tone.echoGen = none ∧ l.state ≠
        .offline) ∧
    (∃ (table : List ToneEntry) (now : Ms) (len : Ms) (e : ToneEntry), e ∈ table ∧ e.cadence ≠ [] ∧ e.continuous =
        false ∧ (∀ e' ∈ table, e'.cls = e.cls → e.id < e'.id ∨ e' = e)) ∧
    (∃ (table : List ToneEntry) (now : Ms) (len : Ms) (e : ToneEntry), e ∈ table ∧ e.continuous = true ∧ (∀ e' ∈
        table, e'.cls = e.cls → e.id < e'.id ∨ e' = e)) ∧
    (∃ (table : List ToneEntry) (now : Ms) (len : Ms) (c : ToneClass), (∀ e ∈ table, e.cls ≠ c)) ∧
    (∃ (s : State) (i : LineId) (g : ToneGen) (e : ToneGen), (s.line i).tone.gen = some g ∧ (s.line i).tone.echoGen
        = some e ∧ s.now < g.stopAt ∧ e.stopAt ≤ s.now ∧ (∀ d ∈ g.segEnd, s.now < d)) ∧
    (∃ (s : State) (i : LineId) (g : ToneGen) (d : Nat) (on : Nat) (off : Nat), (s.line i).tone.gen = some g ∧
        (s.line i).tone.echoGen = none ∧ s.now < g.stopAt ∧ g.segEnd = some d ∧ d ≤ s.now ∧ g.isOn = true ∧
        g.cadence[g.seg]? = some (on, off)) ∧
    (∃ (s : State) (i : LineId) (g : ToneGen) (d : Nat) (on : Nat) (off : Nat), (s.line i).tone.gen = some g ∧
        (s.line i).tone.echoGen = none ∧ s.now < g.stopAt ∧ g.segEnd = some d ∧ d ≤ s.now ∧ g.isOn = false ∧
        g.cadence[(g.seg + 1) % g.cadence.length]? = some (on, off) ∧ g.seg < g.cadence.length) ∧
    (∃ (l : Line) (g : ToneGen) (e : ToneGen), l.tone.digitTx = none ∧ l.tone.gen = some g ∧ l.tone.echoGen = some e
        ∧ l.state ≠ .offline ∧ g.f2 = none ∧ e.f2 = none ∧ g.isOn = true ∧ e.isOn = true) ∧
    (∃ (l : Line), l.state = .offline) :=
  ⟨⟨(on0
      {
        tone := {
          gen := some {
            cls := .dataAnswer, f1 := 2100, f2 := none, cadence := [], stopAt := 0, seg := 0, isOn := true
            segEnd := none } } }), 0,
      {
        cls := .dataAnswer, f1 := 2100, f2 := none, cadence := [], stopAt := 0, seg := 0, isOn := true
        segEnd := none }, by decide⟩,
  ⟨{ (on0 {state := .progress}) with now := 32 }, 0, -49, by decide⟩,
  ⟨{ (on0 {state := .progress, tone := { frameBusy := true }}) with now := 32 }, 0, 0, by decide⟩,
  ⟨{ state := .idle, tone := { digitTx := some ⟨.d5, true, 0, 80⟩ } }, ⟨.d5, true, 0, 80⟩, by decide⟩,
  ⟨{
    state := .idle
    tone := {
      gen := some {
        cls := .dataAnswer, f1 := 2100, f2 := none, cadence := [], stopAt := 0, seg := 0, isOn := true
        segEnd := none } } },
      {
        cls := .dataAnswer, f1 := 2100, f2 := none, cadence := [], stopAt := 0, seg := 0, isOn := true
        segEnd := none }, by decide⟩,
  ⟨[sampleTone .dial], 0, 0, sampleTone .dial, by decide⟩,
  ⟨[{ sampleTone .dial with cadence := [⟨1000, 2000, 0, 0⟩] }], 0, 0,
      { sampleTone .dial with cadence := [⟨1000, 2000, 0, 0⟩] }, by decide⟩,
  ⟨[sampleTone .dial], 0, 0, .busy, by decide⟩,
  ⟨(on0
      {
        tone := {
          gen := some {
            cls := .dataAnswer, f1 := 2100, f2 := none, cadence := [], stopAt := 1, seg := 0, isOn := true
            segEnd := none }
          echoGen := some {
            cls := .dataAnswer, f1 := 2100, f2 := none, cadence := [], stopAt := 0, seg := 0, isOn := true
            segEnd := none } } }), 0,
      {
        cls := .dataAnswer, f1 := 2100, f2 := none, cadence := [], stopAt := 1, seg := 0, isOn := true
        segEnd := none },
      {
        cls := .dataAnswer, f1 := 2100, f2 := none, cadence := [], stopAt := 0, seg := 0, isOn := true
        segEnd := none }, by decide⟩,
  ⟨{ (on0 {
      tone := {
        gen := some {
          cls := .busy, f1 := 480, f2 := none, cadence := [(500, 500)], stopAt := 3000, seg := 0, isOn := true
          segEnd := some 500 } } }) with
    now := 500 }, 0,
      {
        cls := .busy, f1 := 480, f2 := none, cadence := [(500, 500)], stopAt := 3000, seg := 0, isOn := true
        segEnd := some 500 }, 500, 500, 500, by decide⟩,
  ⟨{ (on0 {
      tone := {
        gen := some {
          cls := .busy, f1 := 480, f2 := none, cadence := [(500, 500)], stopAt := 3000, seg := 0, isOn := false
          segEnd := some 500 } } }) with
    now := 500 }, 0,
      {
        cls := .busy, f1 := 480, f2 := none, cadence := [(500, 500)], stopAt := 3000, seg := 0, isOn := false
        segEnd := some 500 }, 500, 500, 500, by decide⟩,
  ⟨{
    state := .loopback
    tone := {
      gen := some {
        cls := .dataAnswer, f1 := 2100, f2 := none, cadence := [], stopAt := 1, seg := 0, isOn := true
        segEnd := none }
      echoGen := some {
        cls := .dataAnswer, f1 := 2100, f2 := none, cadence := [], stopAt := 0, seg := 0, isOn := true
        segEnd := none } } },
      {
        cls := .dataAnswer, f1 := 2100, f2 := none, cadence := [], stopAt := 1, seg := 0, isOn := true
        segEnd := none },
      {
        cls := .dataAnswer, f1 := 2100, f2 := none, cadence := [], stopAt := 0, seg := 0, isOn := true
        segEnd := none }, by decide⟩,
  ⟨{}, by decide⟩⟩

theorem CallerIdentityWindow_met :
    (∃ (s : State) (i : LineId) (heard : List HeardTone), (s.line i).tone.cid.window = .open_ ∧ (s.line
        i).tone.cid.cond = .hunting 0 ∧ heard.length = 60 ∧ (∀ p ∈ heard, signalBit? p = some true)) ∧
    (∃ (s : State) (i : LineId) (c : CallRecord) (body : List Byte) (msg : List Byte) (check : Byte) (heard : List
        HeardTone) (r : CidRecord), (s.line i).tone.cid.window = .open_ ∧ (s.line i).tone.cid.cond = .synchronised ∧
        (s.line i).tone.cid.bytes = [] ∧ body.length ≤ 255 ∧ msg = 0x3A :: byte body.length :: (body ++ [check]) ∧
        heard.map signalBit? = (msg.flatMap (fun b => false :: (List.range 8).map (fun k => b.getLsbD k) ++
        [true])).map some ∧ r = cidMessage msg ∧ (s.line i).call = some c ∧ (s.line i).ring.closed = 0) ∧
    (∃ (bytes : List Byte), (bytes.map BitVec.toNat).sum % 256 ≠ 0) ∧
    (∃ (fs : List (Byte × List Byte)) (body : List Byte) (check : Byte), (∀ f ∈ fs, f.2.length ≤ 255) ∧ body =
        fs.flatMap (fun f => f.1 :: byte f.2.length :: f.2) ∧ ((0x3A :: byte body.length :: (body ++ [check])).map
        BitVec.toNat).sum % 256 = 0) ∧
    (∃ (fs : List (Byte × List Byte)) (body : List Byte) (cs : List Byte) (code : Byte) (len : Byte) (check : Byte),
        (∀ f ∈ fs, f.2.length ≤ 255) ∧ body = fs.flatMap (fun f => f.1 :: byte f.2.length :: f.2) ++ code :: len ::
        cs ∧ cs.length < len.toNat) ∧
    (∃ (r : CidRecord) (mo : Nat) (da : Nat) (ho : Nat) (mi : Nat), mo < 100 ∧ da < 100 ∧ ho < 100 ∧ mi < 100) ∧
    (∃ (s : State) (i : LineId) (d : Ms) (c : CallRecord) (copy : RoutingCopy), (s.line i).state = .alerting ∧
        (s.line i).tone.cid.window = .open_ ∧ (s.line i).tone.cid.wait = some d ∧ d ≤ s.now ∧ (s.line
        i).tone.cid.bytes = [] ∧ (s.line i).call = some c ∧ c.routing = none ∧ 1 ≤ (s.line i).ring.closed ∧ (s.line
        i).override = .none ∧ copy = s.route i (c.cadence.getD .pending) { status := .none } ∧ (copy.action =
        .reject ∨ (s.line i).ring.burst.isSome = true ∨ (copy.action = .answer ∧ (s.line i).ring.closed <
        copy.rings.getD 1))) ∧
    (∃ (s : State) (i : LineId) (d : Ms) (c : CallRecord) (copy : RoutingCopy), (s.line i).state = .alerting ∧
        (s.line i).tone.cid.window = .open_ ∧ (s.line i).tone.cid.wait = some d ∧ d ≤ s.now ∧ (s.line
        i).tone.cid.bytes = [] ∧ (s.line i).call = some c ∧ c.routing = none ∧ 1 ≤ (s.line i).ring.closed ∧ (s.line
        i).override = .none ∧ copy = s.route i (c.cadence.getD .pending) { status := .none } ∧ (s.line i).ring.burst
        = none ∧ copy.action = .answerDrop) ∧
    (∃ (s : State) (i : LineId) (d : Ms) (c : CallRecord) (copy : RoutingCopy), (s.line i).state = .alerting ∧
        (s.line i).tone.cid.window = .open_ ∧ (s.line i).tone.cid.wait = some d ∧ d ≤ s.now ∧ (s.line
        i).tone.cid.bytes = [] ∧ (s.line i).call = some c ∧ c.routing = none ∧ 1 ≤ (s.line i).ring.closed ∧ (s.line
        i).override = .none ∧ copy = s.route i (c.cadence.getD .pending) { status := .none } ∧ (s.line i).ring.burst
        = none ∧ copy.action = .answer ∧ copy.rings.getD 1 ≤ (s.line i).ring.closed ∧ copy.mask = ⟨true, true,
        false⟩) ∧
    (∃ (s : State) (i : LineId) (d : Ms) (c : CallRecord) (copy : RoutingCopy) (id : Nat) (e : Entry), (s.line
        i).state = .alerting ∧ (s.line i).tone.cid.window = .open_ ∧ (s.line i).tone.cid.wait = some d ∧ d ≤ s.now ∧
        (s.line i).tone.cid.bytes = [] ∧ (s.line i).call = some c ∧ c.routing = none ∧ 1 ≤ (s.line i).ring.closed ∧
        (s.line i).override = .none ∧ copy = s.route i (c.cadence.getD .pending) { status := .none } ∧ (s.line
        i).ring.burst = none ∧ copy.action = .answer ∧ copy.rings.getD 1 ≤ (s.line i).ring.closed ∧ copy.mask.voice
        = true ∧ copy.greeting = some id ∧ s.entry? id = some e ∧ s.store.formatted = true ∧ e.kind = .greeting ∧
        e.state ≠ .opened ∧ s.hasArea i .stage = true) ∧
    (∃ (s : State) (i : LineId) (d : Ms) (c : CallRecord) (copy : RoutingCopy), (s.line i).state = .alerting ∧
        (s.line i).tone.cid.window = .open_ ∧ (s.line i).tone.cid.wait = some d ∧ d ≤ s.now ∧ (s.line
        i).tone.cid.bytes = [] ∧ (s.line i).call = some c ∧ c.routing = none ∧ 1 ≤ (s.line i).ring.closed ∧ (s.line
        i).override = .none ∧ copy = s.route i (c.cadence.getD .pending) { status := .none } ∧ (s.line i).ring.burst
        = none ∧ copy.action = .answer ∧ copy.rings.getD 1 ≤ (s.line i).ring.closed ∧ copy.mask = ⟨false, true,
        false⟩ ∧ s.incomingReady i (s.line i).copies .fax = true ∧ s.faxLadder ≠ []) :=
  ⟨⟨(on0 {tone := { cid := { window := .open_ } }}), 0, List.replicate 60 ⟨1200000, -4000⟩, by decide⟩,
  ⟨(on0 {call := some sampleCall, tone := { cid := { window := .open_, cond := .synchronised } }}), 0, sampleCall,
      [0x22, 0x02, 0x31, 0x32], [0x3A, 0x04, 0x22, 0x02, 0x31, 0x32, 0x3B], 0x3B, [0x3A, 0x04, 0x22, 0x02, 0x31,
      0x32, 0x3B].flatMap (fun b : Byte => (false :: (List.range 8).map (fun k => b.getLsbD k) ++ [true]).map (fun m
      => ⟨if m then 1200000 else 2200000, -4000⟩)), cidMessage [0x3A, 0x04, 0x22, 0x02, 0x31, 0x32, 0x3B], by
      decide⟩,
  ⟨[1], by decide⟩,
  ⟨[(0x22, [0x31, 0x32])], [0x22, 0x02, 0x31, 0x32], 0x3B, by decide⟩,
  ⟨[(0x22, [0x31])], [0x22, 0x01, 0x31, 0x23, 0x01], [], 0x23, 0x01, 0x00, by decide⟩,
  ⟨{ status := .complete }, 12, 31, 23, 59, by decide⟩,
  ⟨(on0
      {
        state := .alerting, call := some sampleCall, ring := { closed := 1 }
        tone := { cid := { window := .open_, wait := some 0 } } }), 0, 0, sampleCall, ⟨none, .answer, some 4,
      ⟨false, false, true⟩, 0, none, .none⟩, by decide⟩,
  ⟨{ (on0 {
      state := .alerting, call := some sampleCall, ring := { closed := 1 }
      tone := { cid := { window := .open_, wait := some 0 } } }) with
    routes := [{ sampleRoute with action := .answerDrop, rings := none }] }, 0, 0, sampleCall, ⟨some 0, .answerDrop,
      none, ⟨false, false, true⟩, 0, none, .none⟩, by decide⟩,
  ⟨{ (on0 {
      state := .alerting, call := some sampleCall, ring := { closed := 1 }
      tone := { cid := { window := .open_, wait := some 0 } } }) with
    routes := [{ sampleRoute with rings := some 1, mask := ⟨true, true, false⟩ }] }, 0, 0, sampleCall, ⟨some 0,
      .answer, some 1, ⟨true, true, false⟩, 0, none, .none⟩, by decide⟩,
  ⟨(({ (on0 {
      state := .alerting, call := some sampleCall, ring := { closed := 1 }
      tone := { cid := { window := .open_, wait := some 0 } } }) with
    routes := [{ sampleRoute with rings := some 1, greeting := some 1 }]
    store := { formatted := true, dir := [{ sampleEntry with kind := .greeting, state := .kept }] } } :
      State).setArea 0 { isDefined := true, units := 8, join := some (0, .stage) }), 0, 0, sampleCall, ⟨some 0,
      .answer, some 1, ⟨false, false, true⟩, 0, some 1, .none⟩, 1,
      { sampleEntry with kind := .greeting, state := .kept }, by decide⟩,
  ⟨(({ (on0 {
      state := .alerting, call := some sampleCall, ring := { closed := 1 }
      tone := { cid := { window := .open_, wait := some 0 } } }) with
    routes := [{ sampleRoute with rings := some 1, mask := ⟨false, true, false⟩ }], faxLadder := [⟨300, 0, 1, 0⟩] }
      : State).setArea 0 { isDefined := true, units := 8, join := some (0, .stage) }), 0, 0, sampleCall, ⟨some 0,
      .answer, some 1, ⟨false, true, false⟩, 0, none, .none⟩, by decide⟩⟩

theorem ClassificationEnds_met :
    (∃ (s : State) (i : LineId) (d : Ms) (c : RoutingCopy), (s.line i).state = .classify ∧ (s.line i).routing = some
        c ∧ c.action ≠ .answerDrop ∧ (s.line i).classifyTimer = some d ∧ d ≤ s.now) ∧
    (∃ (s : State) (i : LineId) (j : Job) (b : Basis), s.incomingReady i (s.line i).copies j = false) ∧
    (∃ (s : State) (i : LineId) (d : Ms), (s.line i).state = .classify ∧ (s.line i).dropTimer = some d ∧ d ≤ s.now) ∧
    (∃ (s : State) (i : LineId) (b : Basis), (s.line i).state = .classify ∧ (s.line i).call.isSome = true ∧
        s.incomingReady i (s.line i).copies .data = true ∧ s.dataLadder ≠ []) ∧
    (∃ (s : State) (i : LineId) (b : Basis), (s.line i).state = .classify ∧ (s.line i).call.isSome = true ∧
        s.incomingReady i (s.line i).copies .fax = true ∧ s.faxLadder ≠ []) ∧
    (∃ (s : State) (i : LineId) (b : Basis), (s.line i).state = .classify ∧ (s.line i).call.isSome = true ∧
        s.incomingReady i (s.line i).copies .voice = true ∧ (s.line i).voice.barge = false ∧ (s.line
        i).voice.activity = .none ∧ 0 < (s.line i).profile.recordToneMs) ∧
    (∃ (s : State) (i : LineId) (e : ToneEntry) (m : Matcher) (b : Ms), (s.line i).state = .progress ∧ (s.line
        i).tone.matchers = [m] ∧ s.toneTable = [e] ∧ m.id = e.id ∧ e.cls = .dataAnswer ∧ e.continuous = true ∧
        m.phase = .on b ∧ b + (e.segment m.seg).onMin ≤ s.now ∧ (s.line i).voice.activity = .none ∧ (s.line i).job ≠
        .none ∧ s.dataLadder ≠ [] ∧ s.faxLadder ≠ []) :=
  ⟨⟨(on0
      {state := .classify, call := some { sampleCall with routing := some sampleCopy }, classifyTimer := some 0}),
      0, 0, sampleCopy, by decide⟩,
  ⟨(on0 {state := .classify}), 0, .voice, .timeout, by decide⟩,
  ⟨(on0 {state := .classify, dropTimer := some 0}), 0, 0, by decide⟩,
  ⟨({ (((on0 {
      state := .classify, call := some sampleCall }).setArea
      0 {
        isDefined := true, units := 2, join := some (0, .tx) }).setArea
        1 { isDefined := true, units := 2, join := some (0, .rx) }) with
    dataLadder := [⟨300, 0, 1, 0⟩] } : State), 0, .tone, by decide⟩,
  ⟨({ ((on0 {
      state := .classify, call := some sampleCall }).setArea
      0 { isDefined := true, units := 8, join := some (0, .stage) }) with
    faxLadder := [⟨300, 0, 1, 0⟩] } : State), 0, .tone, by decide⟩,
  ⟨((on0 {state := .classify, call := some sampleCall}).setArea 0
      { isDefined := true, units := 8, join := some (0, .stage) }), 0, .tone, by decide⟩,
  ⟨({ (on0 {state := .progress, job := .data, tone := { matchers := [{ id := 1, phase := .on 0 }] }}) with
    toneTable := [{ sampleTone .dataAnswer with cadence := [⟨1000, 2000, 0, 0⟩] }], now := 1000
    dataLadder := [⟨300, 0, 1, 0⟩], faxLadder := [⟨300, 0, 1, 0⟩] } : State), 0,
      { sampleTone .dataAnswer with cadence := [⟨1000, 2000, 0, 0⟩] }, { id := 1, phase := .on 0 }, 0, by decide⟩⟩

theorem RoutingTableDirectives_met :
    (∃ (s : State) (d : Directive) (p : Nat), s.takes ∧ d.line = 0x0E ∧ (argNum 1).read d.args = .good p) ∧
    (∃ (s : State) (d : Directive), s.takes ∧ d.line = 0x0E ∧ d.args = []) ∧
    (∃ (s : State) (d : Directive), s.takes ∧ d.line ≠ 0x0E) :=
  ⟨⟨{ routes := [sampleRoute] }, ⟨0x0E, 9, [0]⟩, 0, by decide⟩,
  ⟨{}, ⟨0x0E, 9, []⟩, by decide⟩,
  ⟨{}, ⟨0x0F, 9, []⟩, by decide⟩⟩

theorem RoutingTakesFirstMatch_met :
    (∃ (s : State) (i : LineId) (cls : CadenceClass) (r : CidRecord) (n : Nat) (e : RouteEntry), (s.line
        i).profile.answerEnable = true ∧ s.routes[n]? = some e ∧ e.matches_ i cls r s.clock = true ∧ (∀ m e', m < n
        → s.routes[m]? = some e' → e'.matches_ i cls r s.clock = false)) ∧
    (∃ (s : State) (i : LineId) (cls : CadenceClass) (r : CidRecord), (s.line i).profile.answerEnable = true ∧ (∀ e
        ∈ s.routes, e.matches_ i cls r s.clock = false)) ∧
    (∃ (s : State) (i : LineId) (cls : CadenceClass) (r : CidRecord), (s.line i).profile.answerEnable = false) ∧
    (∃ (c : Clock) (a : Nat) (b : Nat), c.isSet = true) ∧
    (∃ (c : Clock) (a : Nat) (b : Nat), c.isSet = false) ∧
    (∃ (s : State) (d : Directive) (a : RouteArgs) (e : RouteEntry), s.takes ∧ d.line = 0x0E ∧ argRoute.read d.args
        = .good a ∧ a.entry = some e ∧ s.routes.length < 24 ∧ a.position ≤ s.routes.length) ∧
    (∃ (s : State) (d : Directive) (a : RouteArgs) (e : RouteEntry), s.takes ∧ d.line = 0x0E ∧ argRoute.read d.args
        = .good a ∧ a.entry = some e ∧ 24 ≤ s.routes.length) ∧
    (∃ (s : State) (i : LineId) (d : Directive) (c : CadenceClass) (a : CidArgs) (r : CidRecord), s.takes ∧ lineOf?
        d.line = some i ∧ argRouteTest.read d.args = .good (some c, a) ∧ a.record = some r) ∧
    (∃ (s : State) (d : Directive) (a : RouteArgs), s.takes ∧ d.line = 0x0E ∧ argRoute.read d.args = .good a ∧
        (a.entry = none ∨ (s.routes.length < 24 ∧ s.routes.length < a.position))) ∧
    (∃ (s : State) (d : Directive) (p : Nat) (e : RouteEntry), s.takes ∧ d.line = 0x0E ∧ (argNum 1).read d.args =
        .good p ∧ s.routes[p]? = some e) ∧
    (∃ (s : State) (d : Directive) (p : Nat), s.takes ∧ d.line = 0x0E ∧ (argNum 1).read d.args = .good p ∧
        s.routes.length ≤ p) ∧
    (∃ (s : State) (d : Directive), s.takes ∧ d.line ≠ 0x0E) :=
  ⟨⟨{ routes := [sampleRoute] }, 0, .unmatched, { status := .none }, 0, sampleRoute, ⟨by decide, by decide, by
      decide, fun m e' h => absurd h (Nat.not_lt_zero m)⟩⟩,
  ⟨{}, 0, .unmatched, { status := .none }, by decide⟩,
  ⟨(on0 {profile := { answerEnable := false }}), 0, .unmatched, { status := .none }, by decide⟩,
  ⟨⟨0, 0, true, 0⟩, 1439, 0, by decide⟩,
  ⟨⟨0, 0, false, 0⟩, 0, 0, by decide⟩,
  ⟨{ routes := List.replicate 23 sampleRoute }, ⟨0x0E, 9, [0, 1, 0, 0, 0, 0, 1, 4, 4, 0, 0]⟩, ⟨0, 1, some .any,
      .any, none, 0, some 4, 4, 0, none⟩, sampleRoute, by decide⟩,
  ⟨{ routes := List.replicate 24 sampleRoute }, ⟨0x0E, 9, [0, 1, 0, 0, 0, 0, 1, 4, 4, 0, 0]⟩, ⟨0, 1, some .any,
      .any, none, 0, some 4, 4, 0, none⟩, sampleRoute, by decide⟩,
  ⟨{}, 0, ⟨0, 9, [0, 2, 0, 0, 0, 0, 0]⟩, .pending, ⟨2, none, none, none, none, none⟩, { status := .none }, by decide⟩,
  ⟨{}, ⟨0x0E, 9, [1, 1, 0, 0, 0, 0, 1, 4, 4, 0, 0]⟩, ⟨1, 1, some .any, .any, none, 0, some 4, 4, 0, none⟩, by decide⟩,
  ⟨{ routes := [sampleRoute] }, ⟨0x0E, 9, [0]⟩, 0, sampleRoute, by decide⟩,
  ⟨{}, ⟨0x0E, 9, [0]⟩, 0, by decide⟩,
  ⟨{}, ⟨0x0F, 9, []⟩, by decide⟩⟩

theorem ClockAndAreaDirectives_met :
    (∃ (s : State) (d : Directive) (m : Nat) (day : Nat), s.takes ∧ d.line = 0x0E ∧ argClock.read d.args = .good (m,
        day)) ∧
    (∃ (s : State) (d : Directive) (k : AreaId) (st : Nat) (n : Nat), s.takes ∧ d.line = 0x0E ∧ argDefine.read
        d.args = .good ⟨k.val, st, n, none, none⟩ ∧ 1 ≤ n ∧ st + n ≤ 96 ∧ s.extentFree k st n = true ∧ (s.area
        k).join = none ∧ (s.area k).flow = .go) ∧
    (∃ (s : State) (d : Directive) (k : AreaId) (st : Nat) (n : Nat), s.takes ∧ d.line = 0x0E ∧ argDefine.read
        d.args = .good ⟨k.val, st, n, none, none⟩ ∧ 1 ≤ n ∧ st + n ≤ 96 ∧ s.extentFree k st n = false) ∧
    (∃ (s : State) (i : LineId) (d : Directive) (k : AreaId) (n : Nat) (p : Purpose), s.takes ∧ lineOf? d.line =
        some i ∧ argPair.read d.args = .good (k.val, n) ∧ purpose? n = some p ∧ (s.area k).isDefined = true ∧
        p.minUnits ≤ (s.area k).units ∧ (s.area k).join = none ∧ s.joined i p = none ∧ (s.line i).job = .none) ∧
    (∃ (s : State) (d : Directive) (k : AreaId), s.takes ∧ d.line = 0x0E ∧ (argNum 1).read d.args = .good k.val ∧
        (s.area k).isDefined = true ∧ (s.area k).inUse = none) ∧
    (∃ (s : State) (d : Directive) (k : AreaId), s.takes ∧ d.line = 0x0E ∧ (argNum 1).read d.args = .good k.val ∧
        (s.area k).isDefined = true ∧ (s.area k).inUse = none ∧ (s.area k).join.isSome = true) ∧
    (∃ (s : State) (d : Directive) (k : AreaId), s.takes ∧ d.line = 0x0E ∧ (argNum 1).read d.args = .good k.val) ∧
    (∃ (s : State) (k : AreaId) (n : Nat) (m : Nat), m = min n (((s.area k).marks.head?.map Prod.fst).getD n) ∧ m ≤
        (s.area k).fifo.length ∧ 0 < m) ∧
    (∃ (s : State) (i : LineId) (p : Purpose) (k : AreaId) (f : FlowState), (s.area k).join = some (i, p) ∧ (s.area
        k).flow ≠ f ∧ (s.line i).profile.wants .flow = true ∧ (s.line i).queue.entries = []) :=
  ⟨⟨{}, ⟨0x0E, 9, [0x9F, 0x05, 0xFF, 0xFF]⟩, 1439, 65535, by decide⟩,
  ⟨{}, ⟨0x0E, 9, [0, 0, 96, 0, 0]⟩, 0, 0, 96, by decide⟩,
  ⟨(State.setArea {} 1 { isDefined := true, start := 95, units := 1 }), ⟨0x0E, 9, [0, 0, 96, 0, 0]⟩, 0, 0, 96, by
      decide⟩,
  ⟨(State.setArea {} 0 { isDefined := true, units := 2 }), 0, ⟨0, 9, [0, 0]⟩, 0, 0, .tx, by decide⟩,
  ⟨(State.setArea {} 0 { isDefined := true, units := 2 }), ⟨0x0E, 9, [0]⟩, 0, by decide⟩,
  ⟨(State.setArea {} 0 { isDefined := true, units := 2, join := some (0, .tx) }), ⟨0x0E, 9, [0]⟩, 0, by decide⟩,
  ⟨{}, ⟨0x0E, 9, [11]⟩, 11, by decide⟩,
  ⟨(State.setArea {} 0
      { isDefined := true, units := 2, join := some (0, .tx), fifo := [(0, 0), (1, 0)], marks := [(1, .last)] }), 0,
      2, 1, by decide⟩,
  ⟨(State.setArea {} 0 { isDefined := true, units := 2, join := some (0, .tx) }), 0, .tx, 0, .stop, by decide⟩⟩

theorem RateAndStatusDirectives_met :
    (∃ (s : State) (i : LineId) (d : Directive) (n : Nat), s.takes ∧ lineOf? d.line = some i ∧ argPair.read d.args =
        .good (n, 0) ∧ (s.line i).state = .data ∧ (s.line i).quality.rc = .steady ∧ (s.line i).link.txNow = none ∧
        (s.line i).link.rateWait = []) ∧
    (∃ (s : State) (i : LineId) (d : Directive) (n : Nat), s.takes ∧ lineOf? d.line = some i ∧ argPair.read d.args =
        .good (n, 1) ∧ (s.line i).state = .data ∧ (s.line i).quality.rc = .steady) ∧
    (∃ (s : State) (i : LineId) (d : Directive), s.takes ∧ lineOf? d.line = some i ∧ d.args = []) ∧
    (∃ (s : State) (i : LineId) (d : Directive), s.takes ∧ lineOf? d.line = some i ∧ d.args = []) ∧
    (∃ (s : State) (i : LineId) (d : Directive) (id : Nat), s.takes ∧ lineOf? d.line = some i ∧ (argNum 2).read
        d.args = .good id ∧ (s.line i).hostSender = true ∧ (s.line i).fax.begun = false ∧ (s.line i).fax.phase ≠
        .close ∧ (s.line i).fax.phase ≠ .page ∧ s.store.formatted = true ∧ s.sendable id = true ∧ s.hasArea i .stage
        = true) ∧
    (∃ (s : State) (i : LineId) (d : Directive) (id : Nat), s.takes ∧ lineOf? d.line = some i ∧ (argNum 2).read
        d.args = .good id ∧ (s.line i).hostSender = true ∧ (s.line i).fax.begun = true) ∧
    (∃ (s : State) (i : LineId) (d : Directive) (id : Nat) (e : Entry) (p : PageRecord) (k : AreaId), s.takes ∧
        lineOf? d.line = some i ∧ (argNum 2).read d.args = .good id ∧ (s.line i).hostSender = true ∧ (s.line
        i).fax.begun = false ∧ (s.line i).fax.phase = .page ∧ s.store.formatted = true ∧ s.sendable id = true ∧
        s.entry? id = some e ∧ e.pages[0]? = some p ∧ s.joined i .stage = some k) ∧
    (∃ (s : State) (i : LineId) (d : Directive) (id : Nat), s.takes ∧ lineOf? d.line = some i ∧ (argNum 2).read
        d.args = .good id ∧ (s.line i).hostSender = false) ∧
    (∃ (s : State) (i : LineId) (d : Directive) (id : Nat), s.takes ∧ lineOf? d.line = some i ∧ (argNum 2).read
        d.args = .good id ∧ (s.line i).hostSender = true ∧ (s.line i).fax.phase = .close) ∧
    (∃ (s : State) (i : LineId) (d : Directive) (id : Nat), s.takes ∧ lineOf? d.line = some i ∧ (argNum 2).read
        d.args = .good id ∧ (s.line i).hostSender = true ∧ (s.line i).fax.begun = false ∧ (s.line i).fax.phase ≠
        .close ∧ s.store.formatted = false) ∧
    (∃ (s : State) (i : LineId) (d : Directive) (id : Nat), s.takes ∧ lineOf? d.line = some i ∧ (argNum 2).read
        d.args = .good id ∧ (s.line i).hostSender = true ∧ (s.line i).fax.begun = false ∧ (s.line i).fax.phase ≠
        .close ∧ s.store.formatted = true ∧ s.sendable id = false) ∧
    (∃ (s : State) (i : LineId) (d : Directive) (id : Nat), s.takes ∧ lineOf? d.line = some i ∧ (argNum 2).read
        d.args = .good id ∧ (s.line i).hostSender = true ∧ (s.line i).fax.begun = false ∧ (s.line i).fax.phase ≠
        .close ∧ s.store.formatted = true ∧ s.sendable id = true ∧ s.hasArea i .stage = false) ∧
    (∃ (s : State) (d : Directive), s.takes ∧ (d.line = 0x0E ∨ d.line = 0x0F)) :=
  ⟨⟨(on0 {state := .data, quality := { rc := .steady }}), 0, ⟨0, 9, [255, 0]⟩, 255, by decide⟩,
  ⟨(on0 {state := .data, quality := { rc := .steady }}), 0, ⟨0, 9, [0, 1]⟩, 0, by decide⟩,
  ⟨{}, 0, ⟨0, 9, []⟩, by decide⟩,
  ⟨{}, 3, ⟨3, 9, []⟩, by decide⟩,
  ⟨(({ (on0 {
      job := .fax, fax := { role := some .sender, source := some .host, phase := .afterPage, begun := false } })
      with
    store := { formatted := true, dir := [{ sampleEntry with kind := .fax, state := .new }] } } : State).setArea 0
      { isDefined := true, units := 8, join := some (0, .stage) }), 0, ⟨0, 9, [1, 0]⟩, 1, by decide⟩,
  ⟨(({ (on0 {
      job := .fax, fax := { role := some .sender, source := some .host, phase := .afterPage, begun := true } }) with
    store := { formatted := true, dir := [{ sampleEntry with kind := .fax, state := .new }] } } : State).setArea 0
      { isDefined := true, units := 8, join := some (0, .stage) }), 0, ⟨0, 9, [1, 0]⟩, 1, by decide⟩,
  ⟨(({ (on0 {job := .fax, fax := { role := some .sender, source := some .host, phase := .page }}) with
    store := {
      formatted := true, dir := [{ sampleEntry with kind := .fax, state := .new, pages := [⟨0, 7, .good, false⟩] }] } }
      : State).setArea 0 { isDefined := true, units := 8, join := some (0, .stage) }), 0, ⟨0, 9, [1, 0]⟩, 1,
      { sampleEntry with kind := .fax, state := .new, pages := [⟨0, 7, .good, false⟩] }, ⟨0, 7, .good, false⟩, 0, by
      decide⟩,
  ⟨{}, 0, ⟨0, 9, [1, 0]⟩, 1, by decide⟩,
  ⟨(on0 {job := .fax, fax := { role := some .sender, source := some .host, phase := .close }}), 0, ⟨0, 9, [1, 0]⟩,
      1, by decide⟩,
  ⟨(on0 {job := .fax, fax := { role := some .sender, source := some .host, phase := .page }}), 0, ⟨0, 9, [1, 0]⟩, 1,
      by decide⟩,
  ⟨({ (on0 {job := .fax, fax := { role := some .sender, source := some .host, phase := .page }}) with
    store := { formatted := true } } : State), 0, ⟨0, 9, [1, 0]⟩, 1, by decide⟩,
  ⟨({ (on0 {job := .fax, fax := { role := some .sender, source := some .host, phase := .page }}) with
    store := {
      formatted := true, dir := [{ sampleEntry with kind := .fax, state := .new, pages := [⟨0, 7, .good, false⟩] }] } }
      : State), 0, ⟨0, 9, [1, 0]⟩, 1, by decide⟩,
  ⟨{}, ⟨0x0E, 9, []⟩, by decide⟩⟩

theorem StoreFormatAndReports_met :
    (∃ (s : State) (d : Directive) (mib : Nat) (g : Nat), s.takes ∧ d.line = 0x0E ∧ argFormat.read d.args = .good
        (mib, some g) ∧ sizeLegal mib = true ∧ 1 ≤ g ∧ g ≤ 64 ∧ s.store.inUse = false) ∧
    (∃ (s : State) (d : Directive) (mib : Nat) (g : Nat), s.takes ∧ d.line = 0x0E ∧ argFormat.read d.args = .good
        (mib, some g) ∧ sizeLegal mib = true ∧ s.store.inUse = true) ∧
    (∃ (s : State) (d : Directive), s.takes ∧ d.line = 0x0E ∧ d.args = []) ∧
    (∃ (s : State) (d : Directive) (mb : Option Nat) (f : Nat) (start : Nat) (st : Option MsgState), s.takes ∧
        d.line = 0x0E ∧ argList.read d.args = .good (mb, f, start) ∧ stateFilter? f = some st ∧ (∀ m, mb = some m →
        m ≤ 15) ∧ s.store.formatted = true) ∧
    (∃ (s : State) (d : Directive) (id : Nat) (e : Entry), s.takes ∧ d.line = 0x0E ∧ (argNum 2).read d.args = .good
        id ∧ s.store.formatted = true ∧ s.entry? id = some e) ∧
    (∃ (s : State) (d : Directive) (id : Nat), s.takes ∧ d.line = 0x0E ∧ (argNum 2).read d.args = .good id ∧
        s.store.formatted = false) :=
  ⟨⟨{}, ⟨0x0E, 9, [16, 1, 64]⟩, 16, 64, by decide⟩,
  ⟨{ store := { transfer := .upload 1 0 } }, ⟨0x0E, 9, [2, 1, 1]⟩, 2, 1, by decide⟩,
  ⟨{}, ⟨0x0E, 9, []⟩, by decide⟩,
  ⟨{ store := { formatted := true } }, ⟨0x0E, 9, [0, 15, 3, 0]⟩, some 15, 3, 0, none, ⟨by decide, rfl, rfl, rfl, fun
      m h => by injection h with h; omega, rfl⟩⟩,
  ⟨{ store := { formatted := true, dir := [{ sampleEntry with state := .new }] } }, ⟨0x0E, 9, [1, 0]⟩, 1,
      { sampleEntry with state := .new }, by decide⟩,
  ⟨{}, ⟨0x0E, 9, [1, 0]⟩, 1, by decide⟩⟩

theorem MessageDirectives_met :
    (∃ (s : State) (d : Directive) (id : Nat) (n : Nat) (st : MsgState) (e : Entry), s.takes ∧ d.line = 0x0E ∧
        argMark.read d.args = .good (id, n) ∧ markState? n = some st ∧ s.store.formatted = true ∧ s.entry? id = some
        e ∧ e.state ≠ .opened) ∧
    (∃ (s : State) (d : Directive) (id : Nat) (e : Entry) (e' : Entry), s.takes ∧ d.line = 0x0E ∧ (argNum 2).read
        d.args = .good id ∧ s.store.formatted = true ∧ s.entry? id = some e ∧ e.state ≠ .opened ∧ e.marked = false ∧
        s.serveAll.entry? id = some e') ∧
    (∃ (s : State) (d : Directive) (id : Nat) (e : Entry), s.takes ∧ d.line = 0x0E ∧ (argNum 2).read d.args = .good
        id ∧ s.store.formatted = true ∧ s.entry? id = some e ∧ (e.state = .opened ∨ e.marked = true)) ∧
    (∃ (s : State) (d : Directive) (id : Nat) (o : Nat) (e : Entry), s.takes ∧ d.line = 0x0E ∧ argUpload.read d.args
        = .good (id, o) ∧ s.store.formatted = true ∧ s.store.transfer = .none ∧ s.entry? id = some e ∧ e.state ≠
        .opened ∧ o ≤ e.length) ∧
    (∃ (s : State) (d : Directive) (k : Nat) (mb : Nat) (bits : Nat) (kind : MsgKind), s.takes ∧ d.line = 0x0E ∧
        argDownload.read d.args = .good (k, mb, bits) ∧ soundKind? k = some kind ∧ mb ≤ 15 ∧ 2 ≤ bits ∧ bits ≤ 4 ∧
        s.store.formatted = true ∧ s.store.transfer = .none ∧ s.store.dir.length < 256 ∧ s.store.guard <
        s.store.free.length ∧ s.holdsOpen none = false) ∧
    (∃ (s : State) (d : Directive) (id : Nat) (pos : Nat), s.takes ∧ d.line = 0x0E ∧ d.args = [] ∧ s.store.formatted
        = true ∧ s.store.transfer = .upload id pos) ∧
    (∃ (s : State) (d : Directive) (id : Nat) (e : Entry), s.takes ∧ d.line = 0x0E ∧ d.args = [] ∧ s.store.formatted
        = true ∧ s.store.transfer = .download id ∧ s.entry? id = some e ∧ 0 < e.length) :=
  ⟨⟨{ store := { formatted := true, dir := [{ sampleEntry with state := .new }] } }, ⟨0x0E, 9, [1, 0, 1]⟩, 1, 1,
      .kept, { sampleEntry with state := .new }, by decide⟩,
  ⟨{ store := { formatted := true, dir := [{ sampleEntry with state := .new }] } }, ⟨0x0E, 9, [1, 0]⟩, 1,
      { sampleEntry with state := .new }, { sampleEntry with state := .new }, by decide⟩,
  ⟨{ store := { formatted := true, dir := [sampleEntry] } }, ⟨0x0E, 9, [1, 0]⟩, 1, sampleEntry, by decide⟩,
  ⟨{ store := { formatted := true, dir := [{ sampleEntry with state := .new }] } }, ⟨0x0E, 9, [1, 0, 0, 0, 0]⟩, 1,
      0, { sampleEntry with state := .new }, by decide⟩,
  ⟨{ store := { formatted := true, free := List.range 17 } }, ⟨0x0E, 9, [1, 15, 4]⟩, 1, 15, 4, .greeting, by decide⟩,
  ⟨{ store := { formatted := true, transfer := .upload 1 0 } }, ⟨0x0E, 9, []⟩, 1, 0, by decide⟩,
  ⟨{ store := { formatted := true, transfer := .download 1, dir := [{ sampleEntry with length := 1 }] } }, ⟨0x0E, 9,
      []⟩, 1, { sampleEntry with length := 1 }, by decide⟩⟩

theorem VoiceDirectives_met :
    (∃ (s : State) (i : LineId) (d : Directive) (k : Nat) (mb : Nat) (kind : MsgKind), s.takes ∧ lineOf? d.line =
        some i ∧ argRecord.read d.args = .good (some (k, mb)) ∧ soundKind? k = some kind ∧ mb ≤ 15 ∧ (s.line
        i).state = .voice ∧ (s.line i).voiceIdle = true ∧ s.store.formatted = true ∧ s.store.guard <
        s.store.free.length ∧ s.store.dir.length < 256 ∧ s.hasArea i .stage = true ∧ s.holdsOpen (some i) = false) ∧
    (∃ (s : State) (i : LineId) (d : Directive), s.takes ∧ lineOf? d.line = some i ∧ argRecord.read d.args = .good
        none ∧ (s.line i).state = .voice ∧ (s.line i).voiceIdle = true ∧ s.hasArea i .rx = true) ∧
    (∃ (s : State) (i : LineId) (d : Directive) (id : Nat) (rest : List Nat) (e : Entry), s.takes ∧ lineOf? d.line =
        some i ∧ argPlay.read d.args = .good (some (id :: rest)) ∧ rest.length < 8 ∧ (id :: rest).contains 0 = false
        ∧ (s.line i).state = .voice ∧ (s.line i).voiceIdle = true ∧ s.store.formatted = true ∧ s.hasArea i .stage =
        true ∧ s.playable id = some e) ∧
    (∃ (s : State) (i : LineId) (d : Directive), s.takes ∧ lineOf? d.line = some i ∧ d.args = [] ∧ (s.line i).state
        = .voice ∧ (s.line i).voice.mode = .host ∧ (s.line i).voice.activity = .none) ∧
    (∃ (s : State) (i : LineId) (d : Directive) (p : Playback), s.takes ∧ lineOf? d.line = some i ∧ d.args = [] ∧
        (s.line i).state = .voice ∧ (s.line i).voice.mode = .host ∧ (s.line i).voice.activity = .playing ∧ (s.line
        i).voice.playback = some p ∧ (s.line i).queue.entries = [] ∧ (s.line i).profile.wants .playDone = true ∧
        p.target = .host) ∧
    (∃ (s : State) (i : LineId) (d : Directive), s.takes ∧ lineOf? d.line = some i ∧ argPlay.read d.args = .good
        none ∧ (s.line i).state = .voice ∧ (s.line i).voiceIdle = true ∧ s.hasArea i .tx = true) ∧
    (∃ (s : State) (i : LineId) (p : Int) (r : Recording) (id : Nat) (c : Nat) (start : Nat), (s.line i).state =
        .voice ∧ (s.line i).voice.recording = some r ∧ r.ended = none ∧ r.entry = some id ∧ r.frameCount = some c ∧
        start = r.silentStart.getD c ∧ (s.line i).tone.frameStart + 32 ≤ s.now ∧ (s.line i).watch = none ∧
        clampPower p < max (-55) (min (-20) ((s.line i).tone.nf + (s.line i).profile.silenceMarginDb)) ∧
        r.silenceEndS * 1000 ≤ (r.silentFrames + 1) * 32) ∧
    (∃ (s : State) (i : LineId) (p : Int) (r : Recording) (id : Nat) (c : Nat) (start : Nat), (s.line i).state =
        .voice ∧ (s.line i).voice.recording = some r ∧ r.ended = none ∧ r.entry = some id ∧ r.frameCount = some c ∧
        (s.line i).tone.frameStart + 32 ≤ s.now ∧ (s.line i).watch = none ∧ start = r.silentStart.getD c) ∧
    (∃ (s : State) (i : LineId) (r : Recording) (id : Nat) (e : ToneEntry) (m : Matcher) (b : Ms), (s.line i).state
        = .voice ∧ (s.line i).voice.activity = .recording ∧ (s.line i).voice.recording = some r ∧ r.ended = none ∧
        r.entry = some id ∧ (s.line i).tone.matchers = [m] ∧ s.toneTable = [e] ∧ m.id = e.id ∧ e.continuous = true ∧
        m.phase = .on b ∧ b + (e.segment m.seg).onMin ≤ s.now ∧ (e.cls = .busy ∨ e.cls = .congestion ∨ e.cls =
        .dial)) ∧
    (∃ (s : State) (i : LineId) (r : Recording) (id : Nat) (e : ToneEntry) (m : Matcher) (b : Ms) (c : CallRecord)
        (copy : RoutingCopy), (s.line i).state = .voice ∧ (s.line i).voice.activity = .recording ∧ (s.line
        i).voice.mode = .auto ∧ (s.line i).voice.recording = some r ∧ r.ended = none ∧ r.entry = some id ∧ (s.line
        i).call = some c ∧ c.routing = some copy ∧ (s.line i).tone.matchers = [m] ∧ s.toneTable = [e] ∧ m.id = e.id
        ∧ e.continuous = true ∧ m.phase = .on b ∧ b + (e.segment m.seg).onMin ≤ s.now ∧ e.cls = .faxCall ∧
        (copy.mask.fax = true → r.watchOpen = false)) ∧
    (∃ (s : State) (i : LineId) (r : Recording) (id : Nat) (e : ToneEntry) (m : Matcher) (b : Ms) (c : CallRecord)
        (copy : RoutingCopy), (s.line i).state = .voice ∧ (s.line i).voice.activity = .recording ∧ (s.line
        i).voice.mode = .auto ∧ (s.line i).voice.recording = some r ∧ r.ended = none ∧ r.entry = some id ∧ (s.line
        i).call = some c ∧ c.routing = some copy ∧ (s.line i).tone.matchers = [m] ∧ s.toneTable = [e] ∧ m.id = e.id
        ∧ e.continuous = true ∧ m.phase = .on b ∧ b + (e.segment m.seg).onMin ≤ s.now ∧ e.cls = .faxCall ∧
        copy.mask.fax = true ∧ r.watchOpen = true ∧ s.incomingReady i (s.line i).copies .fax = true ∧ s.faxLadder ≠
        [] ∧ (s.line i).queue.entries = [] ∧ (s.line i).profile.wants .recordDone = true) ∧
    (∃ (s : State) (i : LineId) (r : Recording) (id : Nat) (b : Nat), (s.line i).state = .voice ∧ (s.line
        i).voice.activity = .recording ∧ (s.line i).voice.recording = some r ∧ r.ended = none ∧ r.entry = some id ∧
        (s.line i).tone.dtmf = .held .hash (some b) ∧ b + 40 ≤ s.now ∧ (s.line i).profile.bargeIn = true) :=
  ⟨⟨(({ (on0 {state := .voice, voice := { mode := .host }}) with
    store := { formatted := true, free := List.range 17 } } : State).setArea 0
      { isDefined := true, units := 8, join := some (0, .stage) }), 0, ⟨0, 9, [0, 1, 15]⟩, 1, 15, .greeting, by
      decide⟩,
  ⟨((on0 {state := .voice, voice := { mode := .host }}).setArea 0
      { isDefined := true, units := 2, join := some (0, .rx) }), 0, ⟨0, 9, [1]⟩, by decide⟩,
  ⟨(({ (on0 {state := .voice, voice := { mode := .host }}) with
    store := { formatted := true, dir := [{ sampleEntry with state := .new }] } } : State).setArea 0
      { isDefined := true, units := 8, join := some (0, .stage) }), 0, ⟨0, 9, [0, 1, 1, 0]⟩, 1, [],
      { sampleEntry with state := .new }, by decide⟩,
  ⟨(on0 {state := .voice, voice := { mode := .host }}), 0, ⟨0, 9, []⟩, by decide⟩,
  ⟨(on0
      {
        state := .voice
        voice := { mode := .host, activity := .playing, playback := some { target := .host, ids := [], bits := 4 } } }),
      0, ⟨0, 9, []⟩, { target := .host, ids := [], bits := 4 }, by decide⟩,
  ⟨((on0 {state := .voice, voice := { mode := .host }}).setArea 0
      { isDefined := true, units := 2, join := some (0, .tx) }), 0, ⟨0, 9, [1]⟩, by decide⟩,
  ⟨{ (on0 {
      state := .voice
      voice := {
        mode := .auto, activity := .recording
        recording := some { sampleRec with
          frameCount := some 3, silentStart := some 2, silentFrames := 156, coded := 9 } } }) with
    now := 32 }, 0, -80,
      { sampleRec with frameCount := some 3, silentStart := some 2, silentFrames := 156, coded := 9 }, 1, 3, 2, by
      decide⟩,
  ⟨{ (on0 {
      state := .voice
      voice := {
        mode := .auto, activity := .recording, recording := some { sampleRec with frameCount := some 3, coded := 9 } } })
      with
    now := 32 }, 0, -80, { sampleRec with frameCount := some 3, coded := 9 }, 1, 3, 3, by decide⟩,
  ⟨{ (on0 {
      state := .voice, voice := { mode := .auto, activity := .recording, recording := some sampleRec }
      tone := { matchers := [{ id := 1, phase := .on 0, first := 7 }] } }) with
    toneTable := [{ sampleTone .busy with cadence := [⟨1000, 2000, 0, 0⟩] }], now := 1000 }, 0, sampleRec, 1,
      { sampleTone .busy with cadence := [⟨1000, 2000, 0, 0⟩] }, { id := 1, phase := .on 0, first := 7 }, 0, by
      decide⟩,
  ⟨{ (on0 {
      state := .voice, call := some { sampleCall with routing := some sampleCopy }
      voice := { mode := .auto, activity := .recording, recording := some sampleRec }
      tone := { matchers := [{ id := 1, phase := .on 0, first := 7 }] } }) with
    toneTable := [{ sampleTone .faxCall with cadence := [⟨1000, 2000, 0, 0⟩] }], now := 1000 }, 0, sampleRec, 1,
      { sampleTone .faxCall with cadence := [⟨1000, 2000, 0, 0⟩] }, { id := 1, phase := .on 0, first := 7 }, 0,
      { sampleCall with routing := some sampleCopy }, sampleCopy, by decide⟩,
  ⟨(({ (on0 {
      state := .voice
      call := some { sampleCall with routing := some { sampleCopy with mask := ⟨false, true, true⟩ } }
      voice := {
        mode := .auto, activity := .recording, recording := some { sampleRec with watchOpen := true, coded := 9 } }
      tone := { matchers := [{ id := 1, phase := .on 0, first := 7 }] } }) with
    toneTable := [{ sampleTone .faxCall with cadence := [⟨1000, 2000, 0, 0⟩] }], now := 1000
    faxLadder := [⟨300, 0, 1, 0⟩], store := { dir := [sampleEntry] } } : State).setArea 0
      { isDefined := true, units := 8, join := some (0, .stage) }), 0,
      { sampleRec with watchOpen := true, coded := 9 }, 1,
      { sampleTone .faxCall with cadence := [⟨1000, 2000, 0, 0⟩] }, { id := 1, phase := .on 0, first := 7 }, 0,
      { sampleCall with routing := some { sampleCopy with mask := ⟨false, true, true⟩ } },
      { sampleCopy with mask := ⟨false, true, true⟩ }, by decide⟩,
  ⟨{ (on0 {
      state := .voice, voice := { mode := .auto, activity := .recording, recording := some sampleRec }
      tone := { dtmf := .held .hash (some 0) } }) with
    now := 40 }, 0, sampleRec, 1, 0, by decide⟩⟩

theorem QualityArithmetic_met :
    (∃ (a : Nat) (sc : Nat), a ≤ 1280 ∧ sc ≤ 160) ∧
    (∃ (s : State) (i : LineId) (r : MeasRecord) (d : Ms), (s.line i).state = .data ∧ (s.line i).quality.rc =
        .steady ∧ r.valid = true ∧ (s.line i).quality.nextRecord = some d ∧ d ≤ s.now) ∧
    (∃ (s : State) (i : LineId) (r : MeasRecord) (d : Ms), (s.line i).state = .fax ∧ (s.line i).fax.role = some
        .receiver ∧ (s.line i).fax.phase = .page ∧ (s.line i).fax.begun = true ∧ r.valid = true ∧ (s.line
        i).quality.nextRecord = some d ∧ d ≤ s.now) ∧
    (∃ (s : State) (i : LineId) (r : MeasRecord) (d : Ms), (s.line i).state = .data ∧ (s.line i).quality.rc =
        .retraining ∧ r.valid = true ∧ (s.line i).quality.nextTraining = some d ∧ d ≤ s.now) ∧
    (∃ (s : State) (i : LineId) (r : MeasRecord) (d : Ms), (s.line i).state = .fax ∧ (s.line i).fax.role = some
        .receiver ∧ (s.line i).fax.phase = .train ∧ (s.line i).fax.checking = true ∧ r.valid = true ∧ (s.line
        i).quality.nextRecord = some d ∧ d ≤ s.now) ∧
    (∃ (s : State) (i : LineId) (t0 : Nat) (qt : Nat) (d : Nat), (s.line i).state = .data ∧ (s.line i).quality.rc =
        .retraining ∧ (s.line i).quality.target = some t0 ∧ (s.line i).quality.tryQt = some qt ∧ (ladderStep
        s.dataLadder t0).d ≤ qt ∧ (s.line i).quality.tryEnd = some d ∧ s.now ≤ d) ∧
    (∃ (s : State) (i : LineId) (k : Nat) (qt : Nat) (n : Nat), (s.line i).fax.role = some .receiver ∧ (s.line
        i).fax.phase = .train ∧ (s.line i).fax.checking = true ∧ (s.line i).fax.checkQt = some qt ∧ (s.line
        i).fax.step = some k ∧ k < s.faxLadder.length ∧ k ≤ (s.line i).copies.faxCeiling ∧ n ≤ (ladderStep
        s.faxLadder k).trainLimit) :=
  ⟨⟨1280, 160, by decide⟩,
  ⟨(on0 {state := .data, quality := { rc := .steady, nextRecord := some 0 }}), 0, ⟨0, 1, 0, true⟩, 0, by decide⟩,
  ⟨(on0
      {
        state := .fax, fax := { role := some .receiver, phase := .page, begun := true }
        quality := { nextRecord := some 0 } }), 0, ⟨0, 1, 0, true⟩, 0, by decide⟩,
  ⟨(on0 {state := .data, quality := { rc := .retraining, nextTraining := some 0 }}), 0, ⟨0, 1, 0, true⟩, 0, by
      decide⟩,
  ⟨(on0
      {
        state := .fax, fax := { role := some .receiver, phase := .train, checking := true }
        quality := { nextRecord := some 0 } }), 0, ⟨0, 1, 0, true⟩, 0, by decide⟩,
  ⟨(on0
      {
        state := .data
        quality := {
          rc := .retraining, target := some 0, tries := 0, floor := some 0, tryQt := some 0, tryEnd := some 0 } }),
      0, 0, 0, 0, by decide⟩,
  ⟨({ (on0 {
      fax := { role := some .receiver, phase := .train, checking := true, checkQt := some 0, step := some 0 }
      call := some sampleCall }) with
    faxLadder := [⟨2400, 10, 20, 5⟩] } : State), 0, 0, 0, 5, by decide⟩⟩

theorem LadderSearchesAreHighest_met :
    ∃ (ladder : List LadderStep) (f : Nat) (c : Nat) (q : Nat), f < c :=
  ⟨[], 0, 1, 0, by decide⟩

theorem MeasurementInSteady_met :
    (∃ (s : State) (i : LineId) (r : MeasRecord) (c : Nat) (d : Nat), (s.line i).state = .data ∧ r.valid = true ∧
        (s.line i).quality.rc = .steady ∧ (s.line i).quality.nextRecord = some d ∧ d ≤ s.now ∧ (s.line
        i).quality.step = some c ∧ (s.line i).quality.ceiling = some c ∧ 0 < (s.line i).profile.fbPersist ∧ 0 <
        (s.line i).profile.dropPersist ∧ (ladderStep s.dataLadder c).d ≤ accumulate (s.line i).quality.a (score r
        (s.line i).profile.impulsePenalty) / 8) ∧
    (∃ (s : State) (i : LineId) (r : MeasRecord) (c : Nat) (f : Nat) (d : Nat), (s.line i).state = .data ∧ r.valid =
        true ∧ (s.line i).quality.rc = .steady ∧ (s.line i).quality.nextRecord = some d ∧ d ≤ s.now ∧ (s.line
        i).quality.step = some c ∧ (s.line i).quality.floor = some f ∧ f < c ∧ accumulate (s.line i).quality.a
        (score r (s.line i).profile.impulsePenalty) / 8 < (ladderStep s.dataLadder c).d ∧ (s.line
        i).profile.fbPersist ≤ min 255 ((s.line i).quality.lowRun + 1)) ∧
    (∃ (s : State) (i : LineId) (r : MeasRecord) (c : Nat) (m : Nat) (d : Nat), (s.line i).state = .data ∧ r.valid =
        true ∧ (s.line i).quality.rc = .steady ∧ (s.line i).quality.nextRecord = some d ∧ d ≤ s.now ∧ (s.line
        i).quality.step = some c ∧ (s.line i).quality.ceiling = some m ∧ c < m ∧ 0 < (s.line i).profile.fbPersist ∧
        0 < (s.line i).profile.dropPersist ∧ (ladderStep s.dataLadder c).d ≤ accumulate (s.line i).quality.a (score
        r (s.line i).profile.impulsePenalty) / 8 ∧ (ladderStep s.dataLadder (c + 1)).u ≤ accumulate (s.line
        i).quality.a (score r (s.line i).profile.impulsePenalty) / 8 ∧ (s.line i).profile.ffPersist ≤ min 255
        ((s.line i).quality.highRun + 1)) ∧
    (∃ (k : Quality) (ladder : List LadderStep) (c : Nat), k.step = some c ∧ k.ceiling = some c) ∧
    (∃ (s : State) (i : LineId) (r : MeasRecord) (c : Nat) (d : Nat), (s.line i).state = .data ∧ r.valid = true ∧
        (s.line i).quality.rc = .steady ∧ (s.line i).quality.nextRecord = some d ∧ d ≤ s.now ∧ (s.line
        i).quality.step = some c ∧ (s.line i).quality.floor = some c ∧ accumulate (s.line i).quality.a (score r
        (s.line i).profile.impulsePenalty) / 8 < (ladderStep s.dataLadder c).d ∧ (s.line i).profile.dropPersist ≤
        min 255 ((s.line i).quality.lowRun + 1) ∧ (s.line i).link.phase = .linked ∧ (s.line i).link.dropEnd = false
        ∧ (s.line i).link.farEnd = none ∧ (s.line i).link.txNow = none ∧ (s.line i).link.rateWait = [] ∧ (s.line
        i).link.endWait = []) ∧
    (∃ (s : State) (i : LineId) (r : MeasRecord) (d : Nat), (s.line i).state = .data ∧ r.valid = false ∧ (s.line
        i).quality.nextRecord = some d ∧ d ≤ s.now) ∧
    (∃ (s : State) (i : LineId) (r : MeasRecord) (d : Nat), (s.line i).quality.nextRecord = some d ∧ s.now < d) :=
  ⟨⟨(on0 {state := .data, quality := { rc := .steady, nextRecord := some 0, step := some 0, ceiling := some 0 }}),
      0, ⟨0, 1, 0, true⟩, 0, 0, by decide⟩,
  ⟨({ (on0 {
      state := .data
      quality := { rc := .steady, nextRecord := some 0, step := some 1, floor := some 0, lowRun := 3 } }) with
    dataLadder := [⟨300, 0, 1, 0⟩, ⟨600, 10, 20, 0⟩] } : State), 0, ⟨0, 1, 0, true⟩, 1, 0, 0, by decide⟩,
  ⟨({ (on0 {
      state := .data
      quality := {
        rc := .steady, nextRecord := some 0, step := some 0, ceiling := some 1, highRun := 79, a := 1280 } }) with
    dataLadder := [⟨300, 0, 1, 0⟩, ⟨600, 10, 160, 0⟩] } : State), 0, ⟨10000, 1, 0, true⟩, 0, 1, 0, by decide⟩,
  ⟨{ step := some 0, ceiling := some 0 }, [], 0, by decide⟩,
  ⟨({ (on0 {
      state := .data
      quality := { rc := .steady, nextRecord := some 0, step := some 0, floor := some 0, lowRun := 39 }
      link := { phase := .linked } }) with
    dataLadder := [⟨300, 1, 20, 0⟩] } : State), 0, ⟨0, 1, 0, true⟩, 0, 0, by decide⟩,
  ⟨(on0 {state := .data, quality := { nextRecord := some 0 }}), 0, ⟨0, 1, 0, false⟩, 0, by decide⟩,
  ⟨(on0 {state := .data, quality := { nextRecord := some 125 }}), 0, ⟨1, 1, 0, true⟩, 125, by decide⟩⟩

theorem TrainingTries_met :
    (∃ (s : State) (i : LineId) (r : MeasRecord) (d : Ms), (s.line i).state = .data ∧ (s.line i).quality.rc =
        .retraining ∧ r.valid = true ∧ (s.line i).quality.nextTraining = some d ∧ d ≤ s.now) ∧
    (∃ (s : State) (i : LineId) (t0 : Nat) (qt : Nat) (w : Nat) (d : Nat) (c : CallRecord), (s.line i).state = .data
        ∧ (s.line i).quality.rc = .retraining ∧ (s.line i).quality.target = some t0 ∧ (s.line i).quality.tryQt =
        some qt ∧ (ladderStep s.dataLadder t0).d ≤ qt ∧ (s.line i).call = some c ∧ (s.line i).link.phase = .training
        ∧ (s.line i).link.endOnSteady = false ∧ (s.line i).quality.tryEnd = some d ∧ s.now ≤ d ∧ (s.line
        i).link.window = some w) ∧
    (∃ (s : State) (i : LineId) (k : Quality) (t0 : Nat) (d : Nat) (locked : Bool), k = (s.line i).quality ∧ (s.line
        i).state = .data ∧ (s.line i).quality.rc = .retraining ∧ (s.line i).quality.target = some t0 ∧ (s.line
        i).quality.tries = 0 ∧ ((k.tryEnd = some d ∧ d ≤ s.now ∧ locked = false) ∨ (k.tryEnd = some d ∧ s.now ≤ d ∧
        locked = true ∧ ∀ q ∈ k.tryQt, q < (ladderStep s.dataLadder t0).d))) ∧
    (∃ (s : State) (i : LineId) (k : Quality) (t0 : Nat) (f : Nat) (d : Nat) (locked : Bool), k = (s.line i).quality
        ∧ (s.line i).state = .data ∧ (s.line i).quality.rc = .retraining ∧ (s.line i).quality.target = some t0 ∧
        (s.line i).quality.tries = 1 ∧ (s.line i).quality.floor = some f ∧ f < t0 ∧ ((k.tryEnd = some d ∧ d ≤ s.now
        ∧ locked = false) ∨ (k.tryEnd = some d ∧ s.now ≤ d ∧ locked = true ∧ ∀ q ∈ k.tryQt, q < (ladderStep
        s.dataLadder t0).d))) ∧
    (∃ (s : State) (i : LineId) (k : Quality) (t0 : Nat) (f : Nat) (d : Nat) (locked : Bool), k = (s.line i).quality
        ∧ (s.line i).state = .data ∧ (s.line i).quality.rc = .retraining ∧ (s.line i).quality.target = some t0 ∧
        (s.line i).quality.tries = 1 ∧ (s.line i).quality.floor = some f ∧ t0 ≤ f ∧ ((k.tryEnd = some d ∧ d ≤ s.now
        ∧ locked = false) ∨ (k.tryEnd = some d ∧ s.now ≤ d ∧ locked = true ∧ ∀ q ∈ k.tryQt, q < (ladderStep
        s.dataLadder t0).d))) ∧
    (∃ (s : State) (i : LineId) (t0 : Nat) (qt : Nat) (o : Nat) (d : Nat) (why : RateCause) (c : CallRecord) (f :
        LinkFrame), (s.line i).state = .data ∧ (s.line i).quality.rc = .retraining ∧ (s.line i).quality.target =
        some t0 ∧ (s.line i).quality.tryQt = some qt ∧ (ladderStep s.dataLadder t0).d ≤ qt ∧ (s.line i).call = some
        c ∧ (s.line i).link.phase = .linked ∧ (s.line i).link.endOnSteady = false ∧ (s.line i).quality.tryEnd = some
        d ∧ s.now ≤ d ∧ (s.line i).quality.oldStep = some o ∧ (s.line i).quality.cause = some why ∧ (s.line
        i).link.txNow = some f ∧ (s.line i).queue.entries = [] ∧ (s.line i).profile.wants .rateChanged = true) ∧
    (∃ (s : State) (i : LineId) (d : Nat), (s.line i).quality.tryEnd = some d ∧ s.now < d) :=
  ⟨⟨(on0 {state := .data, quality := { rc := .retraining, nextTraining := some 0 }}), 0, ⟨0, 1, 0, true⟩, 0, by
      decide⟩,
  ⟨(on0
      {
        state := .data
        quality := {
          rc := .retraining, target := some 0, tries := 0, floor := some 0, tryQt := some 0, tryEnd := some 0 }
        link := { phase := .training, window := some 1 }, call := some sampleCall }), 0, 0, 0, 1, 0, sampleCall, by
      decide⟩,
  ⟨(on0
      {
        state := .data
        quality := {
          rc := .retraining, target := some 0, tries := 0, floor := some 0, tryQt := some 0, tryEnd := some 0 }
        link := { phase := .training, window := some 1 }, call := some sampleCall }), 0,
      { rc := .retraining, target := some 0, tries := 0, floor := some 0, tryQt := some 0, tryEnd := some 0 }, 0, 0,
      false, by decide⟩,
  ⟨(on0
      {
        state := .data
        quality := {
          rc := .retraining, target := some 1, tries := 1, floor := some 0, tryQt := some 0, tryEnd := some 0 }
        link := { phase := .training, window := some 1 }, call := some sampleCall }), 0,
      { rc := .retraining, target := some 1, tries := 1, floor := some 0, tryQt := some 0, tryEnd := some 0 }, 1, 0,
      0, false, by decide⟩,
  ⟨(on0
      {
        state := .data
        quality := {
          rc := .retraining, target := some 0, tries := 1, floor := some 0, tryQt := some 0, tryEnd := some 0 }
        link := { phase := .training, window := some 1 }, call := some sampleCall }), 0,
      { rc := .retraining, target := some 0, tries := 1, floor := some 0, tryQt := some 0, tryEnd := some 0 }, 0, 0,
      0, false, by decide⟩,
  ⟨(on0
      {
        state := .data
        quality := {
          rc := .retraining, target := some 0, tryQt := some 0, tryEnd := some 0, oldStep := some 1
          cause := some .peer }
        link := { phase := .linked, txNow := some .pause }, call := some sampleCall }), 0, 0, 0, 1, 0, .peer,
      sampleCall, .pause, by decide⟩,
  ⟨(on0 {state := .data, quality := { rc := .retraining, tryEnd := some 1 }}), 0, 1, by decide⟩⟩

theorem RateMessages_met :
    (∃ (s : State) (i : LineId) (n : Nat), (s.line i).state = .data ∧ (s.line i).link.phase = .linked ∧ (s.line
        i).quality.rc = .steady ∧ (s.line i).link.txNow = none ∧ (s.line i).link.rateWait = []) ∧
    (∃ (s : State) (i : LineId) (n : Nat) (m : Nat), (s.line i).state = .data ∧ (s.line i).link.phase = .linked ∧
        (s.line i).quality.rc = .renegotiating ∧ (s.line i).quality.target = some m ∧ (s.line i).link.txNow = none ∧
        (s.line i).link.rateWait = []) ∧
    (∃ (s : State) (i : LineId) (n : Nat), (s.line i).state = .data ∧ (s.line i).link.phase = .linked ∧ (s.line
        i).quality.rc = .renegotiating) ∧
    (∃ (s : State) (i : LineId) (d : Nat) (m : Nat), (s.line i).state = .data ∧ (s.line i).quality.rc =
        .renegotiating ∧ (s.line i).quality.rateOkWait = some d ∧ d ≤ s.now ∧ (s.line i).quality.target = some m) ∧
    (∃ (k : Quality) (f : Nat) (c : Nat) (p : Nat), k.floor = some f ∧ k.ceiling = some c ∧ f ≤ c) ∧
    (∃ (s : State) (i : LineId) (x : SendEntry) (rest : List SendEntry) (n : Fin 64) (c : Nat) (f : Nat), (s.line
        i).state = .data ∧ (s.line i).link.phase = .linked ∧ (s.line i).quality.rc = .steady ∧ (s.line
        i).link.sendQueue = x :: rest ∧ x.seq < 64 ∧ n.val = (x.seq + 1) % 64 ∧ x.retx = true ∧ (s.line
        i).link.history.length < 16 ∧ (s.line i).profile.errLimit ≤ (s.line i).link.history.count .retransmitted + 1
        ∧ (s.line i).quality.step = some c ∧ (s.line i).quality.floor = some f ∧ (s.line i).link.txNow = none ∧
        (s.line i).link.rateWait = [] ∧ f < c) ∧
    (∃ (s : State) (i : LineId) (x : SendEntry) (rest : List SendEntry) (n : Fin 64) (c : Nat) (g : LinkFrame),
        (s.line i).state = .data ∧ (s.line i).link.phase = .linked ∧ (s.line i).quality.rc = .steady ∧ (s.line
        i).link.sendQueue = x :: rest ∧ x.seq < 64 ∧ n.val = (x.seq + 1) % 64 ∧ x.retx = true ∧ (s.line
        i).link.history.length < 16 ∧ (s.line i).profile.errLimit ≤ (s.line i).link.history.count .retransmitted + 1
        ∧ (s.line i).quality.step = some c ∧ (s.line i).quality.floor = some c ∧ (s.line i).link.txNow = some g) :=
  ⟨⟨(on0 {state := .data, quality := { rc := .steady }, link := { phase := .linked }}), 0, 7, by decide⟩,
  ⟨(on0
      {
        state := .data, quality := { rc := .renegotiating, target := some 2, rateOkWait := some 0 }
        link := { phase := .linked } }), 0, 7, 2, by decide⟩,
  ⟨(on0
      {
        state := .data, quality := { rc := .renegotiating, target := some 2, rateOkWait := some 0 }
        link := { phase := .linked } }), 0, 7, by decide⟩,
  ⟨(on0
      {
        state := .data, quality := { rc := .renegotiating, target := some 2, rateOkWait := some 0 }
        link := { phase := .linked } }), 0, 0, 2, by decide⟩,
  ⟨{ floor := some 0, ceiling := some 3 }, 0, 3, 3, by decide⟩,
  ⟨(on0
      {
        state := .data, profile := { errLimit := 2 }, quality := { rc := .steady, step := some 1, floor := some 0 }
        link := {
          phase := .linked, sendQueue := [{ seq := 63, payload := [0xC5], retx := true }]
          history := [.retransmitted] } }), 0, { seq := 63, payload := [0xC5], retx := true }, [], 0, 1, 0, by
      decide⟩,
  ⟨(on0
      {
        state := .data, profile := { errLimit := 2 }, quality := { rc := .steady, step := some 1, floor := some 1 }
        link := {
          phase := .linked, sendQueue := [{ seq := 63, payload := [0xC5], retx := true }]
          history := [.retransmitted], txNow := some .pause } }), 0, { seq := 63, payload := [0xC5], retx := true },
      [], 0, 1, .pause, by decide⟩⟩

theorem CarrierLossReleases_met :
    (∃ (s : State) (i : LineId), (s.line i).state = .data ∧ (s.line i).carrier = true ∧ (s.line i).signals.carrier =
        true ∧ (s.line i).link.carrierSeen = true) ∧
    (∃ (s : State) (i : LineId), (s.line i).state = .data ∧ (s.line i).carrier = false) ∧
    (∃ (s : State) (i : LineId) (d : Ms), (s.line i).state = .data ∧ (s.line i).link.carrierLoss = some d ∧ d ≤
        s.now) :=
  ⟨⟨(on0 {state := .data, carrier := true, signals := { carrier := true }, link := { carrierSeen := true }}), 0, by
      decide⟩,
  ⟨(on0 {state := .data}), 0, by decide⟩,
  ⟨(on0 {state := .data, link := { carrierLoss := some 0 }}), 0, 0, by decide⟩⟩

theorem DataHandshake_met :
    (∃ (s : State) (i : LineId) (d : Ms), (s.line i).link.phase = .answerTone ∧ (s.line i).link.toneEnd = some d ∧ d
        ≤ s.now) ∧
    (∃ (s : State) (i : LineId) (d : Ms), (s.line i).link.phase = .exchange ∧ (s.line i).link.capsRepeat = some d ∧
        d ≤ s.now) ∧
    (∃ (s : State) (i : LineId) (d : Ms), (s.line i).link.phase = .exchange ∧ (s.line i).link.exchangeTimer = some d
        ∧ d ≤ s.now) ∧
    (∃ (s : State) (i : LineId) (own : Capability) (peer : Capability) (c : Nat), (s.line i).link.phase = .exchange
        ∧ (s.line i).link.own = some own ∧ s.agreedCeiling (s.line i).copies own peer = some c ∧ (s.line
        i).quality.floor.getD 0 ≤ c) :=
  ⟨⟨(on0 {link := { phase := .answerTone, toneEnd := some 0 }}), 0, 0, by decide⟩,
  ⟨(on0 {link := { phase := .exchange, capsSent := 2, capsRepeat := some 0 }}), 0, 0, by decide⟩,
  ⟨(on0 {link := { phase := .exchange, exchangeTimer := some 0 }}), 0, 0, by decide⟩,
  ⟨({ (on0 {link := { phase := .exchange, own := some ⟨300, 7, true⟩ }}) with dataLadder := [⟨300, 0, 1, 0⟩] } :
      State), 0, ⟨300, 7, true⟩, ⟨300, 0, true⟩, 0, by decide⟩⟩

theorem LinkDataAckResend_met :
    (∃ (s : State) (i : LineId) (q : Fin 64) (a : Fin 64) (payload : List Byte) (k : AreaId), (s.line i).state =
        .data ∧ (s.line i).link.phase = .linked ∧ (s.line i).quality.rc = .steady ∧ (s.line i).link.sendQueue = [] ∧
        (s.line i).link.e = q.val ∧ (s.line i).link.hold = [] ∧ s.joined i .rx = some k ∧ payload.length ≤ (s.area
        k).room ∧ (s.line i).link.ackSpacing = none ∧ (s.line i).link.txNow = none ∧ (s.line i).link.rateWait = [] ∧
        (s.line i).link.endWait = [] ∧ (s.line i).link.pauseWait = []) ∧
    (∃ (s : State) (i : LineId) (x : SendEntry) (rest : List SendEntry) (n : Fin 64) (f : LinkFrame), (s.line
        i).state = .data ∧ (s.line i).link.phase = .linked ∧ (s.line i).quality.rc = .steady ∧ (s.line
        i).link.sendQueue = x :: rest ∧ x.seq < 64 ∧ n.val = (x.seq + 1) % 64 ∧ x.retx = false ∧ (s.line
        i).link.history.length < 16 ∧ (s.line i).link.history.count .retransmitted < (s.line i).profile.errLimit ∧
        (s.line i).link.txNow = some f) ∧
    (∃ (s : State) (i : LineId) (x : SendEntry) (q : Fin 64) (f : LinkFrame), (s.line i).state = .data ∧ (s.line
        i).link.phase = .linked ∧ (s.line i).quality.rc = .steady ∧ (s.line i).link.sendQueue = [x] ∧ x.seq = q.val
        ∧ (s.line i).link.resendWait = [] ∧ (s.line i).link.peerPaused = false ∧ (s.line i).link.txNow = some f ∧
        x.retries < (s.line i).profile.retryLimit) ∧
    (∃ (s : State) (i : LineId) (x : SendEntry) (q : Fin 64), (s.line i).state = .data ∧ (s.line i).link.phase =
        .linked ∧ (s.line i).quality.rc = .steady ∧ (s.line i).link.sendQueue = [x] ∧ x.seq = q.val ∧ (s.line
        i).link.resendWait = [] ∧ (s.line i).link.peerPaused = false ∧ (s.line i).profile.retryLimit ≤ x.retries ∧
        (s.line i).link.ending = none ∧ (s.line i).fax = {} ∧ (s.line i).voice = {}) ∧
    (∃ (s : State) (i : LineId) (q : Fin 64) (a : Fin 64) (payload : List Byte) (f : LinkFrame) (w : Nat) (d : Nat),
        (s.line i).state = .data ∧ (s.line i).link.phase = .linked ∧ (s.line i).quality.rc = .steady ∧ (s.line
        i).link.sendQueue = [] ∧ a.val = (s.line i).link.n ∧ (s.line i).link.txNow = some f ∧ (s.line i).link.window
        = some w ∧ d = seqDistance (s.line i).link.e q.val ∧ 0 < d ∧ d < w ∧ (∀ h ∈ (s.line i).link.hold, h.1 ≠
        q.val)) ∧
    (∃ (s : State) (i : LineId) (q : Fin 64) (a : Fin 64) (payload : List Byte) (f : LinkFrame) (w : Nat) (d : Nat),
        (s.line i).state = .data ∧ (s.line i).link.phase = .linked ∧ (s.line i).quality.rc = .steady ∧ (s.line
        i).link.sendQueue = [] ∧ a.val = (s.line i).link.n ∧ (s.line i).link.txNow = some f ∧ (s.line i).link.window
        = some w ∧ d = seqDistance (s.line i).link.e q.val ∧ 0 < d ∧ w ≤ d ∧ (s.line i).link.ackSpacing = none) ∧
    (∃ (base : Nat) (n : Nat), base < 64 ∧ n < 64) ∧
    (∃ (s : State) (i : LineId) (x : SendEntry) (rest : List SendEntry) (n : Fin 64) (f : LinkFrame) (r : Nat × List
        Byte), (s.line i).state = .data ∧ (s.line i).link.phase = .linked ∧ (s.line i).quality.rc = .steady ∧
        (s.line i).link.sendQueue = x :: rest ∧ x.seq < 64 ∧ n.val = (x.seq + 1) % 64 ∧ (s.line i).link.resendWait =
        [r] ∧ r = (x.seq, x.payload) ∧ (s.line i).link.txNow = some f) :=
  ⟨⟨((on0 {state := .data, quality := { rc := .steady }, link := { phase := .linked, e := 63 }}).setArea 0
      { isDefined := true, units := 2, join := some (0, .rx) }), 0, 63, 0, [0xC5], 0, by decide⟩,
  ⟨(on0
      {
        state := .data, quality := { rc := .steady }
        link := { phase := .linked, sendQueue := [{ seq := 63, payload := [0xC5] }], txNow := some .pause } }), 0,
      { seq := 63, payload := [0xC5] }, [], 0, .pause, by decide⟩,
  ⟨(on0
      {
        state := .data, quality := { rc := .steady }
        link := { phase := .linked, sendQueue := [{ seq := 63, payload := [0xC5] }], txNow := some .pause } }), 0,
      { seq := 63, payload := [0xC5] }, 63, .pause, by decide⟩,
  ⟨(on0
      {
        state := .data, quality := { rc := .steady }
        link := { phase := .linked, sendQueue := [{ seq := 63, payload := [0xC5], retries := 6 }] } }), 0,
      { seq := 63, payload := [0xC5], retries := 6 }, 63, by decide⟩,
  ⟨(on0
      {
        state := .data, quality := { rc := .steady }
        link := { phase := .linked, window := some 2, e := 62, txNow := some .pause } }), 0, 63, 0, [0xC5], .pause,
      2, 1, by decide⟩,
  ⟨(on0
      {
        state := .data, quality := { rc := .steady }
        link := { phase := .linked, window := some 1, e := 62, txNow := some .pause } }), 0, 63, 0, [0xC5], .pause,
      1, 1, by decide⟩,
  ⟨63, 0, by decide⟩,
  ⟨(on0
      {
        state := .data, quality := { rc := .steady }
        link := {
          phase := .linked, sendQueue := [{ seq := 63, payload := [0xC5] }], resendWait := [(63, [0xC5])]
          txNow := some .pause } }), 0, { seq := 63, payload := [0xC5] }, [], 0, .pause, (63, [0xC5]), by decide⟩⟩

theorem LinkPauseResumeEnd_met :
    (∃ (s : State) (i : LineId), (s.line i).state = .data ∧ (s.line i).link.phase = .linked ∧ (s.line i).quality.rc
        = .steady ∧ (s.line i).link.peerPaused = false) ∧
    (∃ (s : State) (i : LineId) (f : LinkFrame), (s.line i).state = .data ∧ (s.line i).link.phase = .linked ∧
        (s.line i).quality.rc = .steady ∧ (s.line i).link.peerPaused = true ∧ (s.line i).link.txNow = some f ∧ (∀ x
        ∈ (s.line i).link.sendQueue, x.retries < (s.line i).profile.retryLimit)) ∧
    (∃ (s : State) (i : LineId), (s.line i).state = .data ∧ (s.line i).link.phase = .linked ∧ (s.line i).quality.rc
        = .steady ∧ (s.line i).link.farEnd = none ∧ (s.line i).link.dropEnd = false ∧ (s.line i).link.txNow = none ∧
        (s.line i).link.rateWait = [] ∧ (s.line i).link.endWait = []) ∧
    (∃ (s : State) (i : LineId), (s.line i).state = .data ∧ (s.line i).link.phase = .closing ∧ (s.line i).quality.rc
        = .steady ∧ (s.line i).link.dropEnd = false) ∧
    (∃ (s : State) (i : LineId) (q : Fin 64) (a : Fin 64) (payload : List Byte) (k : AreaId) (f : LinkFrame),
        (s.line i).state = .data ∧ (s.line i).link.phase = .linked ∧ (s.line i).quality.rc = .steady ∧ (s.line
        i).link.sendQueue = [] ∧ a.val = (s.line i).link.n ∧ (s.line i).link.txNow = some f ∧ (s.line i).link.e =
        q.val ∧ s.joined i .rx = some k ∧ (s.area k).room < payload.length) ∧
    (∃ (s : State) (i : LineId) (k : AreaId) (f : LinkFrame), (s.line i).link.localPaused = true ∧ s.joined i .rx =
        some k ∧ (s.line i).link.txNow = some f) :=
  ⟨⟨(on0 {state := .data, quality := { rc := .steady }, link := { phase := .linked }}), 0, by decide⟩,
  ⟨(on0
      {
        state := .data, quality := { rc := .steady }
        link := {
          phase := .linked, peerPaused := true, sendQueue := [{ seq := 63, payload := [0xC5] }]
          txNow := some .pause } }), 0, .pause, by decide⟩,
  ⟨(on0 {state := .data, quality := { rc := .steady }, link := { phase := .linked }}), 0, by decide⟩,
  ⟨(on0 {state := .data, quality := { rc := .steady }, link := { phase := .closing }}), 0, by decide⟩,
  ⟨((on0
      {
        state := .data, quality := { rc := .steady }
        link := { phase := .linked, window := some 2, e := 62, txNow := some .pause } }).setArea 0
      { isDefined := true, units := 0, join := some (0, .rx) }), 0, 62, 0, [0xC5], 0, .pause, by decide⟩,
  ⟨((on0 {link := { localPaused := true, txNow := some (.ack 0) }}).setArea 0
      { isDefined := true, units := 2, join := some (0, .rx) }), 0, 0, (.ack 0), by decide⟩⟩

theorem LinkTransmitter_met :
    (∃ (s : State) (i : LineId) (k : AreaId) (f : LinkFrame) (w : Nat), (s.line i).link.phase = .linked ∧ (s.line
        i).link.farEnd = none ∧ (s.line i).link.endOnSteady = false ∧ (s.line i).link.window = some w ∧ (s.line
        i).link.sendQueue.length < w ∧ (s.line i).link.peerPaused = false ∧ (s.line i).quality.rc = .steady ∧
        (s.line i).link.resendWait = [] ∧ (s.line i).link.txNow = some f ∧ s.joined i .tx = some k ∧ 128 ≤ (s.area
        k).fifo.length ∧ (s.area k).marks = []) ∧
    (∃ (s : State) (i : LineId) (n : Nat), (s.line i).link.txNow = some (.ack n) ∧ (s.line i).link.phase = .linked) ∧
    (∃ (s : State) (i : LineId) (why : EndReason), (s.line i).link.txNow = some .finOk ∧ (s.line i).link.farEnd =
        some why) ∧
    (∃ (l : Line) (now : Ms), l.link.txNow.isSome = true) ∧
    (∃ (l : Line) (now : Ms) (f : LinkFrame) (k : Link), l.link.txNow = none ∧ l.link.choose (decide (l.quality.rc =
        .steady)) = some (f, k)) ∧
    (∃ (k : Link) (steady : Bool) (f : LinkFrame) (rest : List LinkFrame), k.rateWait = f :: rest) ∧
    (∃ (k : Link), k.rateWait = []) ∧
    (∃ (k : Link) (f : LinkFrame) (rest : List LinkFrame), k.rateWait = [] ∧ k.endWait = f :: rest) ∧
    (∃ (k : Link) (f : LinkFrame) (rest : List LinkFrame), k.rateWait = [] ∧ k.endWait = [] ∧ k.pauseWait = f ::
        rest) ∧
    (∃ (k : Link), k.rateWait = [] ∧ k.endWait = [] ∧ k.pauseWait = [] ∧ k.ackWait = true) ∧
    (∃ (k : Link) (q : Nat) (rest : List Nat), k.rateWait = [] ∧ k.endWait = [] ∧ k.pauseWait = [] ∧ k.ackWait =
        false ∧ k.requestWait = q :: rest) ∧
    (∃ (k : Link), k.rateWait = [] ∧ k.endWait = [] ∧ k.pauseWait = [] ∧ k.ackWait = false ∧ k.requestWait = [] ∧
        (k.peerPaused = true ∨ k.phase = .closing)) ∧
    (∃ (k : Link) (q : Nat) (bs : List Byte) (rest : List (Nat × List Byte)), k.rateWait = [] ∧ k.endWait = [] ∧
        k.pauseWait = [] ∧ k.ackWait = false ∧ k.requestWait = [] ∧ k.peerPaused = false ∧ k.phase ≠ .closing ∧
        k.farEnd = none) :=
  ⟨⟨((on0
      {quality := { rc := .steady }, link := { phase := .linked, window := some 1, txNow := some .pause }}).setArea
      0 { isDefined := true, units := 2, join := some (0, .tx), fifo := List.replicate 128 (0xC5, 0) }), 0, 0,
      .pause, 1, by decide +kernel⟩,
  ⟨(on0 {link := { phase := .linked, txNow := some (.ack 0) }}), 0, 0, by decide⟩,
  ⟨(on0 {link := { txNow := some .finOk, farEnd := some .remote }}), 0, .remote, by decide⟩,
  ⟨{ link := { txNow := some .fin } }, 0, by decide⟩,
  ⟨{ link := { rateWait := [.rate 0] } }, 0, .rate 0, {}, by decide⟩,
  ⟨{ rateWait := [.rate 0] }, false, .rate 0, [], by decide⟩,
  ⟨{}, by decide⟩,
  ⟨{ endWait := [.fin] }, .fin, [], by decide⟩,
  ⟨{ pauseWait := [.pause] }, .pause, [], by decide⟩,
  ⟨{ ackWait := true }, by decide⟩,
  ⟨{ requestWait := [63] }, 63, [], by decide⟩,
  ⟨{ peerPaused := true }, by decide⟩,
  ⟨{ resendWait := [(63, [0xC5])] }, 63, [0xC5], [], by decide⟩⟩

theorem LinkTimers_met :
    (∃ (s : State) (i : LineId) (d : Ms) (x : SendEntry) (f : LinkFrame), (s.line i).link.resendTimer = .running d ∧
        d ≤ s.now ∧ (s.line i).link.sendQueue = [x] ∧ (s.line i).link.resendWait = [] ∧ (s.line i).link.txNow = some
        f ∧ x.retries < (s.line i).profile.retryLimit) ∧
    (∃ (s : State) (i : LineId) (d : Ms), (s.line i).link.peerPaused = true ∧ (s.line i).link.pauseTimer = some d ∧
        d ≤ s.now ∧ (s.line i).link.ending = none) ∧
    (∃ (s : State) (i : LineId) (d : Ms), (s.line i).link.ackSpacing = some d ∧ d ≤ s.now ∧ (s.line i).link.ackDue =
        true ∧ (s.line i).quality.rc = .steady ∧ (s.line i).link.txNow = none ∧ (s.line i).link.rateWait = [] ∧
        (s.line i).link.endWait = [] ∧ (s.line i).link.pauseWait = []) ∧
    (∃ (s : State) (i : LineId) (d : Ms), (s.line i).link.phase = .draining ∧ (s.line i).link.drainTimer = some d ∧
        d ≤ s.now ∧ (s.line i).quality.rc = .steady ∧ (s.line i).link.txNow = none ∧ (s.line i).link.rateWait = [] ∧
        (s.line i).link.endWait = []) ∧
    (∃ (s : State) (i : LineId) (d : Ms), (s.line i).link.phase = .closing ∧ (s.line i).link.endOkWait = some d ∧ d
        ≤ s.now) ∧
    (∃ (s : State) (i : LineId), (s.line i).link.ending ≠ none) :=
  ⟨⟨(on0
      {
        link := { resendTimer := .running 0, sendQueue := [{ seq := 63, payload := [0xC5] }], txNow := some .pause } }),
      0, 0, { seq := 63, payload := [0xC5] }, .pause, by decide⟩,
  ⟨(on0 {link := { peerPaused := true, pauseTimer := some 0 }}), 0, 0, by decide⟩,
  ⟨(on0 {quality := { rc := .steady }, link := { ackSpacing := some 0, ackDue := true }}), 0, 0, by decide⟩,
  ⟨(on0 {quality := { rc := .steady }, link := { phase := .draining, drainTimer := some 0 }}), 0, 0, by decide⟩,
  ⟨(on0 {link := { phase := .closing, endOkWait := some 0 }}), 0, 0, by decide⟩,
  ⟨(on0 {link := { farEnd := some .remote }}), 0, by decide⟩⟩

theorem FaxNegotiation_met :
    (∃ (s : State) (i : LineId) (d : Ms), (s.line i).fax.role = some .receiver ∧ (s.line i).fax.phase = .establish ∧
        (s.line i).fax.toneEnd = some d ∧ d ≤ s.now) ∧
    (∃ (s : State) (i : LineId) (d : Ms), (s.line i).fax.role = some .sender ∧ (s.line i).fax.phase = .establish ∧
        (s.line i).fax.terms = none ∧ (s.line i).fax.toneEnd = some d ∧ d ≤ s.now) ∧
    (∃ (s : State) (i : LineId) (rate : Nat) (k : Nat) (res : List Resolution) (bc : Bool), (s.line i).fax.role =
        some .sender ∧ (s.line i).fax.phase = .establish ∧ (s.line i).fax.terms = none ∧ highestRate s.faxLadder
        rate ((s.line i).copies.faxCeiling + 1) = some k ∧ (s.line i).copies.faxFloor ≤ k) ∧
    (∃ (s : State) (i : LineId) (k : Nat) (res : Resolution) (bc : Bool), (s.line i).fax.role = some .receiver ∧
        (s.line i).fax.phase = .negotiate ∧ (s.line i).fax.terms = none) :=
  ⟨⟨(on0 {fax := { role := some .receiver, phase := .establish, toneEnd := some 0 }}), 0, 0, by decide⟩,
  ⟨(on0 {fax := { role := some .sender, phase := .establish, toneEnd := some 0 }}), 0, 0, by decide⟩,
  ⟨({ (on0 {fax := { role := some .sender, phase := .establish }}) with faxLadder := [⟨2400, 10, 20, 5⟩] } : State),
      0, 2400, 0, [.normal, .fine], true, by decide⟩,
  ⟨(on0 {fax := { role := some .receiver, phase := .negotiate }}), 0, 0, .fine, true, by decide⟩⟩

theorem FaxTraining_met :
    (∃ (s : State) (i : LineId) (k : Nat) (qt : Nat) (n : Nat) (c : CallRecord), (s.line i).fax.role = some
        .receiver ∧ (s.line i).fax.phase = .train ∧ (s.line i).fax.checking = true ∧ (s.line i).fax.checkQt = some
        qt ∧ (s.line i).fax.step = some k ∧ k < s.faxLadder.length ∧ k ≤ (s.line i).copies.faxCeiling ∧ n ≤
        (ladderStep s.faxLadder k).trainLimit ∧ (s.line i).call = some c) ∧
    (∃ (s : State) (i : LineId) (k : Nat) (qt : Nat) (n : Nat) (locked : Bool), (s.line i).fax.role = some .receiver
        ∧ (s.line i).fax.phase = .train ∧ (s.line i).fax.checking = true ∧ (s.line i).fax.checkQt = some qt ∧
        (s.line i).fax.step = some k ∧ (locked = false ∨ s.faxLadder.length ≤ k ∨ (ladderStep s.faxLadder
        k).trainLimit < n)) ∧
    (∃ (s : State) (i : LineId) (d : Ms), (s.line i).fax.role = some .receiver ∧ (s.line i).fax.phase = .train ∧
        (s.line i).fax.lockWait = some d ∧ d ≤ s.now) ∧
    (∃ (s : State) (i : LineId) (k : Nat) (n : Nat) (u : Nat) (res : Resolution) (bc : Bool), (s.line i).state =
        .fax ∧ (s.line i).fax.role = some .sender ∧ (s.line i).fax.phase = .train ∧ (s.line i).fax.step = some k ∧
        (s.line i).fax.awaited = some ⟨.choose k res bc, n, u⟩ ∧ (s.line i).fax.afterTrain = .page ∧ (s.line
        i).fax.source = some .host ∧ s.txHolds i = false) ∧
    (∃ (s : State) (i : LineId) (k : Nat) (n : Nat) (u : Nat) (res : Resolution) (bc : Bool), (s.line i).fax.role =
        some .sender ∧ (s.line i).fax.phase = .train ∧ (s.line i).fax.step = some k ∧ (s.line i).fax.terms = some
        ⟨k, res, bc⟩ ∧ (s.line i).fax.awaited = some ⟨.choose k res bc, n, u⟩) :=
  ⟨⟨({ (on0 {
      fax := { role := some .receiver, phase := .train, checking := true, checkQt := some 0, step := some 0 }
      call := some sampleCall }) with
    faxLadder := [⟨2400, 10, 20, 5⟩] } : State), 0, 0, 0, 5, sampleCall, by decide⟩,
  ⟨({ (on0 {
      fax := { role := some .receiver, phase := .train, checking := true, checkQt := some 0, step := some 0 }
      call := some sampleCall }) with
    faxLadder := [⟨2400, 10, 20, 5⟩] } : State), 0, 0, 0, 6, true, by decide⟩,
  ⟨(on0 {fax := { role := some .receiver, phase := .train, lockWait := some 0 }}), 0, 0, by decide⟩,
  ⟨(on0
      {
        state := .fax
        fax := {
          role := some .sender, phase := .train, step := some 1, terms := some ⟨1, .normal, false⟩
          awaited := some ⟨.choose 1 .normal false, 1, 0⟩, source := some .host, tries := 0 } }), 0, 1, 1, 0,
      .normal, false, by decide⟩,
  ⟨(on0
      {
        state := .fax
        fax := {
          role := some .sender, phase := .train, step := some 1, terms := some ⟨1, .normal, false⟩
          awaited := some ⟨.choose 1 .normal false, 1, 0⟩, source := some .host, tries := 1 } }), 0, 1, 1, 0,
      .normal, false, by decide⟩⟩

theorem FaxPageSending_met :
    (∃ (s : State) (i : LineId), (s.line i).fax.role = some .sender ∧ (s.line i).fax.phase = .page ∧ (s.line
        i).fax.begun = false ∧ (s.line i).fax.source = some .host ∧ s.txHolds i = true) ∧
    (∃ (s : State) (i : LineId) (k : AreaId) (n : Nat), (s.line i).fax.role = some .sender ∧ (s.line i).fax.phase =
        .page ∧ (s.line i).fax.begun = true ∧ (s.line i).fax.ended = none ∧ (s.line i).fax.awaited = none ∧ (s.line
        i).fax.source = some .host ∧ (s.line i).fax.corrects = false ∧ s.joined i .tx = some k ∧ (s.area k).marks =
        [] ∧ n ≤ (s.area k).fifo.length) ∧
    (∃ (s : State) (i : LineId) (k : AreaId) (m : PageMark) (ms : List (Nat × PageMark)), (s.line i).fax.role = some
        .sender ∧ (s.line i).fax.phase = .page ∧ (s.line i).fax.begun = true ∧ (s.line i).fax.ended = none ∧ (s.line
        i).fax.awaited = none ∧ (s.line i).fax.source = some .host ∧ (s.line i).fax.corrects = false ∧ s.joined i
        .tx = some k ∧ (s.area k).marks = (0, m) :: ms) ∧
    (∃ (s : State) (i : LineId) (d : Ms) (x : FaxTerms), (s.line i).fax.role = some .sender ∧ (s.line i).fax.phase =
        .page ∧ (s.line i).fax.fill = some d ∧ d ≤ s.now ∧ (s.line i).fax.terms = some x) ∧
    (∃ (s : State) (i : LineId) (k : AreaId) (id : Nat) (n : Nat), (s.line i).fax.role = some .sender ∧ (s.line
        i).fax.phase = .page ∧ (s.line i).fax.begun = true ∧ (s.line i).fax.ended = none ∧ (s.line i).fax.awaited =
        none ∧ (s.line i).fax.source = some (.store id) ∧ (s.line i).fax.corrects = false ∧ s.joined i .stage = some
        k ∧ (s.area k).marks = [] ∧ n ≤ (s.area k).fifo.length) ∧
    (∃ (s : State) (i : LineId) (k : AreaId) (id : Nat) (e : Entry) (m : PageMark), (s.line i).fax.role = some
        .sender ∧ (s.line i).fax.phase = .page ∧ (s.line i).fax.begun = true ∧ (s.line i).fax.ended = none ∧ (s.line
        i).fax.awaited = none ∧ (s.line i).fax.source = some (.store id) ∧ (s.line i).fax.corrects = false ∧
        s.joined i .stage = some k ∧ s.rangeTaken i = true ∧ s.entry? id = some e ∧ m = (if (s.line i).fax.docPos +
        1 < e.pages.length then .more else .last)) ∧
    (∃ (s : State) (i : LineId) (k : AreaId) (id : Nat), (s.line i).fax.role = some .sender ∧ (s.line i).fax.phase =
        .page ∧ (s.line i).fax.begun = true ∧ (s.line i).fax.ended = none ∧ (s.line i).fax.awaited = none ∧ (s.line
        i).fax.source = some (.store id) ∧ s.joined i .stage = some k ∧ s.rangeTaken i = false) ∧
    (∃ (s : State) (i : LineId) (id : Nat) (k : Nat) (n : Nat) (u : Nat) (c : CallRecord) (e : Entry) (p :
        PageRecord) (x : FaxTerms), (s.line i).state = .fax ∧ (s.line i).fax.role = some .sender ∧ (s.line
        i).fax.phase = .train ∧ (s.line i).fax.step = some k ∧ (s.line i).fax.awaited = some ⟨.choose k x.res
        x.blockCorrection, n, u⟩ ∧ (s.line i).fax.afterTrain = .page ∧ (s.line i).fax.trained = true ∧ (s.line
        i).call = some c ∧ (s.line i).fax.source = some (.store id) ∧ s.entry? id = some e ∧ e.pages[(s.line
        i).fax.docPos]? = some p) :=
  ⟨⟨((on0 {fax := { role := some .sender, phase := .page, source := some .host }}).setArea 0
      { isDefined := true, units := 2, join := some (0, .tx), fifo := [(0xC5, 0)] }), 0, by decide⟩,
  ⟨((on0 {fax := { role := some .sender, phase := .page, source := some .host, begun := true }}).setArea 0
      { isDefined := true, units := 2, join := some (0, .tx), fifo := [(0xC5, 0)] }), 0, 0, 1, by decide⟩,
  ⟨((on0 {fax := { role := some .sender, phase := .page, source := some .host, begun := true }}).setArea 0
      { isDefined := true, units := 2, join := some (0, .tx), marks := [(0, .last)] }), 0, 0, .last, [], by decide⟩,
  ⟨(on0
      {
        fax := {
          role := some .sender, phase := .page, source := some .host, fill := some 0
          terms := some ⟨0, .normal, false⟩ } }), 0, 0, ⟨0, .normal, false⟩, by decide⟩,
  ⟨((on0 {fax := { role := some .sender, phase := .page, begun := true, source := some (.store 1) }}).setArea 0
      { isDefined := true, units := 8, join := some (0, .stage), fifo := [(0xC5, 0)] }), 0, 0, 1, 1, by decide⟩,
  ⟨(({ (on0 {
      fax := { role := some .sender, phase := .page, begun := true, source := some (.store 1) }
      stage := .reading 1 7 7 }) with
    store := {
      formatted := true, dir := [{ sampleEntry with kind := .fax, state := .new, pages := [⟨0, 7, .good, false⟩] }] } }
      : State).setArea 0 { isDefined := true, units := 8, join := some (0, .stage) }), 0, 0, 1,
      { sampleEntry with kind := .fax, state := .new, pages := [⟨0, 7, .good, false⟩] }, .last, by decide⟩,
  ⟨((on0
      {
        fax := { role := some .sender, phase := .page, begun := true, source := some (.store 1) }
        stage := .reading 1 6 7 }).setArea 0 { isDefined := true, units := 8, join := some (0, .stage) }), 0, 0, 1,
      by decide⟩,
  ⟨(({ (on0 {
      state := .fax, call := some sampleCall
      fax := {
        role := some .sender, phase := .train, trained := true, step := some 1, source := some (.store 1)
        awaited := some ⟨.choose 1 .normal false, 1, 0⟩ } }) with
    store := {
      formatted := true, dir := [{ sampleEntry with kind := .fax, state := .new, pages := [⟨0, 7, .good, false⟩] }] } }
      : State).setArea 0 { isDefined := true, units := 8, join := some (0, .stage) }), 0, 1, 1, 1, 0, sampleCall,
      { sampleEntry with kind := .fax, state := .new, pages := [⟨0, 7, .good, false⟩] }, ⟨0, 7, .good, false⟩, ⟨1,
      .normal, false⟩, by decide⟩⟩

theorem FaxPageReceiving_met :
    (∃ (s : State) (i : LineId) (k : AreaId) (bytes : List Byte), (s.line i).fax.role = some .receiver ∧ (s.line
        i).fax.phase = .page ∧ (s.line i).fax.begun = true ∧ (s.line i).fax.corrects = false ∧ (s.line
        i).copies.faxTo = .host ∧ (s.line i).fax.heldMark = none ∧ s.joined i .rx = some k ∧ bytes.length ≤ (s.area
        k).room) ∧
    (∃ (s : State) (i : LineId), (s.line i).fax.role = some .receiver ∧ (s.line i).fax.phase = .page ∧ (s.line
        i).fax.begun = true ∧ (s.line i).fax.corrects = false) ∧
    (∃ (s : State) (i : LineId) (k : AreaId) (last : Bool) (v : Verdict), (s.line i).fax.role = some .receiver ∧
        (s.line i).fax.phase = .page ∧ (s.line i).fax.begun = true ∧ (s.line i).fax.corrects = false ∧ (s.line
        i).copies.faxTo = .host ∧ (s.line i).fax.heldMark = none ∧ s.joined i .rx = some k ∧ (s.area k).marks.length
        < 8 ∧ v = (s.line i).fax.tally.verdict (s.line i).profile (s.line i).quality.q (ladderStep s.faxLadder
        ((s.line i).quality.step.getD 0)).d) :=
  ⟨⟨((on0 {copies := { faxTo := .host }, fax := { role := some .receiver, phase := .page, begun := true }}).setArea
      0 { isDefined := true, units := 2, join := some (0, .rx) }), 0, 0, [0xC5], by decide⟩,
  ⟨(on0 {copies := { faxTo := .host }, fax := { role := some .receiver, phase := .page, begun := true }}), 0, by
      decide⟩,
  ⟨((on0 {copies := { faxTo := .host }, fax := { role := some .receiver, phase := .page, begun := true }}).setArea 0
      { isDefined := true, units := 2, join := some (0, .rx), marks := List.replicate 7 (0, .more) }), 0, 0, true,
      .bad, by decide⟩⟩

theorem PageVerdict_met :
    ∃ (t : PageTally) (p : Profile) (q : Nat) (d : Nat), p.goodPct ≤ p.acceptPct :=
  ⟨{}, {}, 0, 0, by decide⟩

theorem FaxVerdictActs_met :
    (∃ (s : State) (i : LineId) (q : Nat) (n : Nat) (u : Nat), (s.line i).state = .fax ∧ (s.line i).fax.role = some
        .sender ∧ (s.line i).fax.phase = .afterPage ∧ (s.line i).fax.awaited = some ⟨.morePages, n, u⟩ ∧ (s.line
        i).fax.source = some .host ∧ (s.line i).fax.ended = some .more ∧ s.txHolds i = false) ∧
    (∃ (s : State) (i : LineId) (q : Nat) (n : Nat) (u : Nat) (k : Nat), (s.line i).state = .fax ∧ (s.line
        i).fax.role = some .sender ∧ (s.line i).fax.phase = .afterPage ∧ (s.line i).fax.awaited = some ⟨.morePages,
        n, u⟩ ∧ (s.line i).fax.source = some .host ∧ (s.line i).fax.ended = some .more ∧ (s.line i).fax.step = some
        k) ∧
    (∃ (s : State) (i : LineId) (q : Nat) (n : Nat) (u : Nat) (v : Verdict) (x : FaxTerms), (s.line i).state = .fax
        ∧ (s.line i).fax.role = some .sender ∧ (s.line i).fax.phase = .afterPage ∧ (s.line i).fax.awaited = some
        ⟨.lastPage, n, u⟩ ∧ (s.line i).fax.source = some .host ∧ (s.line i).fax.ended = some .last ∧ (s.line
        i).fax.terms = some x) ∧
    (∃ (s : State) (i : LineId) (q : Nat) (n : Nat) (u : Nat) (id : Nat) (e : Entry) (p : PageRecord), (s.line
        i).state = .fax ∧ (s.line i).fax.role = some .sender ∧ (s.line i).fax.phase = .afterPage ∧ (s.line
        i).fax.awaited = some ⟨.morePages, n, u⟩ ∧ (s.line i).fax.source = some (.store id) ∧ (s.line i).fax.ended =
        some .more ∧ s.entry? id = some e ∧ e.pages[(s.line i).fax.docPos + 1]? = some p) ∧
    (∃ (s : State) (i : LineId) (q : Nat) (n : Nat) (u : Nat) (id : Nat) (k : Nat) (m : PageMark), (s.line i).state
        = .fax ∧ (s.line i).fax.role = some .sender ∧ (s.line i).fax.phase = .afterPage ∧ (s.line i).fax.awaited =
        some ⟨(if m = .more then .morePages else .lastPage), n, u⟩ ∧ (s.line i).fax.source = some (.store id) ∧
        (s.line i).fax.ended = some m ∧ (s.line i).fax.docResends < 2 ∧ (s.line i).fax.step = some k) ∧
    (∃ (s : State) (i : LineId) (q : Nat) (n : Nat) (u : Nat) (id : Nat) (k : Nat) (v : Verdict), (s.line i).state =
        .fax ∧ (s.line i).fax.role = some .sender ∧ (s.line i).fax.phase = .afterPage ∧ (s.line i).fax.awaited =
        some ⟨.morePages, n, u⟩ ∧ (s.line i).fax.source = some (.store id) ∧ (s.line i).fax.ended = some .more ∧ v ≠
        .good ∧ (v = .bad → 2 ≤ (s.line i).fax.docResends) ∧ (s.line i).fax.step = some k) ∧
    (∃ (s : State) (i : LineId) (q : Nat) (n : Nat) (u : Nat) (id : Nat) (v : Verdict) (stop : Bool) (x : FaxTerms),
        (s.line i).state = .fax ∧ (s.line i).fax.role = some .sender ∧ (s.line i).fax.phase = .afterPage ∧ (s.line
        i).fax.awaited = some ⟨.lastPage, n, u⟩ ∧ (s.line i).fax.ended = some .last ∧ ((s.line i).fax.source = some
        .host ∨ ((s.line i).fax.source = some (.store id) ∧ (v = .bad → 2 ≤ (s.line i).fax.docResends))) ∧ (s.line
        i).fax.terms = some x) ∧
    (∃ (s : State) (i : LineId) (q : Nat) (n : Nat) (u : Nat) (id : Nat) (v : Verdict) (m : PageMark) (x :
        FaxTerms), (s.line i).state = .fax ∧ (s.line i).fax.role = some .sender ∧ (s.line i).fax.phase = .afterPage
        ∧ (s.line i).fax.awaited = some ⟨(if m = .more then .morePages else .lastPage), n, u⟩ ∧ (s.line i).fax.ended
        = some m ∧ (m = .more ∨ ((s.line i).fax.source = some (.store id) ∧ v = .bad ∧ (s.line i).fax.docResends <
        2)) ∧ (s.line i).fax.terms = some x) :=
  ⟨⟨(on0
      {
        state := .fax
        fax := {
          role := some .sender, phase := .afterPage, source := some .host, step := some 1, ended := some .more
          awaited := some ⟨.morePages, 1, 0⟩, terms := some ⟨1, .normal, false⟩ } }), 0, 160, 1, 0, by decide⟩,
  ⟨(on0
      {
        state := .fax
        fax := {
          role := some .sender, phase := .afterPage, source := some .host, step := some 1, ended := some .more
          awaited := some ⟨.morePages, 1, 0⟩, terms := some ⟨1, .normal, false⟩ } }), 0, 0, 1, 0, 1, by decide⟩,
  ⟨(on0
      {
        state := .fax
        fax := {
          role := some .sender, phase := .afterPage, source := some .host, step := some 1, ended := some .last
          awaited := some ⟨.lastPage, 1, 0⟩, terms := some ⟨1, .normal, false⟩ } }), 0, 0, 1, 0, .bad, ⟨1, .normal,
      false⟩, by decide⟩,
  ⟨(({ (on0 {
      state := .fax
      fax := {
        role := some .sender, phase := .afterPage, source := some (.store 1), step := some 1, ended := some .more
        awaited := some ⟨.morePages, 1, 0⟩, terms := some ⟨1, .normal, false⟩ } }) with
    store := {
      formatted := true
      dir := [{ sampleEntry with
        kind := .fax, state := .new, pages := [⟨0, 7, .good, false⟩, ⟨7, 2, .good, false⟩] }] } } : State).setArea 0
      { isDefined := true, units := 8, join := some (0, .stage) }), 0, 160, 1, 0, 1,
      { sampleEntry with kind := .fax, state := .new, pages := [⟨0, 7, .good, false⟩, ⟨7, 2, .good, false⟩] }, ⟨7,
      2, .good, false⟩, by decide⟩,
  ⟨(on0
      {
        state := .fax
        fax := {
          role := some .sender, phase := .afterPage, source := some (.store 1), step := some 1, ended := some .last
          awaited := some ⟨.lastPage, 1, 0⟩, terms := some ⟨1, .normal, false⟩, docResends := 1 } }), 0, 0, 1, 0, 1,
      1, .last, by decide⟩,
  ⟨(on0
      {
        state := .fax
        fax := {
          role := some .sender, phase := .afterPage, source := some (.store 1), step := some 1, ended := some .more
          awaited := some ⟨.morePages, 1, 0⟩, terms := some ⟨1, .normal, false⟩, docResends := 2 } }), 0, 0, 1, 0,
      1, 1, .bad, by decide⟩,
  ⟨(on0
      {
        state := .fax
        fax := {
          role := some .sender, phase := .afterPage, source := some (.store 1), step := some 1, ended := some .last
          awaited := some ⟨.lastPage, 1, 0⟩, terms := some ⟨1, .normal, false⟩, docResends := 2 } }), 0, 0, 1, 0, 1,
      .bad, true, ⟨1, .normal, false⟩, by decide⟩,
  ⟨(on0
      {
        state := .fax
        fax := {
          role := some .sender, phase := .afterPage, source := some (.store 1), step := some 1, ended := some .last
          awaited := some ⟨.lastPage, 1, 0⟩, terms := some ⟨1, .normal, false⟩, docResends := 1 } }), 0, 0, 1, 0, 1,
      .bad, .last, ⟨1, .normal, false⟩, by decide⟩⟩

theorem FaxBlocks_met :
    (∃ (s : State) (i : LineId) (q : Fin 32) (payload : List Byte), (s.line i).fax.role = some .receiver ∧ (s.line
        i).fax.phase = .page ∧ (s.line i).fax.begun = true ∧ (s.line i).fax.corrects = true ∧ (s.line
        i).fax.block.inHand = true) ∧
    (∃ (s : State) (i : LineId) (n : Nat) (c : Nat), (s.line i).fax.role = some .receiver ∧ (s.line i).fax.phase =
        .page ∧ (s.line i).fax.begun = true ∧ (s.line i).fax.corrects = true ∧ (s.line i).fax.block.inHand = true ∧
        (s.line i).fax.block.missing c ≠ []) ∧
    (∃ (s : State) (i : LineId) (k : AreaId) (n : Nat) (c : Nat) (out : List Byte), (s.line i).fax.role = some
        .receiver ∧ (s.line i).fax.phase = .page ∧ (s.line i).fax.begun = true ∧ (s.line i).fax.corrects = true ∧
        (s.line i).fax.block.inHand = true ∧ (s.line i).fax.block.missing c = [] ∧ (s.line i).copies.faxTo = .host ∧
        (s.line i).fax.heldMark = none ∧ s.joined i .rx = some k ∧ out = ((List.range c).filterMap (fun q =>
        ((s.line i).fax.block.got.find? (fun g => g.1 == q)).map Prod.snd)).flatten ∧ out.length ≤ (s.area k).room)
        ∧
    (∃ (s : State) (i : LineId) (n : Nat) (c : Nat) (m : Nat) (u : Nat), (s.line i).fax.role = some .sender ∧
        (s.line i).fax.phase = .page ∧ (s.line i).fax.awaited = some ⟨.blockEnd n c, m, u⟩ ∧ (s.line i).fax.ended =
        none) ∧
    (∃ (s : State) (i : LineId) (n : Nat) (c : Nat) (m : Nat) (u : Nat) (missing : List Nat), (s.line i).fax.role =
        some .sender ∧ (s.line i).fax.phase = .page ∧ (s.line i).fax.awaited = some ⟨.blockEnd n c, m, u⟩ ∧ missing
        ≠ [] ∧ missing.length ≤ 8 ∧ (s.line i).fax.block.round < 4) ∧
    (∃ (s : State) (i : LineId) (n : Nat) (c : Nat) (m : Nat) (u : Nat) (w : PageMark), (s.line i).fax.role = some
        .sender ∧ (s.line i).fax.phase = .page ∧ (s.line i).fax.awaited = some ⟨.blockEnd n c, m, u⟩ ∧ (s.line
        i).fax.ended = some w) ∧
    (∃ (s : State) (i : LineId) (n : Nat) (c : Nat) (m : Nat) (u : Nat) (k : Nat) (missing : List Nat), (s.line
        i).fax.role = some .sender ∧ (s.line i).fax.phase = .page ∧ (s.line i).fax.awaited = some ⟨.blockEnd n c, m,
        u⟩ ∧ missing ≠ [] ∧ 4 ≤ (s.line i).fax.block.round ∧ (s.line i).fax.block.fallbacks < 2 ∧ (s.line
        i).fax.step = some k) ∧
    (∃ (s : State) (i : LineId) (n : Nat) (c : Nat) (m : Nat) (u : Nat) (missing : List Nat) (x : FaxTerms), (s.line
        i).fax.role = some .sender ∧ (s.line i).fax.phase = .page ∧ (s.line i).fax.awaited = some ⟨.blockEnd n c, m,
        u⟩ ∧ missing ≠ [] ∧ 4 ≤ (s.line i).fax.block.round ∧ 2 ≤ (s.line i).fax.block.fallbacks ∧ (s.line
        i).fax.terms = some x) ∧
    (∃ (s : State) (i : LineId) (n : Nat) (c : Nat) (m : Nat) (u : Nat) (k : Nat) (missing : List Nat), (s.line
        i).fax.role = some .sender ∧ (s.line i).fax.phase = .page ∧ (s.line i).fax.awaited = some ⟨.blockEnd n c, m,
        u⟩ ∧ 8 < missing.length ∧ (s.line i).fax.block.round < 4 ∧ (s.line i).fax.step = some k ∧ (s.line
        i).copies.faxFloor < k) ∧
    (∃ (s : State) (i : LineId) (k : Nat) (m : Nat) (u : Nat) (r : Nat) (missing : List Nat) (x : FaxTerms) (c :
        CallRecord), (s.line i).state = .fax ∧ (s.line i).fax.role = some .sender ∧ (s.line i).fax.phase = .train ∧
        (s.line i).fax.step = some k ∧ (s.line i).fax.terms = some x ∧ (s.line i).call = some c ∧ (s.line
        i).fax.awaited = some ⟨.choose k x.res x.blockCorrection, m, u⟩ ∧ (s.line i).fax.afterTrain = .resend
        missing r ∧ (s.line i).fax.trained = true) ∧
    (∃ (s : State) (i : LineId) (k : AreaId) (n : Nat), (s.line i).fax.role = some .sender ∧ (s.line i).fax.phase =
        .page ∧ (s.line i).fax.begun = true ∧ (s.line i).fax.ended = none ∧ (s.line i).fax.awaited = none ∧ (s.line
        i).fax.source = some .host ∧ (s.line i).fax.corrects = true ∧ s.joined i .tx = some k ∧ (s.area k).marks =
        [] ∧ n ≤ (s.area k).fifo.length ∧ (s.line i).fax.block.bytes.length + n ≤ 4096) ∧
    (∃ (s : State) (i : LineId) (n : Nat) (c : Nat) (m : Nat) (u : Nat) (k : Nat) (missing : List Nat), (s.line
        i).fax.role = some .sender ∧ (s.line i).fax.phase = .page ∧ (s.line i).fax.awaited = some ⟨.blockEnd n c, m,
        u⟩ ∧ missing ≠ [] ∧ (s.line i).fax.block.round < 4 ∧ (s.line i).fax.step = some k ∧ k ≤ (s.line
        i).copies.faxFloor) :=
  ⟨⟨(on0
      {
        copies := { faxTo := .host }
        fax := {
          role := some .receiver, phase := .page, begun := true, terms := some ⟨0, .normal, true⟩
          block := { inHand := true } } }), 0, 31, [0xC5], by decide⟩,
  ⟨(on0
      {
        copies := { faxTo := .host }
        fax := {
          role := some .receiver, phase := .page, begun := true, terms := some ⟨0, .normal, true⟩
          block := { inHand := true } } }), 0, 0, 32, by decide⟩,
  ⟨((on0
      {
        copies := { faxTo := .host }
        fax := {
          role := some .receiver, phase := .page, begun := true, terms := some ⟨0, .normal, true⟩
          block := { inHand := true, got := [(7, [0xC6]), (1, [0xC4]), (0, [0xC5, 0xC6])] } } }).setArea 0
      { isDefined := true, units := 2, join := some (0, .rx) }), 0, 0, 0, 2, [0xC5, 0xC6, 0xC4], by decide⟩,
  ⟨(on0
      {
        fax := {
          role := some .sender, phase := .page, awaited := some ⟨.blockEnd 0 1, 1, 0⟩
          block := { round := 1, number := 255 } } }), 0, 0, 1, 1, 0, by decide⟩,
  ⟨(on0
      {
        fax := {
          role := some .sender, phase := .page, awaited := some ⟨.blockEnd 0 1, 1, 0⟩
          block := { round := 3, number := 255 } } }), 0, 0, 1, 1, 0, [0], by decide⟩,
  ⟨(on0
      {
        fax := {
          role := some .sender, phase := .page, step := some 1, terms := some ⟨1, .normal, true⟩
          awaited := some ⟨.blockEnd 0 1, 1, 0⟩, block := { round := 1 }, ended := some .last } }), 0, 0, 1, 1, 0,
      .last, by decide⟩,
  ⟨(on0
      {
        fax := {
          role := some .sender, phase := .page, step := some 1, terms := some ⟨1, .normal, true⟩
          awaited := some ⟨.blockEnd 0 1, 1, 0⟩, block := { round := 4, fallbacks := 1 } } }), 0, 0, 1, 1, 0, 1,
      [0], by decide⟩,
  ⟨(on0
      {
        fax := {
          role := some .sender, phase := .page, step := some 1, terms := some ⟨1, .normal, true⟩
          awaited := some ⟨.blockEnd 0 1, 1, 0⟩, block := { round := 4, fallbacks := 2 } } }), 0, 0, 1, 1, 0, [0],
      ⟨1, .normal, true⟩, by decide⟩,
  ⟨(on0
      {
        fax := {
          role := some .sender, phase := .page, step := some 1, terms := some ⟨1, .normal, true⟩
          awaited := some ⟨.blockEnd 0 1, 1, 0⟩, block := { round := 3 } } }), 0, 0, 1, 1, 0, 1, [0, 1, 2, 3, 4, 5,
      6, 7, 8], by decide⟩,
  ⟨(on0
      {
        state := .fax
        fax := {
          role := some .sender, phase := .train, step := some 1, terms := some ⟨1, .normal, true⟩, trained := true
          awaited := some ⟨.choose 1 .normal true, 1, 0⟩, afterTrain := .resend [3] 2, block := { number := 255 } }
        call := some sampleCall }), 0, 1, 1, 0, 2, [3], ⟨1, .normal, true⟩, sampleCall, by decide⟩,
  ⟨((on0
      {
        fax := {
          role := some .sender, phase := .page, source := some .host, begun := true
          terms := some ⟨0, .normal, true⟩, block := { bytes := List.replicate 4095 0 } } }).setArea 0
      { isDefined := true, units := 2, join := some (0, .tx), fifo := [(0xC5, 0)] }), 0, 0, 1, ⟨rfl, rfl, rfl, rfl,
      rfl, rfl, rfl, rfl, rfl, by decide, by show (List.replicate 4095 (0 : Byte)).length + 1 ≤ 4096; rw
      [List.length_replicate]⟩⟩,
  ⟨(on0
      {
        copies := { faxFloor := 1 }
        fax := {
          role := some .sender, phase := .page, step := some 1, terms := some ⟨1, .normal, true⟩
          awaited := some ⟨.blockEnd 0 1, 1, 0⟩, block := { round := 3 } } }), 0, 0, 1, 1, 0, 1, [0, 1, 2, 3, 4, 5,
      6, 7, 8], by decide⟩⟩

theorem FaxEndAndWaits_met :
    (∃ (s : State) (i : LineId), (s.line i).fax.role = some .sender ∧ (s.line i).fax.phase ≠ .close) ∧
    (∃ (s : State) (i : LineId), (s.line i).fax.role = some .receiver ∧ (s.line i).fax.phase ≠ .close ∧ (s.line
        i).fax.corrects = false) ∧
    (∃ (s : State) (i : LineId) (r : FaxRole) (why : EndReason), (s.line i).fax.role = some r ∧ (s.line i).fax.phase
        = .close ∧ (s.line i).fax.closing = some why) ∧
    (∃ (s : State) (i : LineId) (r : FaxRole) (a : Awaited), (s.line i).fax.role = some r ∧ (s.line i).fax.awaited =
        some a ∧ a.until_ ≤ s.now ∧ a.sends < 3) ∧
    (∃ (s : State) (i : LineId) (r : FaxRole) (a : Awaited) (x : FaxTerms), (s.line i).fax.role = some r ∧ (s.line
        i).fax.awaited = some a ∧ a.until_ ≤ s.now ∧ 3 ≤ a.sends ∧ (s.line i).fax.terms = some x ∧ (s.line
        i).fax.phase ≠ .close) ∧
    (∃ (s : State) (i : LineId) (d : Ms) (x : FaxTerms), (s.line i).fax.role = some .receiver ∧ (s.line
        i).fax.recvWait = some d ∧ d ≤ s.now ∧ (s.line i).fax.terms = some x ∧ (s.line i).fax.phase ≠ .close) ∧
    (∃ (s : State) (i : LineId) (why : EndReason) (first : EndReason), (s.line i).link = {} ∧ (s.line i).fax.phase =
        .close ∧ (s.line i).fax.closing = some first) :=
  ⟨⟨(on0 {fax := { role := some .sender }}), 0, by decide⟩,
  ⟨(on0 {fax := { role := some .receiver, final := true }}), 0, by decide⟩,
  ⟨(on0 {fax := { role := some .sender, phase := .close, closing := some .done }}), 0, .sender, .done, by decide⟩,
  ⟨(on0 {fax := { role := some .sender, awaited := some ⟨.lastPage, 2, 0⟩ }}), 0, .sender, ⟨.lastPage, 2, 0⟩, by
      decide⟩,
  ⟨(on0 {fax := { role := some .sender, awaited := some ⟨.lastPage, 3, 0⟩, terms := some ⟨0, .normal, false⟩ }}), 0,
      .sender, ⟨.lastPage, 3, 0⟩, ⟨0, .normal, false⟩, by decide⟩,
  ⟨(on0 {fax := { role := some .receiver, recvWait := some 0, terms := some ⟨0, .normal, false⟩ }}), 0, 0, ⟨0,
      .normal, false⟩, by decide⟩,
  ⟨(on0 {fax := { role := some .sender, phase := .close, closing := some .done }}), 0, .remote, .done, by decide⟩⟩

theorem StoreControllerEvents_met :
    (∃ (s : State) (i : LineId) (id : Nat) (b : Nat) (fs : List Nat) (rest : List BlockRequest) (e : Entry) (x :
        Bool), s.store.requests = ⟨id, .guarded, some i⟩ :: rest ∧ s.store.free = b :: fs ∧ s.store.guard ≤
        fs.length ∧ s.entry? id = some e ∧ (s.line i).stage = .writing id true x) ∧
    (∃ (s : State) (i : LineId) (id : Nat) (rest : List BlockRequest) (r : Recording), s.store.requests = ⟨id,
        .guarded, some i⟩ :: rest ∧ s.store.free.length ≤ s.store.guard ∧ (s.line i).voice.recording = some r ∧
        r.ended = none ∧ (s.line i).stage = .writing id true false) ∧
    (∃ (s : State) (i : LineId) (id : Nat) (k : AreaId) (e : Entry), (s.line i).stage = .writing id false false ∧
        s.joined i .stage = some k ∧ s.entry? id = some e ∧ (s.area k).marks = [] ∧ (s.area k).fifo.length ≤ e.room
        ∧ s.store.formatted = true ∧ s.store.whole ∧ dramWf s.dram = true) ∧
    (∃ (s : State) (i : LineId) (id : Nat) (pos : Nat) (stop : Nat) (k : AreaId) (e : Entry), (s.line i).stage =
        .reading id pos stop ∧ s.joined i .stage = some k ∧ s.entry? id = some e ∧ (s.area k).high ≤ (s.area
        k).size) ∧
    (∃ (s : State) (i : LineId) (id : Nat) (k : AreaId) (e : Entry), (s.line i).stage = .writing id false false ∧
        s.joined i .stage = some k ∧ s.entry? id = some e ∧ (s.area k).marks = [] ∧ e.room < (s.area k).fifo.length
        ∧ (e.kind = .fax → (s.line i).blockReceiver = false) ∧ s.store.formatted = true ∧ s.store.whole ∧ dramWf
        s.dram = true) ∧
    (∃ (s : State) (i : LineId) (id : Nat) (k : AreaId) (e : Entry), (s.line i).stage = .writing id false false ∧
        s.joined i .stage = some k ∧ s.entry? id = some e ∧ (s.area k).marks = [] ∧ e.room < (s.area k).fifo.length
        ∧ e.kind = .fax ∧ (s.line i).blockReceiver = true ∧ s.store.formatted = true ∧ s.store.whole ∧ dramWf s.dram
        = true) ∧
    (∃ (s : State) (i : LineId) (id : Nat) (k : AreaId), (s.line i).stage = .writing id false true ∧ s.joined i
        .stage = some k) ∧
    (∃ (s : State) (i : LineId) (id : Nat), (s.line i).stage = .writing id true false) ∧
    (∃ (s : State) (i : LineId) (id : Nat) (b : Nat) (fs : List Nat) (rest : List BlockRequest) (e : Entry) (x :
        Bool), s.store.requests = ⟨id, .unguarded, some i⟩ :: rest ∧ s.store.free = b :: fs ∧ s.entry? id = some e ∧
        (s.line i).stage = .writing id true x) ∧
    (∃ (s : State) (i : LineId) (id : Nat) (rest : List BlockRequest) (x : Bool), s.store.requests = ⟨id,
        .unguarded, some i⟩ :: rest ∧ s.store.free = [] ∧ (s.line i).stage = .writing id true x) ∧
    (∃ (s : State) (i : LineId) (id : Nat) (rest : List BlockRequest) (e : Entry), s.store.requests = ⟨id, .reserve,
        some i⟩ :: rest ∧ s.entry? id = some e) ∧
    (∃ (s : State), s.store.requests = []) ∧
    (∃ (s : State) (i : LineId) (q : Fin 32) (payload : List Byte) (f : Fax) (id : Nat), (s.line i).fax = f ∧ f.role
        = some .receiver ∧ f.phase = .page ∧ f.begun = true ∧ f.corrects = true ∧ f.block.inHand = false ∧ f.entry =
        some id ∧ (s.line i).copies.faxTo = .store) ∧
    (∃ (s : State) (i : LineId) (k : AreaId) (n : Nat) (id : Nat) (f : Fax) (e : Entry) (bs : List Byte), (s.line
        i).fax = f ∧ f.role = some .receiver ∧ f.phase = .page ∧ f.begun = true ∧ f.corrects = true ∧ f.block.inHand
        = true ∧ f.block.got = [(0, bs)] ∧ f.entry = some id ∧ f.discard = false ∧ (s.line i).copies.faxTo = .store
        ∧ (s.line i).stage = .writing id false false ∧ s.joined i .stage = some k ∧ (s.area k).fifo = [] ∧ (s.area
        k).marks = [] ∧ bs.length ≤ (s.area k).size ∧ s.entry? id = some e ∧ s.store.requests = [⟨id, .reserve, some
        i⟩] ∧ e.length + bs.length ≤ (e.chain.length + min 4 s.store.free.length) * 1024 ∧ s.store.formatted = true
        ∧ s.store.whole ∧ dramWf s.dram = true) :=
  ⟨⟨({ (on0 {stage := .writing 1 true false}) with
    store := { requests := [⟨1, .guarded, some 0⟩], free := List.range 17, dir := [sampleEntry] } } : State), 0, 1,
      0, (List.range 17).tail, [], sampleEntry, false, by decide⟩,
  ⟨({ (on0 {stage := .writing 1 true false, voice := { recording := some sampleRec }}) with
    store := { requests := [⟨1, .guarded, some 0⟩], free := List.range 16 } } : State), 0, 1, [], sampleRec, by
      decide⟩,
  ⟨(({ (on0 {stage := .writing 1 false false}) with store := storeWith sampleEntry } : State).setArea 0
      { isDefined := true, units := 8, join := some (0, .stage), fifo := [(0xC5, 0)] }), 0, 1, 0, sampleEntry, ⟨rfl,
      rfl, rfl, rfl, by decide, rfl, storeWith_whole rfl, rfl⟩⟩,
  ⟨(({ (on0 {stage := .reading 1 0 1}) with store := { dir := [{ sampleEntry with length := 1 }] } } :
      State).setArea 0 { isDefined := true, units := 8, join := some (0, .stage), high := 2048 }), 0, 1, 0, 1, 0,
      { sampleEntry with length := 1 }, by decide⟩,
  ⟨(({ (on0 {stage := .writing 1 false false}) with store := storeWith { sampleEntry with length := 1024 } } :
      State).setArea 0 { isDefined := true, units := 8, join := some (0, .stage), fifo := [(0xC5, 0)] }), 0, 1, 0,
      { sampleEntry with length := 1024 }, ⟨rfl, rfl, rfl, rfl, by decide, nofun, rfl, storeWith_whole rfl, rfl⟩⟩,
  ⟨(({ (on0 {
      stage := .writing 1 false false, fax := { role := some .receiver, terms := some ⟨0, .normal, true⟩ } }) with
    store := storeWith { sampleEntry with length := 1024, kind := .fax } } : State).setArea 0
      { isDefined := true, units := 8, join := some (0, .stage), fifo := [(0xC5, 0)] }), 0, 1, 0,
      { sampleEntry with length := 1024, kind := .fax }, ⟨rfl, rfl, rfl, rfl, by decide, rfl, rfl, rfl,
      storeWith_whole rfl, rfl⟩⟩,
  ⟨((on0 {stage := .writing 1 false true}).setArea 0
      { isDefined := true, units := 8, join := some (0, .stage), fifo := [(0xC5, 0)] }), 0, 1, 0, by decide⟩,
  ⟨(on0 {stage := .writing 1 true false}), 0, 1, by decide⟩,
  ⟨({ (on0 {stage := .writing 1 true false}) with
    store := { requests := [⟨1, .unguarded, some 0⟩], free := [16], dir := [sampleEntry] } } : State), 0, 1, 16, [],
      [], sampleEntry, false, by decide⟩,
  ⟨({ (on0 {stage := .writing 1 true false}) with
    store := { requests := [⟨1, .unguarded, some 0⟩], dir := [sampleEntry] } } : State), 0, 1, [], false, by
      decide⟩,
  ⟨({ (on0 {stage := .writing 1 true false}) with
    store := { requests := [⟨1, .reserve, some 0⟩], free := [3, 4, 5], dir := [sampleEntry] } } : State), 0, 1, [],
      sampleEntry, by decide⟩,
  ⟨{}, by decide⟩,
  ⟨(on0
      {
        copies := { faxTo := .store }
        fax := {
          role := some .receiver, phase := .page, begun := true, entry := some 1, terms := some ⟨0, .normal, true⟩ } }),
      0, 31, [0xC5],
      { role := some .receiver, phase := .page, begun := true, entry := some 1, terms := some ⟨0, .normal, true⟩ },
      1, by decide⟩,
  ⟨(({ (on0 {
      stage := .writing 1 false false, copies := { faxTo := .store }
      fax := {
        role := some .receiver, phase := .page, begun := true, entry := some 1, terms := some ⟨0, .normal, true⟩
        block := { inHand := true, got := [(0, [0xC5])] } } }) with
    store := { storeWith { sampleEntry with kind := .fax } with requests := [⟨1, .reserve, some 0⟩] } } :
      State).setArea 0 { isDefined := true, units := 8, join := some (0, .stage) }), 0, 0, 0, 1,
      {
        role := some .receiver, phase := .page, begun := true, entry := some 1, terms := some ⟨0, .normal, true⟩
        block := { inHand := true, got := [(0, [0xC5])] } }, { sampleEntry with kind := .fax }, [0xC5], ⟨rfl, rfl,
      rfl, rfl, rfl, rfl, rfl, rfl, rfl, rfl, rfl, rfl, rfl, rfl, by decide, rfl, rfl, Nat.le_trans (by decide : 1 ≤
      1 * 1024) (Nat.mul_le_mul_right _ (Nat.le_add_right _ _)), rfl, whole_update (storeWith_whole rfl) rfl rfl rfl
      rfl, rfl⟩⟩⟩

theorem VoiceEngineEvents_met :
    (∃ (s : State) (i : LineId), (s.line i).state = .voice ∧ (s.line i).voice.activity = .greeting ∧ s.rangeTaken i
        = true ∧ 0 < (s.line i).profile.recordToneMs) ∧
    (∃ (s : State) (i : LineId) (d : Ms), (s.line i).voice.activity = .recordTone ∧ (s.line i).voice.toneEnd = some
        d ∧ d ≤ s.now ∧ s.store.formatted = true ∧ s.store.dir.length < 256 ∧ s.holdsOpen (some i) = false) ∧
    (∃ (s : State) (i : LineId) (k : AreaId) (r : Recording) (bytes : List Byte), (s.line i).voice.recording = some
        r ∧ r.ended = none ∧ r.target = .host ∧ s.joined i .rx = some k ∧ r.coded + bytes.length ≤ r.limit ∧
        bytes.length ≤ (s.area k).room) ∧
    (∃ (s : State) (i : LineId) (r : Recording) (id : Nat), (s.line i).voice.recording = some r ∧ r.ended = none ∧
        r.entry = some id ∧ r.limit ≤ r.coded) ∧
    (∃ (s : State) (i : LineId) (r : Recording) (d : Ms), (s.line i).voice.recording = some r ∧ r.watchEnd = some d
        ∧ d ≤ s.now) ∧
    (∃ (s : State) (i : LineId) (r : Recording) (id : Nat) (n : Nat) (k : AreaId) (e : Entry), (s.line
        i).voice.recording = some { r with ended := some (.silence, n, .stayHost), entry := some id } ∧ (s.line
        i).stage = .writing id false false ∧ s.joined i .stage = some k ∧ (s.area k).fifo = [] ∧ (s.area k).marks =
        [] ∧ s.entry? id = some e ∧ 0 < n ∧ n ≤ e.length ∧ (∀ q ∈ s.store.requests, q.line ≠ some i) ∧ r.minMs *
        r.bits ≤ n ∧ (s.line i).queue.entries = [] ∧ (s.line i).profile.wants .recordDone = true) ∧
    (∃ (s : State) (i : LineId) (k : AreaId) (p : Playback) (n : Nat), (s.line i).voice.activity = .playing ∧
        (s.line i).voice.playback = some p ∧ p.target = .host ∧ s.joined i .tx = some k ∧ (s.area k).marks = [] ∧ 0
        < n ∧ n ≤ (s.area k).fifo.length) ∧
    (∃ (s : State) (i : LineId) (p : Playback) (id : Nat) (e : Entry), (s.line i).voice.activity = .playing ∧
        (s.line i).voice.playback = some p ∧ p.target = .store ∧ p.cur = some id ∧ p.ids = [id] ∧ p.pos = 0 ∧
        s.entry? id = some e ∧ s.rangeTaken i = true) ∧
    (∃ (s : State) (i : LineId) (k : AreaId) (r : Recording) (bytes : List Byte), (s.line i).voice.recording = some
        r ∧ r.ended = none ∧ r.target = .host ∧ s.joined i .rx = some k ∧ r.coded + (s.area k).room < r.limit ∧
        (s.area k).room < bytes.length ∧ (s.line i).queue.entries = [] ∧ (s.area k).flow = .stop ∧ (s.line
        i).profile.wants .lineOverrun = true) ∧
    (∃ (s : State) (i : LineId) (k : AreaId) (r : Recording) (bytes : List Byte), (s.line i).voice.recording = some
        r ∧ r.ended = none ∧ r.target = .store ∧ s.joined i .stage = some k ∧ r.coded ≤ r.limit ∧ r.limit < r.coded
        + bytes.length ∧ r.limit - r.coded ≤ (s.area k).room) ∧
    (∃ (s : State) (i : LineId) (r : Recording) (id : Nat) (n : Nat) (k : AreaId) (e : Entry) (why : RecEnd),
        (s.line i).voice.recording = some { r with ended := some (why, n, .handOver), entry := some id } ∧ (s.line
        i).state = .voice ∧ (s.line i).stage = .writing id false false ∧ s.joined i .stage = some k ∧ (s.area
        k).fifo = [] ∧ (s.area k).marks = [] ∧ s.entry? id = some e ∧ 0 < n ∧ n ≤ e.length ∧ s.store.requests = [] ∧
        r.minMs * r.bits ≤ n ∧ (s.line i).profile.voiceHold = true ∧ (s.line i).queue.entries = [] ∧ (s.line
        i).profile.wants .recordDone = true ∧ (s.line i).profile.wants .connected = true) ∧
    (∃ (s : State) (i : LineId) (r : Recording) (id : Nat) (n : Nat) (k : AreaId) (e : Entry) (why : RecEnd) (c :
        CallRecord), (s.line i).voice.recording = some
        { r with ended := some (why, n, .handOver), entry := some id } ∧ (s.line i).state = .voice ∧ (s.line
        i).stage = .writing id false false ∧ s.joined i .stage = some k ∧ (s.area k).fifo = [] ∧ (s.area k).marks =
        [] ∧ s.entry? id = some e ∧ 0 < n ∧ n ≤ e.length ∧ s.store.requests = [] ∧ r.minMs * r.bits ≤ n ∧ (s.line
        i).profile.voiceHold = false ∧ (s.line i).call = some c ∧ (s.line i).link = {} ∧ (s.line i).fax = {} ∧
        (s.line i).job = .voice ∧ (s.line i).queue.entries = [] ∧ (s.line i).profile.wants .recordDone = true ∧
        (s.line i).profile.wants .callEnded = true) ∧
    (∃ (s : State) (i : LineId) (r : Recording) (id : Nat) (n : Nat) (k : AreaId) (e : Entry) (c : CallRecord),
        (s.line i).voice.recording = some { r with ended := some (.tone, n, .switchFax), entry := some id } ∧
        (s.line i).state = .voice ∧ (s.line i).stage = .writing id false false ∧ s.joined i .stage = some k ∧
        (s.area k).fifo = [] ∧ (s.area k).marks = [] ∧ s.entry? id = some e ∧ 0 < n ∧ n ≤ e.length ∧
        s.store.requests = [] ∧ r.minMs * r.bits ≤ n ∧ (s.line i).call = some c ∧ s.incomingReady i (s.line
        i).copies .fax = true ∧ s.faxLadder ≠ [] ∧ (s.line i).queue.entries = [] ∧ (s.line i).profile.wants
        .recordDone = true) ∧
    (∃ (s : State) (i : LineId) (r : Recording) (id : Nat) (n : Nat) (d : Nat) (k : AreaId) (e : Entry) (c :
        CallRecord), (s.line i).voice.recording = some r ∧ r.ended = none ∧ r.entry = some id ∧ (s.line
        i).voice.activity = .recording ∧ (s.line i).state = .voice ∧ (s.line i).stage = .writing id false false ∧
        s.joined i .stage = some k ∧ (s.area k).fifo = [] ∧ (s.area k).marks = [] ∧ s.entry? id = some e ∧ 0 < n ∧ n
        ≤ e.length ∧ s.store.requests = [] ∧ r.minMs * r.bits ≤ n ∧ n = r.silentStart.getD r.coded ∧ (s.line
        i).loopTimer = some d ∧ d ≤ s.now ∧ (s.line i).call = some c ∧ (s.line i).link = {} ∧ (s.line i).fax = {} ∧
        (s.line i).job = .voice ∧ (s.line i).queue.entries = [] ∧ (s.line i).profile.wants .recordDone = true ∧
        (s.line i).profile.wants .callEnded = true) ∧
    (∃ (s : State) (i : LineId) (r : Recording) (id : Nat) (n : Nat) (k : AreaId) (e : Entry) (why : RecEnd),
        (s.line i).voice.recording = some { r with ended := some (why, n, .stayHost), entry := some id } ∧ (s.line
        i).stage = .writing id false false ∧ s.joined i .stage = some k ∧ (s.area k).fifo = [] ∧ (s.area k).marks =
        [] ∧ s.entry? id = some e ∧ n ≤ e.length ∧ s.store.requests = [] ∧ n < r.minMs * r.bits ∧ (s.line
        i).queue.entries = [] ∧ (s.line i).profile.wants .recordDone = true) ∧
    (∃ (s : State) (i : LineId) (b : Ms) (e : ToneEntry) (m : Matcher), (s.line i).state = .voice ∧ (s.line
        i).voice.mode = .auto ∧ (s.line i).voice.activity = .recordTone ∧ (s.line i).tone.matchers = [m] ∧
        s.toneTable = [e] ∧ m.id = e.id ∧ e.continuous = true ∧ m.phase = .on b ∧ b + (e.segment m.seg).onMin ≤
        s.now ∧ (e.cls = .busy ∨ e.cls = .congestion ∨ e.cls = .dial) ∧ (s.line i).profile.voiceHold = true ∧
        (s.line i).queue.entries = [] ∧ (s.line i).profile.wants .recordDone = true ∧ (s.line i).profile.wants
        .connected = true) ∧
    (∃ (s : State) (i : LineId) (x : Digit) (b : Nat), (s.line i).state = .voice ∧ (s.line i).voice.mode = .auto ∧
        (s.line i).voice.activity = .recordTone ∧ (s.line i).tone.dtmf = .held x (some b) ∧ b + 40 ≤ s.now ∧ (s.line
        i).profile.bargeIn = true ∧ (s.line i).queue.entries = [] ∧ (s.line i).profile.wants .digits = false ∧
        (s.line i).profile.wants .playDone = true ∧ (s.line i).profile.wants .connected = true) :=
  ⟨⟨((on0 {state := .voice, voice := { activity := .greeting }, stage := .reading 1 1 1}).setArea 0
      { isDefined := true, units := 8, join := some (0, .stage) }), 0, by decide⟩,
  ⟨({ (on0 {voice := { activity := .recordTone, toneEnd := some 0 }}) with store := { formatted := true } } :
      State), 0, 0, by decide⟩,
  ⟨((on0
      {
        voice := {
          recording := some {
            target := .host, kind := .voice, mailbox := 0, entry := none, bits := 4, limit := 4000
            watchOpen := false, silenceEndS := 5, minMs := 1, coded := 3999 } } }).setArea 0
      { isDefined := true, units := 2, join := some (0, .rx) }), 0, 0,
      {
        target := .host, kind := .voice, mailbox := 0, entry := none, bits := 4, limit := 4000, watchOpen := false
        silenceEndS := 5, minMs := 1, coded := 3999 }, [0xC5], by decide⟩,
  ⟨(on0 {voice := { recording := some { sampleRec with coded := 4000 } }}), 0, { sampleRec with coded := 4000 }, 1,
      by decide⟩,
  ⟨(on0 {voice := { recording := some { sampleRec with watchEnd := some 0 } }}), 0,
      { sampleRec with watchEnd := some 0 }, 0, by decide⟩,
  ⟨(({ (on0 {
      stage := .writing 1 false false
      voice := { recording := some { sampleRec with ended := some (.silence, 4, .stayHost), entry := some 1 } } })
      with
    store := { dir := [{ sampleEntry with length := 5 }] } } : State).setArea 0
      { isDefined := true, units := 8, join := some (0, .stage) }), 0, sampleRec, 1, 4, 0,
      { sampleEntry with length := 5 }, by decide⟩,
  ⟨((on0 {voice := { activity := .playing, playback := some { target := .host, ids := [], bits := 4 } }}).setArea 0
      { isDefined := true, units := 2, join := some (0, .tx), fifo := [(0xC5, 0)] }), 0, 0,
      { target := .host, ids := [], bits := 4 }, 1, by decide⟩,
  ⟨(({ (on0 {
      voice := { activity := .playing, playback := some { target := .store, ids := [1], bits := 4, cur := some 1 } }
      stage := .reading 1 1 1 }) with
    store := { dir := [{ sampleEntry with state := .new }] } } : State).setArea 0
      { isDefined := true, units := 8, join := some (0, .stage) }), 0,
      { target := .store, ids := [1], bits := 4, cur := some 1 }, 1, { sampleEntry with state := .new }, by decide⟩,
  ⟨((on0
      {
        voice := {
          recording := some {
            target := .host, kind := .voice, mailbox := 0, entry := none, bits := 4, limit := 4000
            watchOpen := false, silenceEndS := 5, minMs := 1, coded := 100 } } }).setArea 0
      { isDefined := true, units := 2, join := some (0, .rx), flow := .stop, fifo := List.replicate 511 (0, 0) }),
      0, 0,
      {
        target := .host, kind := .voice, mailbox := 0, entry := none, bits := 4, limit := 4000, watchOpen := false
        silenceEndS := 5, minMs := 1, coded := 100 }, [1, 2], by decide +kernel⟩,
  ⟨((on0 {voice := { recording := some { sampleRec with coded := 3999 } }}).setArea 0
      { isDefined := true, units := 8, join := some (0, .stage) }), 0, 0, { sampleRec with coded := 3999 }, [1, 2],
      by decide⟩,
  ⟨(({ (on0 {
      state := .voice, job := .voice, call := some sampleCall, stage := .writing 1 false false
      voice := {
        mode := .auto, activity := .recording
        recording := some { (sampleRec : Recording) with ended := some (.silence, 4, .handOver), entry := some 1 } }
      profile := { voiceHold := true } }) with
    store := { dir := [{ sampleEntry with length := 5 }] } } : State).setArea 0
      { isDefined := true, units := 8, join := some (0, .stage) }), 0, sampleRec, 1, 4, 0,
      { sampleEntry with length := 5 }, .silence, by decide⟩,
  ⟨(({ (on0 {
      state := .voice, job := .voice, call := some sampleCall, stage := .writing 1 false false
      voice := {
        mode := .auto, activity := .recording
        recording := some { (sampleRec : Recording) with ended := some (.silence, 4, .handOver), entry := some 1 } } })
      with
    store := { dir := [{ sampleEntry with length := 5 }] } } : State).setArea 0
      { isDefined := true, units := 8, join := some (0, .stage) }), 0, sampleRec, 1, 4, 0,
      { sampleEntry with length := 5 }, .silence, sampleCall, by decide⟩,
  ⟨(({ (on0 {
      state := .voice, job := .voice, call := some sampleCall, stage := .writing 1 false false
      voice := {
        mode := .auto, activity := .recording
        recording := some { (sampleRec : Recording) with ended := some (.tone, 4, .switchFax), entry := some 1 } } })
      with
    store := { dir := [{ sampleEntry with length := 5 }] }, faxLadder := [⟨300, 0, 1, 0⟩] } : State).setArea 0
      { isDefined := true, units := 8, join := some (0, .stage) }), 0, sampleRec, 1, 4, 0,
      { sampleEntry with length := 5 }, sampleCall, by decide⟩,
  ⟨(({ (on0 {
      state := .voice, job := .voice, call := some sampleCall, stage := .writing 1 false false
      voice := { mode := .auto, activity := .recording, recording := some { sampleRec with coded := 4 } }
      loopTimer := some 0 }) with
    store := { dir := [{ sampleEntry with length := 5 }] } } : State).setArea 0
      { isDefined := true, units := 8, join := some (0, .stage) }), 0, { sampleRec with coded := 4 }, 1, 4, 0, 0,
      { sampleEntry with length := 5 }, sampleCall, by decide⟩,
  ⟨(({ (on0 {
      state := .voice, job := .voice, call := some sampleCall, stage := .writing 1 false false
      voice := {
        mode := .auto, activity := .recording
        recording := some { (sampleRec : Recording) with ended := some (.silence, 3, .stayHost), entry := some 1 } } })
      with
    store := { dir := [{ sampleEntry with length := 5 }] } } : State).setArea 0
      { isDefined := true, units := 8, join := some (0, .stage) }), 0, sampleRec, 1, 3, 0,
      { sampleEntry with length := 5 }, .silence, by decide⟩,
  ⟨{ (on0 {
      state := .voice, voice := { mode := .auto, activity := .recordTone }
      tone := { matchers := [{ id := 1, phase := .on 0, first := 7 }] }, profile := { voiceHold := true } }) with
    toneTable := [{ sampleTone .busy with cadence := [⟨1000, 2000, 0, 0⟩] }], now := 1000 }, 0, 0,
      { sampleTone .busy with cadence := [⟨1000, 2000, 0, 0⟩] }, { id := 1, phase := .on 0, first := 7 }, by
      decide⟩,
  ⟨{ (on0 {
      state := .voice, voice := { mode := .auto, activity := .recordTone }, tone := { dtmf := .held .d5 (some 0) }
      profile := { noticeMask := 0x3BFFF } }) with
    now := 40 }, 0, .d5, 0, by decide⟩⟩

theorem StepKeepsWf_met :
    ∃ (s : State) (t : State), s.Wf ∧ step s = .next t :=
  ⟨{}, ({} : State).tick, ⟨blank_wf, rfl⟩⟩

theorem StepKeepsStoreWhole_met :
    (∃ (mib : Nat) (g : Nat), sizeLegal mib = true) ∧
    (∃ (s : State) (t : State), s.store.whole ∧ step s = .next t) :=
  ⟨⟨2, 16, by decide⟩,
  ⟨{}, ({} : State).tick, ⟨nofun, rfl⟩⟩⟩

theorem TablesChangeByTheirDirectives_met :
    (∃ (c : Instr) (s : State) (t : State), exec c s = .next t ∧ c ≠ .powerOn ∧ c ≠ .lineBreak ∧ c ≠
        .outboundFrameSent) ∧
    (∃ (s : State) (t : State), exec .outboundFrameSent s = .next t) ∧
    (∃ (s : State) (t : State), exec .lineBreak s = .next t) ∧
    (∃ (s : State) (t : State), exec .powerOn s = .next t) :=
  ⟨⟨.interByteGapExpiry, {}, {}, ⟨rfl, nofun, nofun, nofun⟩⟩,
  ⟨{}, {}, rfl⟩,
  ⟨({} : State), { ({} : State).partReset with inBreak := true }, rfl⟩,
  ⟨{}, { State.reset with lines := ({} : State).lines.map Line.atReset, pending := [] }, rfl⟩⟩

theorem DramReadsBack_met :
    (∃ (m : List Host.Cell) (a : Nat) (x : Nat) (v : Byte), dramWf m = true) ∧
    (∃ (m : List Host.Cell) (m' : List Host.Cell), dramWf m = true ∧ dramWf m' = true ∧ (∀ x, dramRead m x =
        dramRead m' x)) :=
  ⟨⟨[], 0, 0, 1, by decide⟩,
  ⟨[], [], ⟨rfl, rfl, fun _ => rfl⟩⟩⟩

/-! ## Ill-formed commands, refused -/

theorem test_wf_refuses_long_frame : (Instr.hostDirectiveFrame (List.replicate 256 0)).wellFormed = false := by
  decide +kernel
theorem test_wf_refuses_long_directive : (Instr.dial ⟨0, 1, List.replicate 253 0⟩).wellFormed = false := by
  decide +kernel
theorem test_wf_refuses_no_bytes : (Instr.hostFrameBad []).wellFormed = false := by decide
theorem test_wf_refuses_tone_id : (Instr.toneDetectorChange 0 16 [] false).wellFormed = false := by decide
theorem test_wf_refuses_signal_sum : (Instr.measurementRecord 0 ⟨2147483648, 0, 0, true⟩).wellFormed = false := by
  decide
theorem test_wf_refuses_error_sum : (Instr.trainingRecord 0 ⟨0, 2147483648, 0, true⟩).wellFormed = false := by decide
theorem test_wf_refuses_hits : (Instr.measurementRecord 0 ⟨0, 0, 256, true⟩).wellFormed = false := by decide
theorem test_wf_refuses_empty_link_frame : (Instr.linkDataReceived 0 0 0 []).wellFormed = false := by decide
theorem test_wf_refuses_long_block_frame :
    (Instr.faxBlockFrameReceived 0 0 (List.replicate 129 0)).wellFormed = false := by decide +kernel
theorem test_wf_refuses_verdict_quality : (Instr.faxVerdictReceived 0 .good false 161).wellFormed = false := by decide
theorem test_wf_refuses_block_number : (Instr.faxBlockEndReceived 0 256 1).wellFormed = false := by decide
theorem test_wf_refuses_block_count : (Instr.faxBlockEndReceived 0 0 33).wellFormed = false := by decide
theorem test_wf_refuses_empty_block : (Instr.faxBlockEndReceived 0 0 0).wellFormed = false := by decide
theorem test_wf_refuses_map_number : (Instr.faxBlockMapReceived 0 256 []).wellFormed = false := by decide
theorem test_wf_refuses_map_order : (Instr.faxBlockMapReceived 0 0 [3, 1]).wellFormed = false := by decide
theorem test_wf_refuses_map_seq : (Instr.faxBlockMapReceived 0 0 [1, 32]).wellFormed = false := by decide

/-! ## Worked values of the spec -/

/-- R75's worked example, row by row: the interval quality and the score. -/
theorem test_quality_row1 :
    intervalQuality ⟨5000000, 20000, 3, true⟩ = 95 ∧ score ⟨5000000, 20000, 3, true⟩ 6 = 77 := by decide +kernel
theorem test_quality_row3 :
    intervalQuality ⟨1000, 0, 20, true⟩ = 160 ∧ score ⟨1000, 0, 20, true⟩ 6 = 88 := by decide +kernel
theorem test_quality_row4 : score ⟨999, 1000, 0, true⟩ 6 = 0 := by decide +kernel
theorem test_quality_row7 :
    intervalQuality ⟨1000000, 10000, 255, true⟩ = 80 ∧ score ⟨1000000, 10000, 255, true⟩ 8 = 0 := by decide +kernel
/-- The accumulator of that example: 720 becomes 707 after a score of 77. -/
theorem test_accumulator : accumulate 720 77 = 707 ∧ 707 / 8 = 88 := by decide

def exampleLadder : List LadderStep :=
  [⟨2400, 24, 40, 0⟩, ⟨4800, 36, 52, 0⟩, ⟨9600, 56, 72, 0⟩, ⟨14400, 72, 88, 0⟩, ⟨19200, 84, 100, 0⟩, ⟨24000, 96, 112, 0⟩,
   ⟨28800, 108, 124, 0⟩]
/-- The ladder examples of R84, R92, R94 and R99. -/
theorem test_fall_back : fallBackTarget exampleLadder 0 4 76 = 3 ∧ fallBackTarget exampleLadder 0 5 88 = 4 := by decide
theorem test_retrain_target :
    retrainTarget exampleLadder 0 4 60 = 2 ∧ retrainTarget exampleLadder 0 4 90 = 4 := by decide
theorem test_agreed_ceiling :
    highestRate exampleLadder 21600 7 = some 4 ∧ highestRate exampleLadder 2000 7 = none := by decide

/-- R12's worked example: patterns 2 and 3 both fit 450 and 800 ms, and the lower is taken. -/
theorem test_cadence_class :
    cadenceClass [450, 800] 1 [[(1500, 2500)], [(300, 900), (300, 900)], [(300, 1000), (700, 1500)]] = .pattern 2 := by
  decide
theorem test_cadence_class_longer :
    cadenceClass [450, 950] 1 [[(1500, 2500)], [(300, 900), (300, 900)], [(300, 1000), (700, 1500)]] = .pattern 3 := by
  decide

/-- R25's examples: 480 Hz is met from 472.8 to 487.2 Hz, and 480 with 620 Hz is on where 440 with 480 Hz is off. -/
theorem test_frequency_bounds :
    [472799, 472800, 487200, 487201].map (fun f => hears 480 (-20) [⟨f, -2000⟩]) = [false, true, true, false] := by decide
theorem test_common_frequency :
    let heard : List HeardTone := [⟨480000, -1500⟩, ⟨620000, -1500⟩]
    (⟨0, .busy, 480, some 620, -20, [], 1⟩ : ToneEntry).isOn heard = true ∧
    (⟨1, .ringback, 440, some 480, -20, [], 1⟩ : ToneEntry).isOn heard = false := by decide
/-- A valid pair by R35: 770 and 1336 Hz within 8 dB; 8.01 dB apart, or at −30.01 dBm, they are none. -/
theorem test_dtmf_pair :
    dtmfPair [⟨770000, -3000⟩, ⟨1336000, -2200⟩] = some .d5 ∧ dtmfPair [⟨770000, -3000⟩, ⟨1336000, -2199⟩] = none ∧
    dtmfPair [⟨770000, -3001⟩, ⟨1336000, -2999⟩] = none := by decide

/-- R140's table of M, for stores of 2, 4, 8 and 16 MiB. -/
theorem test_message_blocks :
    messageBlocks 2 = 2028 ∧ messageBlocks 4 = 4072 ∧ messageBlocks 8 = 8160 ∧ messageBlocks 16 = 16336 := by decide
/-- The trim of R146's worked example: 461,000 bytes need 451 blocks. -/
theorem test_trim_blocks : blocksFor 480000 = 469 ∧ blocksFor 461000 = 451 := by decide

/-- The noise floor of R30's worked example, frames 1 and 4. -/
theorem test_noise_floor_rises :
    nextHolds (exec (.powerFrameEnd 1 (-52)) { ({} : State).setLine 1 { state := .progress } with now := 32 })
      (fun t => (t.line 1).tone.nf16 = -952) := ⟨_, rfl, by decide⟩
theorem test_noise_floor_falls :
    nextHolds (exec (.powerFrameEnd 1 (-70))
        { ({} : State).setLine 1 { state := .progress, tone := { nf16 := -938 } } with now := 32 })
      (fun t => (t.line 1).tone.nf16 = -950) := ⟨_, rfl, by decide⟩

/-- The last RESEND of the send-queue example of R104 to R107: an ACK outside the window is ignored. -/
theorem test_ack_outside_window :
    nextHolds (exec (.linkAckReceived 1 7) (({} : State).setLine 1
        { state := .data
          link := { phase := .linked, window := some 4, n := 5, sendQueue := [{ seq := 1, payload := [1] }] } }))
      (fun t => (t.line 1).link.sendQueue.length = 1) := ⟨_, rfl, by decide⟩

/-- The verdicts of R127's worked example, pages 1 to 4. -/
theorem test_verdicts :
    (({ lines := 1100, bad := 40, longest := 9 } : PageTally).verdict {} 90 84 = .good) ∧
    (({ lines := 1100, bad := 30, longest := 5 } : PageTally).verdict {} 80 84 = .goodRetrain) ∧
    (({ lines := 1100, bad := 120, longest := 20 } : PageTally).verdict {} 60 72 = .goodRetrain) ∧
    (({ lines := 1100, bad := 200, longest := 40 } : PageTally).verdict {} 58 56 = .bad) := by decide

/-- R180's worked example: a full queue gives up its oldest entry of the lowest priority. -/
theorem test_queue_evicts :
    let q : NoticeQueue := {
      entries := [.flow [(0, .stop)], .signals {}] ++ List.replicate 14 (.rateChanged 1 2 .host 5) }
    (q.offer (.playDone none .done [])).entries.take 2 = [.flow [(0, .stop)], .rateChanged 1 2 .host 5] ∧
    (q.offer (.playDone none .done [])).lost = true := by decide +kernel

/-- R157: a greeting coded at 2 bits plays at 2 bits on a line whose voice_bits is 4. -/
theorem test_greeting_bits :
    nextHolds (exec (.voiceBytesDecoded 0 1) (State.setArea
        { (on0 {
            state := .classify, voice := { mode := .auto, activity := .greeting, greeting := some 1 },
            profile := { voiceBits := 4 } }) with store := { dir := [{ sampleEntry with bits := some 2 }] } } 0
        { isDefined := true, units := 8, join := some (0, .stage), fifo := [(0xC5, 0)] }))
      (fun t => (t.line 0).transmit = .voice 2 [0xC5]) := ⟨_, rfl, by decide⟩

/-- R130: BLOCK_END 0 of a page of which no frame has come lists all its seqs, also after a page of one block 0. -/
theorem test_block_end_of_new_page :
    nextHolds (exec (.faxBlockEndReceived 0 0 3) (on0 {
        copies := { faxTo := .host }
        fax := { role := some .receiver, phase := .page, terms := some ⟨0, .normal, true⟩, block := { count := 1 } } }))
      (fun t => (t.line 0).fax.sent = some (.blockMap 0 [0, 1, 2])) := ⟨_, rfl, by decide⟩

/-- R148: a sender from the store that takes HANG_UP stops reading its document. -/
theorem test_hang_up_stops_reading :
    nextHolds (exec (.hangUp ⟨0, 9, [0]⟩) (on0 {
        state := .fax, job := .fax, stage := .reading 1 0 5
        fax := {
          role := some .sender, phase := .page, begun := true, source := some (.store 1)
          terms := some ⟨0, .normal, false⟩ } }))
      (fun t => (t.line 0).stage = .idle) := ⟨_, rfl, by decide⟩

/-- R172: a fax CONNECTED names block correction on or off, so that on is 0; the step, the rate and FINE come before. -/
theorem test_connected_block_correction :
    (Terms.fax .sender 1 0x0960 .fine true).encode = [2, 0, 1, 0x60, 0x09, 1, 0] ∧
    (Terms.fax .sender 1 0x0960 .fine false).encode = [2, 0, 1, 0x60, 0x09, 1, 1] := by decide

/-- R157: a greeting with no STAGE area to take bytes from sends silence. -/
theorem test_greeting_without_area_is_silent :
    nextHolds (exec (.voiceBytesDecoded 0 1) (on0 {
        state := .classify
        voice := { mode := .auto, activity := .greeting, greeting := some 1, decoding := some (2, [0xC5]) } }))
      (fun t => (t.line 0).transmit = .silence) := ⟨_, rfl, by decide⟩

/-- R126: after a new TRAIN_OK a MORE_PAGES with no page signal is judged as an empty page, whatever the old tally. -/
theorem test_new_training_ends_page :
    let f : Fax := {
      role := some .receiver, phase := .train, step := some 0, begun := true, terms := some ⟨0, .normal, false⟩
      checking := true, checkQt := some 90, trained := true, tally := { lines := 7, bad := 7 } }
    nextHolds (exec (.faxCheckEnd 0 true 0)
        { on0 { state := .fax, job := .fax, fax := f } with faxLadder := [⟨24, 40, 60, 10⟩] })
      (fun t => (t.line 0).fax.phase = .page ∧ ((t.ensurePage 0).line 0).fax.tally.lines = 0) := ⟨_, rfl, by decide⟩

end Sys2Proof.Tests
end

section
/-! SUPPORT. The part right after power-on (R1, R5, R60, R74, R95, R117, R139, R156, R182). -/

namespace Sys2Proof.Machine

/-- Every line is a fresh line after power-on. -/
@[simp] theorem reset_line (i : LineId) : State.reset.line i = {} := by simp [State.line, State.reset]

/-- Every area is undefined and unjoined after power-on. -/
@[simp] theorem reset_area (k : AreaId) : State.reset.area k = {} := by simp [State.area, State.reset]

/-- Settles O3: each field of the reset state is read off its definition. -/
theorem resetLeaves : Obligations.ResetLeaves := by
  unfold Obligations.ResetLeaves
  have hprofile : (List.range 52).map ({} : Profile).field = [0, 80, 80, 60, 40, 700, 600, 5000, 0, 60, 150, 1500, 8000,
      3000, 0, 1, 4, 4, 0, 8000, 12, 6, 300, 1400, 0, 4, 6, 0, 5, 7, 1500, 6, 30, 6, 4, 80, 40, 6, 1, 5, 15, 16, 1, 4, 5,
      120, 1000, 5, 1, 0, 500, 262143] := by decide
  refine ⟨?_, ?_, rfl, rfl, ?_, rfl, rfl, rfl, rfl, ?_, ?_, ?_, ?_, ?_, ?_, ?_, ?_, ?_⟩
  · simp
  · simp [tablesSame, State.reset]
  · simp
  · simp
  · intro i; rw [reset_line]; exact hprofile
  · simp
  · simp [State.oldestByteTime, LinkPhase.isUp]
  · simp
  · simp [Quality.q]
  · simp [ToneEngine.nf, Line.transmit]
  · simp [State.reset, Store.m, Store.freeCount]
  · simp [State.reset]

end Sys2Proof.Machine
end

section
/-! SUPPORT. What an operation on one line leaves alone: the part around the line. A call's own operations reach the
lines, the areas, the store and the DRAM only; of the profiles none changes; and of another line they change no more than
the answer to a block request does (R144, R148): its STAGE operation, voice, fax and notice queue. -/

namespace Sys2Proof.Machine

/-- The part but for its lines, its areas, the store and the DRAM. -/
def State.outside (s : State) : State :=
  { s with lines := Vector.replicate 4 {}, areas := Vector.replicate 12 {}, store := {}, dram := [] }

/-- A line but for what the answer to a block request can change (R144, R148). -/
def Line.settled (l : Line) : Line := { l with stage := .idle, voice := {}, fax := {}, faxEcho := {}, queue := {} }

/-- The part around a line: all outside lines, areas, store and DRAM, the line's profile, and the other lines settled. -/
def State.around (s : State) (i : LineId) : State × (LineId → Line) :=
  (s.outside, fun j => if j = i then { profile := (s.line i).profile } else (s.line j).settled)

variable {s t : State} {i j : LineId}

/-! ## What the part around a line gives -/

theorem around_outside (h : t.around i = s.around i) : t.outside = s.outside := congrArg Prod.fst h

theorem eq_of_outside (h : t.outside = s.outside) :
    t = { s with lines := t.lines, areas := t.areas, store := t.store, dram := t.dram } :=
  congrArg (fun o : State => { o with lines := t.lines, areas := t.areas, store := t.store, dram := t.dram }) h

theorem eq_of_around (h : t.around i = s.around i) :
    t = { s with lines := t.lines, areas := t.areas, store := t.store, dram := t.dram } :=
  eq_of_outside (around_outside h)

theorem settled_of_around (h : t.around i = s.around i) (hj : j ≠ i) : (t.line j).settled = (s.line j).settled := by
  have := congrFun (congrArg Prod.snd h) j
  simpa [State.around, hj] using this

theorem profile_of_around (h : t.around i = s.around i) (j : LineId) : (t.line j).profile = (s.line j).profile := by
  by_cases hj : j = i
  · subst hj
    have := congrArg Line.profile (congrFun (congrArg Prod.snd h) j)
    simpa [State.around] using this
  · exact (congrArg Line.profile (settled_of_around h hj) :)

theorem tablesSame_of_outside (h : t.outside = s.outside) : tablesSame s t :=
  ⟨(congrArg State.toneTable h :), (congrArg State.patterns h :), (congrArg State.routes h :), (congrArg State.dataLadder h :),
    (congrArg State.faxLadder h :)⟩

theorem now_of_around (h : t.around i = s.around i) : t.now = s.now := (congrArg State.now (around_outside h) :)

theorem toneTable_of_around (h : t.around i = s.around i) : t.toneTable = s.toneTable :=
  (congrArg State.toneTable (around_outside h) :)

/-- Two states alike outside, in the profiles, and in the other lines settled are alike around a line. -/
theorem around_ext (ho : t.outside = s.outside) (hp : (t.line i).profile = (s.line i).profile)
    (hl : ∀ j, j ≠ i → (t.line j).settled = (s.line j).settled) : t.around i = s.around i := by
  refine Prod.ext ho (funext fun j => ?_)
  by_cases hj : j = i
  · simp [State.around, hj, hp]
  · simp [State.around, hj, hl j hj]

/-! ## The primitive updates -/

variable (s i j)

@[simp] theorem setLine_outside (l : Line) : (s.setLine i l).outside = s.outside := rfl
@[simp] theorem modLine_outside (f : Line → Line) : (s.modLine i f).outside = s.outside := rfl
@[simp] theorem notifyLine_outside (n : Notice) : (s.notifyLine i n).outside = s.outside := rfl

/-- An update of the line that keeps its profile. -/
theorem setLine_around {l : Line} (h : l.profile = (s.line i).profile) : (s.setLine i l).around i = s.around i :=
  around_ext rfl (by simpa using h) (fun j hj => by simp [hj])

/-- An update of the line that keeps every profile. -/
@[simp] theorem modLine_around {f : Line → Line} (h : ∀ l, (f l).profile = l.profile) :
    (s.modLine i f).around i = s.around i := setLine_around s i (h _)

/-- An update of any line that keeps it settled. -/
theorem modLine_around_settled {f : Line → Line} (h : ∀ l, (f l).settled = l.settled) :
    (s.modLine j f).around i = s.around i := by
  have hset : ∀ k, ((s.modLine j f).line k).settled = (s.line k).settled := fun k => by
    by_cases hk : k = j
    · subst hk; simp [h]
    · simp [hk]
  exact around_ext rfl (congrArg Line.profile (hset i) :) (fun k _ => hset k)

@[simp] theorem setArea_around (k : AreaId) (a : Area) : (s.setArea k a).around i = s.around i := rfl
@[simp] theorem modArea_around (k : AreaId) (f : Area → Area) : (s.modArea k f).around i = s.around i := rfl
@[simp] theorem modEntry_around (id : Nat) (f : Entry → Entry) : (s.modEntry id f).around i = s.around i := rfl
@[simp] theorem request_around (r : BlockRequest) : (s.request r).around i = s.around i := rfl

theorem notify_settled (l : Line) (n : Notice) : (l.notify n).settled = l.settled := by
  unfold Line.notify
  split <;> rfl

@[simp] theorem notifyLine_around (n : Notice) : (s.notifyLine j n).around i = s.around i :=
  modLine_around_settled s i j (fun l => notify_settled l n)

@[simp] theorem dropHost_around (n : Nat) : (s.dropHost j n).around i = s.around i := by
  unfold State.dropHost
  split <;> simp

@[simp] theorem overrun_around (n : Nat) : (s.overrun j n).around i = s.around i := by
  unfold State.overrun
  split <;> simp

/-! ## The areas (R66 to R72) -/

@[simp] theorem setFlow_around (k : AreaId) (f : FlowState) : (s.setFlow k f).around i = s.around i := by
  unfold State.setFlow
  split_ifs
  · rfl
  · dsimp only
    split <;> simp

@[simp] theorem append_around (k : AreaId) (bs : List Byte) : (s.append k bs).1.around i = s.around i := by
  unfold State.append
  dsimp only
  split <;> simp

@[simp] theorem remove_around (k : AreaId) (n : Nat) : (s.remove k n).2.around i = s.around i := by
  unfold State.remove
  dsimp only
  split <;> simp

@[simp] theorem takeMark_around (k : AreaId) : (s.takeMark k).around i = s.around i := rfl

@[simp] theorem emptyArea_around (k : AreaId) : (s.emptyArea k).around i = s.around i := by simp [State.emptyArea]

@[simp] theorem emptyStage_around : (s.emptyStage j).around i = s.around i := by
  unfold State.emptyStage
  split <;> simp

@[simp] theorem setContent_around (p : Purpose) (k : AreaId) (c : ContentKind) :
    (s.setContent j p k c).around i = s.around i := by
  unfold State.setContent
  dsimp only
  split_ifs <;> simp

@[simp] theorem useArea_around (c : ContentKind) (p : Purpose) : (State.useArea c j s p).around i = s.around i := by
  unfold State.useArea
  split <;> simp

@[simp] theorem useAreas_around (ps : List Purpose) (c : ContentKind) : (s.useAreas j ps c).around i = s.around i := by
  unfold State.useAreas
  induction ps generalizing s with
  | nil => rfl
  | cons p ps ih => simp [ih]

@[simp] theorem releaseAreas_around : (s.releaseAreas j).around i = s.around i := rfl

@[simp] theorem resetArea_around (k : AreaId) : (State.resetArea j s k).around i = s.around i := by
  unfold State.resetArea
  split
  · split <;> simp
  · rfl

@[simp] theorem resetAreas_around : (s.resetAreas j).around i = s.around i := by
  unfold State.resetAreas
  induction allAreas generalizing s with
  | nil => rfl
  | cons k ks ih => simp [ih]

/-! ## The store (R143 to R148) -/

@[simp] theorem storeBytes_around (id : Nat) (bs : List Byte) : (s.storeBytes id bs).around i = s.around i := by
  unfold State.storeBytes
  split <;> rfl

@[simp] theorem allocate_around (id n : Nat) : (s.allocate id n).around i = s.around i := by
  unfold State.allocate
  split <;> rfl

theorem openEntry_around {kind : MsgKind} {mailbox id : Nat} {o : Option LineId} {cid : Option CidRecord}
    {bits : Option Nat} {t : State} (h : s.openEntry kind mailbox o cid bits = .ok (id, t)) :
    t.around i = s.around i := by
  unfold State.openEntry at h
  split at h
  · cases h
  · split at h
    · cases h
    · split at h
      · cases h
      · simp only [Except.ok.injEq, Prod.mk.injEq] at h
        obtain ⟨-, rfl⟩ := h
        rfl

@[simp] theorem markPlaying_around (id : Nat) : (s.markPlaying id j).around i = s.around i := rfl
@[simp] theorem markFaxing_around (id : Nat) : (s.markFaxing id j).around i = s.around i := rfl
@[simp] theorem clearPlaying_around : (s.clearPlaying j).around i = s.around i := rfl
@[simp] theorem clearFaxing_around : (s.clearFaxing j).around i = s.around i := rfl
@[simp] theorem withdraw_around : (s.withdraw j).around i = s.around i := rfl

theorem modReceiver_settled (f : Fax → Fax) (l : Line) : (l.modReceiver f).settled = l.settled := by
  unfold Line.modReceiver
  split_ifs <;> rfl

@[simp] theorem refuseBlock_around (k : RequestKind) : (s.refuseBlock j k).around i = s.around i := by
  have hstage : ((s.modLine j (fun l => { l with stage := l.stage.answered true })).emptyStage j).around i =
      s.around i := by
    rw [emptyStage_around, modLine_around_settled]
    exact fun _ => rfl
  unfold State.refuseBlock
  dsimp only
  split <;> rw [modLine_around_settled, hstage]
  · exact fun _ => rfl
  · exact modReceiver_settled _

@[simp] theorem serveRequest_around : s.serveRequest.around i = s.around i := by
  unfold State.serveRequest
  split
  · rfl
  · dsimp only
    split
    · rw [modLine_around_settled, allocate_around]
      · rfl
      · exact fun _ => rfl
    · rw [allocate_around]
      rfl
    · rw [refuseBlock_around]
      rfl
    · rfl

theorem serveMany_around : ∀ (n : Nat) (s : State), (serveMany n s).around i = s.around i
  | 0, _ => rfl
  | n + 1, s => (serveMany_around n s.serveRequest).trans (serveRequest_around s i)

@[simp] theorem serveAll_around : s.serveAll.around i = s.around i := serveMany_around i _ s

@[simp] theorem unlinkTail_around (id n : Nat) : (s.unlinkTail id n).around i = s.around i := by
  unfold State.unlinkTail
  split <;> rfl

@[simp] theorem freeTail_around (id n : Nat) : (s.freeTail id n).around i = s.around i := by simp [State.freeTail]

@[simp] theorem trimEntry_around (id n : Nat) : (s.trimEntry id n).around i = s.around i := by simp [State.trimEntry]

@[simp] theorem deleteEntry_around (id : Nat) : (s.deleteEntry id).around i = s.around i :=
  (show (s.deleteEntry id).around i = (s.freeTail id 0).around i from rfl).trans (freeTail_around s i id 0)

@[simp] theorem finishEntry_around (id : Nat) (why : EntryEnd) : (s.finishEntry id why).around i = s.around i := by
  unfold State.finishEntry
  split <;> simp

@[simp] theorem closeEntry_around (id : Nat) (why : EntryEnd) : (s.closeEntry id why).around i = s.around i := by
  unfold State.closeEntry
  split
  · rfl
  · split <;> simp

theorem modLine_stage_around (f : Line → StageOp) :
    (s.modLine j (fun l => { l with stage := f l })).around i = s.around i :=
  modLine_around_settled s i j (fun _ => rfl)

@[simp] theorem leaveStage_around : (s.leaveStage j).around i = s.around i := modLine_stage_around s i j _

@[simp] theorem stopStage_around : (s.stopStage j).around i = s.around i := by simp [State.stopStage]

@[simp] theorem stageWrite_around : (s.stageWrite j).around i = s.around i := by
  unfold State.stageWrite
  dsimp only
  split
  · split
    · rfl
    · split
      · simp
      · split
        · rfl
        · split
          · simp
          · split
            · rw [modLine_around_settled]
              · simp
              · exact modReceiver_settled _
            · rw [modLine_stage_around]
              simp
  · rfl

theorem drainStage_around : ∀ (n : Nat) (s : State), (State.drainStage j n s).around i = s.around i
  | 0, _ => rfl
  | n + 1, s => by
    rw [State.drainStage]
    split
    · rw [drainStage_around n]; simp
    · simp

@[simp] theorem stageFill_around : (s.stageFill j).around i = s.around i := by
  unfold State.stageFill
  dsimp only
  split
  · split
    · rfl
    · rw [modLine_stage_around]
      simp
  · rfl

@[simp] theorem startWriting_around (id : Nat) : (s.startWriting j id).around i = s.around i := by
  rw [State.startWriting, modLine_stage_around, emptyStage_around]

@[simp] theorem startReading_around (id pos len : Nat) : (s.startReading j id pos len).around i = s.around i := by
  rw [State.startReading, modLine_stage_around, emptyStage_around]

end Sys2Proof.Machine
end

section
/-! SUPPORT. Operations that change one line alone, and the end of a call: what each leaves around the line. -/

namespace Sys2Proof.Machine

/-- The part without one line: what an operation on that line alone leaves. -/
def State.without (s : State) (i : LineId) : State := s.setLine i {}

variable {s t : State} {i j : LineId}

theorem eq_of_without (h : t.without i = s.without i) : t = { s with lines := t.lines } :=
  congrArg (fun o : State => { o with lines := t.lines }) h

theorem othersSame_of_without (h : t.without i = s.without i) : othersSame i s t := fun j hj => by
  have := congrArg (fun o : State => o.line j) h
  simpa [State.without, hj] using this

theorem now_of_without (h : t.without i = s.without i) : t.now = s.now := (congrArg State.now h :)
theorem areas_of_without (h : t.without i = s.without i) : t.areas = s.areas := (congrArg State.areas h :)
theorem store_of_without (h : t.without i = s.without i) : t.store = s.store := (congrArg State.store h :)

theorem around_of_without (h : t.without i = s.without i) (hp : (t.line i).profile = (s.line i).profile) :
    t.around i = s.around i :=
  around_ext (congrArg State.outside h :) hp (fun j hj => by rw [othersSame_of_without h j hj])

variable (s i j)

/-! ## Updates of one line -/

@[simp] theorem setLine_without (l : Line) : (s.setLine i l).without i = s.without i := by
  simp [State.without, State.setLine]

@[simp] theorem modLine_without (f : Line → Line) : (s.modLine i f).without i = s.without i := setLine_without s i _

@[simp] theorem notifyLine_without (n : Notice) : (s.notifyLine i n).without i = s.without i := modLine_without s i _

@[simp] theorem setSignals_without (a b c d e : Bool) : (s.setSignals i a b c d e).without i = s.without i := by
  unfold State.setSignals
  dsimp only
  split <;> simp

@[simp] theorem signalRing_without (v e : Bool) : (s.signalRing i v e).without i = s.without i :=
  setSignals_without s i _ _ _ _ _

@[simp] theorem signalLoop_without (v : Bool) : (s.signalLoop i v).without i = s.without i :=
  setSignals_without s i _ _ _ _ _

@[simp] theorem signalCarrier_without (v : Bool) : (s.signalCarrier i v).without i = s.without i :=
  setSignals_without s i _ _ _ _ _

@[simp] theorem pass_without (st : LineState) : (s.pass i st).without i = s.without i := by simp [State.pass]

@[simp] theorem openRelay_without : (s.openRelay i).without i = s.without i := modLine_without s i _

@[simp] theorem closeRelay_without : (s.closeRelay i).without i = s.without i := by simp [State.closeRelay]

@[simp] theorem generate_without (c : ToneClass) (n : Ms) : (s.generate i c n).without i = s.without i :=
  modLine_without s i _

@[simp] theorem generateEcho_without (c : ToneClass) (n : Ms) : (s.generateEcho i c n).without i = s.without i :=
  modLine_without s i _

@[simp] theorem setSignals_around (a b c d e : Bool) : (s.setSignals i a b c d e).around i = s.around i :=
  around_of_without (setSignals_without s i _ _ _ _ _) (by simp)

@[simp] theorem signalRing_around (v e : Bool) : (s.signalRing i v e).around i = s.around i :=
  setSignals_around s i _ _ _ _ _

@[simp] theorem signalLoop_around (v : Bool) : (s.signalLoop i v).around i = s.around i :=
  setSignals_around s i _ _ _ _ _

@[simp] theorem signalCarrier_around (v : Bool) : (s.signalCarrier i v).around i = s.around i :=
  setSignals_around s i _ _ _ _ _

@[simp] theorem pass_around (st : LineState) : (s.pass i st).around i = s.around i :=
  around_of_without (pass_without s i st) (by simp)

@[simp] theorem openRelay_around : (s.openRelay i).around i = s.around i := by simp [State.openRelay]

@[simp] theorem closeRelay_around : (s.closeRelay i).around i = s.around i := by
  simp [State.closeRelay, Line.loopChange]

@[simp] theorem generate_around (c : ToneClass) (n : Ms) : (s.generate i c n).around i = s.around i := by
  simp [State.generate]

@[simp] theorem generateEcho_around (c : ToneClass) (n : Ms) : (s.generateEcho i c n).around i = s.around i := by
  simp [State.generateEcho]

/-! ## Updates of a line that keep its profile -/

@[simp] theorem modCall_profile (l : Line) (f : CallRecord → CallRecord) : (l.modCall f).profile = l.profile := rfl

@[simp] theorem freshRing_profile (l : Line) (now : Ms) : (l.freshRing now).profile = l.profile := by
  unfold Line.freshRing
  dsimp only
  split <;> rfl

@[simp] theorem resumeRing_profile (l : Line) (now : Ms) : (l.resumeRing now).profile = l.profile := by
  unfold Line.resumeRing
  split <;> rfl

@[simp] theorem leaveLoopJob_profile (old : LineState) (table : List ToneEntry) (now : Ms) (l : Line) :
    (Line.leaveLoopJob old table now l).profile = l.profile := freshRing_profile _ _

@[simp] theorem noCall_profile (l : Line) : l.noCall.profile = l.profile := rfl

@[simp] theorem writeFaxPages_profile (l : Line) : l.writeFaxPages.profile = l.profile := by
  unfold Line.writeFaxPages
  split <;> rfl

/-! ## The end of recordings, playbacks and received faxes (R136, R162, R163, R168) -/

@[simp] theorem completeStored_around (r : Recording) (id : Nat) (why : RecEnd) (n : Nat) :
    (s.completeStored i r id why n).around i = s.around i := by
  unfold State.completeStored
  dsimp only
  rw [notifyLine_around, modLine_around]
  · split_ifs <;> simp
  · intro l
    split_ifs <;> rfl

@[simp] theorem discardRecording_around (r : Recording) : (s.discardRecording i r).around i = s.around i := by
  unfold State.discardRecording
  dsimp only
  split <;> simp

@[simp] theorem completeHost_around (r : Recording) (why : RecEnd) :
    (s.completeHost i r why).around i = s.around i := by simp [State.completeHost]

@[simp] theorem completeRecording_around : (s.completeRecording i).around i = s.around i := by
  unfold State.completeRecording
  split
  · rfl
  · split
    · rfl
    · split <;> simp [drainStage_around]

@[simp] theorem endRecording_around (why : RecEnd) (n : Nat) (next : AfterRec) :
    (s.endRecording i why n next).around i = s.around i := by simp [State.endRecording]

@[simp] theorem endPlayback_around (why : PlayEnd) : (s.endPlayback i why).around i = s.around i := by
  unfold State.endPlayback
  split
  · rfl
  · dsimp only
    split_ifs <;> simp

@[simp] theorem leaveGreeting_around : (s.leaveGreeting i).around i = s.around i := by
  unfold State.leaveGreeting
  dsimp only
  split_ifs <;> simp

@[simp] theorem stopGreeting_around : (s.stopGreeting i).around i = s.around i := by
  unfold State.stopGreeting
  split_ifs <;> simp

@[simp] theorem stopVoice_around (r : RecEnd) (p : PlayEnd) : (s.stopVoice i r p).around i = s.around i := by
  unfold State.stopVoice
  split
  · rfl
  · simp
  · simp
  · simp
  · split <;> simp

@[simp] theorem addPage_around (id : Nat) (p : PageRecord) : (s.addPage id p).around i = s.around i := rfl

@[simp] theorem closeFaxEntry_around (why : EndReason) : (s.closeFaxEntry i why).around i = s.around i := by
  unfold State.closeFaxEntry
  split
  · rfl
  · dsimp only
    split_ifs <;> simp [drainStage_around]

/-! ## The end of a call (R18, R19) -/

@[simp] theorem stopEngine_around (why : EndReason) : (s.stopEngine i why).around i = s.around i := by
  unfold State.stopEngine
  dsimp only
  split_ifs <;> simp

@[simp] theorem reportEnd_around : (s.reportEnd i).around i = s.around i := by
  unfold State.reportEnd
  split <;> simp

/-- An update of the call record. -/
@[simp] theorem modCall_around (f : CallRecord → CallRecord) :
    (s.modLine i (fun l => l.modCall f)).around i = s.around i := modLine_around s i (fun _ => rfl)

@[simp] theorem modNoCall_around : (s.modLine i Line.noCall).around i = s.around i := modLine_around s i (fun _ => rfl)

@[simp] theorem callEnd_around (why : EndReason) : (s.callEnd i why).around i = s.around i := by simp [State.callEnd]

@[simp] theorem enterRelease_around : (s.enterRelease i).around i = s.around i := by simp [State.enterRelease]

@[simp] theorem release_around (why : EndReason) : (s.release i why).around i = s.around i := by
  unfold State.release
  split
  · rw [modLine_around _ _ (leaveLoopJob_profile _ _ _), callEnd_around]
  · simp

end Sys2Proof.Machine
end

section
/-! SUPPORT. The release of a call (R17 to R19): what it leaves of the line, of the areas and of the DRAM, and the notice
that ends it. -/

namespace Sys2Proof.Machine

variable (s : State) (i j : LineId)

/-! ## The DRAM, where no STAGE area is being written out -/

theorem stageWrite_idle {s : State} {i : LineId} (h : (s.line i).stage.isWriting = false) : s.stageWrite i = s := by
  unfold State.stageWrite
  split
  · rename_i hs _; simp [hs, StageOp.isWriting] at h
  · rfl

theorem isWaiting_of_idle {o : StageOp} (h : o.isWriting = false) : o.isWaiting = false := by
  cases o <;> simp_all [StageOp.isWaiting, StageOp.isWriting]

theorem drainStage_idle {s : State} {i : LineId} (h : (s.line i).stage.isWriting = false) :
    ∀ n, s.drainStage i n = s
  | 0 => rfl
  | n + 1 => by
    rw [State.drainStage, stageWrite_idle h]
    simp [isWaiting_of_idle h]

@[simp] theorem withdraw_dram : (s.withdraw i).dram = s.dram := rfl
@[simp] theorem withdraw_line : (s.withdraw i).line j = s.line j := rfl
@[simp] theorem clearPlaying_dram : (s.clearPlaying i).dram = s.dram := rfl
@[simp] theorem clearPlaying_line : (s.clearPlaying i).line j = s.line j := rfl
@[simp] theorem clearFaxing_dram : (s.clearFaxing i).dram = s.dram := rfl
@[simp] theorem clearFaxing_line : (s.clearFaxing i).line j = s.line j := rfl
@[simp] theorem releaseAreas_dram : (s.releaseAreas i).dram = s.dram := rfl
@[simp] theorem releaseAreas_line : (s.releaseAreas i).line j = s.line j := rfl
@[simp] theorem addPage_dram (id : Nat) (p : PageRecord) : (s.addPage id p).dram = s.dram := rfl
@[simp] theorem signalCarrier_dram (v : Bool) : (s.signalCarrier i v).dram = s.dram := setSignals_dram s i _ _ _ _ _
@[simp] theorem leaveStage_dram : (s.leaveStage i).dram = s.dram := rfl
@[simp] theorem stopStage_dram : (s.stopStage i).dram = s.dram := by simp [State.stopStage]

@[simp] theorem completeStored_dram (r : Recording) (id : Nat) (why : RecEnd) (n : Nat) :
    (s.completeStored i r id why n).dram = s.dram := by
  unfold State.completeStored
  dsimp only
  simp only [notifyLine_dram, modLine_dram]
  split_ifs <;> simp

theorem completeRecording_dram {s : State} {i : LineId} (h : (s.line i).stage.isWriting = false) :
    (s.completeRecording i).dram = s.dram := by
  unfold State.completeRecording
  split
  · rfl
  · split
    · rfl
    · split
      · rw [drainStage_idle h]; simp
      · rfl

@[simp] theorem endPlayback_dram (why : PlayEnd) : (s.endPlayback i why).dram = s.dram := by
  unfold State.endPlayback
  split
  · rfl
  · dsimp only
    split_ifs <;> simp

@[simp] theorem leaveGreeting_dram : (s.leaveGreeting i).dram = s.dram := by
  unfold State.leaveGreeting
  dsimp only
  split_ifs <;> simp

theorem stopVoice_dram {s : State} {i : LineId} (r : RecEnd) (p : PlayEnd) (h : (s.line i).stage.isWriting = false) :
    (s.stopVoice i r p).dram = s.dram := by
  unfold State.stopVoice
  split
  · rfl
  · simp
  · simp
  · simp
  · split
    · rfl
    · rw [completeRecording_dram] <;> simp [State.endRecording, h]

theorem closeFaxEntry_dram {s : State} {i : LineId} (why : EndReason) (h : (s.line i).stage.isWriting = false) :
    (s.closeFaxEntry i why).dram = s.dram := by
  unfold State.closeFaxEntry
  rw [drainStage_idle h]
  split
  · rfl
  · dsimp only
    split_ifs <;> simp

theorem stopEngine_dram {s : State} {i : LineId} {why : EndReason}
    (h : why = .reset ∨ (s.line i).stage.isWriting = false) : (s.stopEngine i why).dram = s.dram := by
  unfold State.stopEngine
  simp only [signalCarrier_dram, modLine_dram, withdraw_dram]
  split
  · rfl
  · rename_i hr
    split
    · exact closeFaxEntry_dram why (h.resolve_left hr)
    · exact stopVoice_dram _ _ (h.resolve_left hr)

@[simp] theorem reportEnd_dram : (s.reportEnd i).dram = s.dram := by
  unfold State.reportEnd
  split <;> rfl

@[simp] theorem modCall_stage (l : Line) (f : CallRecord → CallRecord) : (l.modCall f).stage = l.stage := rfl

theorem callEnd_dram {s : State} {i : LineId} {why : EndReason}
    (h : (s.line i).endReason why = .reset ∨ (s.line i).stage.isWriting = false) :
    (s.callEnd i why).dram = s.dram := by
  have := stopEngine_dram (s := s.modLine i (fun l => l.modCall (fun c =>
    { c with endReason := some ((s.line i).endReason why) }))) (i := i) (by simpa using h)
  simpa [State.callEnd] using this

theorem release_dram {s : State} {i : LineId} {why : EndReason}
    (h : (s.line i).endReason why = .reset ∨ (s.line i).stage.isWriting = false) :
    (s.release i why).dram = s.dram := by
  unfold State.release
  split <;> simp [State.enterRelease, callEnd_dram h]

/-! ## The areas -/

theorem releaseAreas_inUse (k : AreaId) : ((s.releaseAreas i).area k).inUse ≠ some i := by
  simp only [State.releaseAreas, State.area, Fin.getElem_fin, Vector.getElem_map]
  split_ifs with h
  · simp
  · exact h

theorem reportEnd_area (k : AreaId) : (s.reportEnd i).area k = s.area k := by
  unfold State.reportEnd
  split <;> simp

theorem callEnd_inUse (why : EndReason) (k : AreaId) : ((s.callEnd i why).area k).inUse ≠ some i := by
  simp only [State.callEnd, modLine_area, reportEnd_area]
  exact releaseAreas_inUse _ _ _

/-! ## The line -/

variable {s i}

/-- The line at the end of its call has the context of no call. -/
theorem callEnd_line (why : EndReason) : ∃ l : Line, (s.callEnd i why).line i = l.noCall ∧ l.signals.carrier = false ∧
    l.carrier = false := by
  refine ⟨_, line_modLine_same _ _ _, ?_⟩
  unfold State.reportEnd
  split <;> simp [State.stopEngine, State.signalCarrier, setSignals_values]

theorem linePass_carrier (l : Line) (table : List ToneEntry) (now : Ms) (st : LineState) (h : l.carrier = false) :
    (l.pass table now st).carrier = false := by
  unfold Line.pass Line.freshRing
  dsimp only
  split_ifs <;> simp [h, Line.startQualifying]

theorem pass_line_carrier (st : LineState) (h : (s.line i).carrier = false) :
    ((s.pass i st).line i).carrier = false := by
  simp [State.pass, linePass_carrier _ _ _ _ h]

theorem release_eq (why : EndReason) (h : (s.line i).state ≠ .loopback) :
    s.release i why = (s.callEnd i why).enterRelease i := if_neg h

theorem enterRelease_eq : s.enterRelease i = (s.pass i .release).modLine i (fun l => { l with guard := s.start 1500 }) := rfl

@[simp] theorem callEnd_now (why : EndReason) : (s.callEnd i why).now = s.now := now_of_around (callEnd_around s i why)

/-- A line with its carrier gone passes to a state with carrier 0 in its signal record. -/
theorem pass_signals_carrier (st : LineState) (h : (s.line i).carrier = false) :
    ((s.pass i st).line i).signals.carrier = false := by
  rw [(pass_signals s i st).2.2.1]
  exact linePass_carrier _ _ _ _ h

/-- What the release of a call leaves of its line (R18, R19). -/
theorem release_line (why : EndReason) (h : (s.line i).state ≠ .loopback) :
    let l := (s.release i why).line i
    l.state = .release ∧ l.relay = false ∧ l.guard = some (s.now + 1500) ∧ l.job = .none ∧ l.direction = .none ∧
    l.call = none ∧ l.dialList = [] ∧ l.link = {} ∧ l.fax = {} ∧ l.voice = {} ∧ l.carrier = false ∧
    l.signals.hook = false ∧ l.signals.carrier = false := by
  obtain ⟨l, hl, -, hc⟩ := callEnd_line (s := s) (i := i) why
  have hcar : ((s.callEnd i why).line i).carrier = false := by rw [hl]; exact hc
  have hhook : (((s.callEnd i why).pass i .release).line i).signals.hook = false :=
    (pass_signals _ i _).2.2.2
  rw [release_eq why h, enterRelease_eq]
  simp [hhook, pass_signals_carrier _ hcar, pass_line_carrier _ hcar, State.start, LineState.offHook, hl, Line.noCall]

theorem release_area_inUse (why : EndReason) (h : (s.line i).state ≠ .loopback) (k : AreaId) :
    ((s.release i why).area k).inUse ≠ some i := by
  rw [release_eq why h]
  simpa [State.enterRelease] using callEnd_inUse s i why k

/-! ## CALL_ENDED (R57) -/

theorem mem_mergeInto {m n : Notice} (hm : m.merge n = none) :
    ∀ {es es' : List Notice}, mergeInto n es = some es' → m ∈ es → m ∈ es'
  | [], _, h, _ => by simp [mergeInto] at h
  | x :: es, es', h, hmem => by
    rw [mergeInto] at h
    split at h
    · rename_i hx
      obtain rfl : _ :: es = es' := by simpa using h
      rcases List.mem_cons.1 hmem with rfl | hmem
      · rw [hm] at hx; cases hx
      · exact List.mem_cons_of_mem _ hmem
    · obtain ⟨es₁, h₁, rfl⟩ : ∃ es₁, mergeInto n es = some es₁ ∧ x :: es₁ = es' := by simpa using h
      rcases List.mem_cons.1 hmem with rfl | hmem
      · exact List.mem_cons_self
      · exact List.mem_cons_of_mem _ (mem_mergeInto hm h₁ hmem)

/-- An entry of another kind stays in a queue that has room (R179, R180). -/
theorem mem_offer {q : NoticeQueue} {m n : Notice} (hm : m.merge n = none) (hmem : m ∈ q.entries)
    (hroom : q.entries.length < Config.noticeQueueMax) : m ∈ (q.offer n).entries := by
  unfold NoticeQueue.offer
  split
  · rename_i h; exact mem_mergeInto hm h hmem
  · simp [NoticeQueue.enter, hroom, hmem]

theorem mergeInto_none {n : Notice} : ∀ {es : List Notice}, (∀ m ∈ es, m.merge n = none) → mergeInto n es = none
  | [], _ => rfl
  | m :: es, h => by
    simp [mergeInto, h m List.mem_cons_self, mergeInto_none fun x hx => h x (List.mem_cons_of_mem _ hx)]

/-- A notice that coalesces with no entry is the last entry of a queue that has room. -/
theorem mem_offer_self {q : NoticeQueue} {n : Notice} (hn : ∀ m ∈ q.entries, m.merge n = none)
    (hroom : q.entries.length < Config.noticeQueueMax) : n ∈ (q.offer n).entries := by
  simp [NoticeQueue.offer, mergeInto_none hn, NoticeQueue.enter, hroom]

theorem offer_length (q : NoticeQueue) (n : Notice) : (q.offer n).entries.length ≤ q.entries.length + 1 := by
  unfold NoticeQueue.offer
  split
  · rename_i h; simp [mergeInto_length h]
  · unfold NoticeQueue.enter
    split_ifs
    · simp
    · have := List.length_eraseP_le (p := fun m => decide (m.priority = lowestPriority q.entries)) (l := q.entries)
      simpa using this
    · simp

/-- An update of the signal record offers at most one notice, of the signals (R20). -/
theorem setSignals_queue (a b c d e : Bool) :
    ((s.setSignals i a b c d e).line i).queue = (s.line i).queue ∨
    ∃ r, ((s.setSignals i a b c d e).line i).queue = (s.line i).queue.offer (.signals r) := by
  unfold State.setSignals
  dsimp only
  split
  · exact .inl rfl
  · rw [line_notifyLine_same, line_modLine_same, notify_queue]
    split
    · exact .inr ⟨_, rfl⟩
    · exact .inl rfl

@[simp] theorem startQualifying_queue (l : Line) (now : Ms) : (l.startQualifying now).queue = l.queue := rfl

@[simp] theorem linePass_queue (l : Line) (table : List ToneEntry) (now : Ms) (st : LineState) :
    (l.pass table now st).queue = l.queue := by
  unfold Line.pass Line.freshRing
  dsimp only
  split_ifs <;> rfl

theorem pass_queue (st : LineState) : ((s.pass i st).line i).queue = (s.line i).queue ∨
    ∃ r, ((s.pass i st).line i).queue = (s.line i).queue.offer (.signals r) := by
  have := setSignals_queue (s := s.setLine i ((s.line i).pass s.toneTable s.now st)) (i := i)
  simpa [State.pass] using this _ _ _ _ _

/-- The call record a line without engine reports at the end of its call. -/
def Line.endedCall (why : EndReason) (l : Line) (c : CallRecord) : CallRecord :=
  let c1 := { c with endReason := some (l.endReason why) }
  if l.job = .fax then { c1 with pages := some l.fax.pages } else c1

/-- A line with neither a fax role nor a voice activity has no engine to complete (R18, step 2). -/
theorem stopEngine_quiet (why : EndReason) (hf : (s.line i).fax.role = none) (hv : (s.line i).voice.activity = .none) :
    s.stopEngine i why = ((s.withdraw i).modLine i (fun l =>
      { l.writeFaxPages with
        carrier := false, stage := .idle
        tone := { l.tone with gen := none, echoGen := none, digitTx := none, sendQueue := [] } })).signalCarrier i
          false := by
  simp [State.stopEngine, State.stopVoice, hf, hv]

theorem writeFaxPages_call (l : Line) : l.writeFaxPages.call =
    if l.job = .fax then l.call.map (fun c => { c with pages := some l.fax.pages }) else l.call := by
  unfold Line.writeFaxPages
  split_ifs <;> rfl

theorem writeFaxPages_queue (l : Line) : l.writeFaxPages.queue = l.queue := by
  unfold Line.writeFaxPages
  split_ifs <;> rfl

theorem signalCarrier_queue (v : Bool) : ((s.signalCarrier i v).line i).queue = (s.line i).queue ∨
    ∃ r, ((s.signalCarrier i v).line i).queue = (s.line i).queue.offer (.signals r) := setSignals_queue _ _ _ _ _

theorem reportEnd_some {c : CallRecord} (hc : (s.line i).call = some c) :
    s.reportEnd i = s.notifyLine i (.callEnded c) := by simp [State.reportEnd, hc]

/-- CALL_ENDED enters the queue of a line that has an empty one and no engine to complete. -/
theorem callEnd_queue {why : EndReason} {c : CallRecord} (hc : (s.line i).call = some c)
    (hw : (s.line i).profile.wants .callEnded = true) (hf : (s.line i).fax.role = none)
    (hv : (s.line i).voice.activity = .none) (hq : (s.line i).queue.entries = []) :
    ∃ q : NoticeQueue, q.entries.length ≤ 1 ∧
      ((s.callEnd i why).line i).queue = q.offer (.callEnded ((s.line i).endedCall why c)) := by
  unfold State.callEnd
  dsimp only
  rw [stopEngine_quiet _ (by simpa [Line.modCall] using hf) (by simpa [Line.modCall] using hv)]
  set t := State.signalCarrier _ i false with ht
  have hcall : (t.line i).call = some ((s.line i).endedCall why c) := by
    simp only [ht, State.signalCarrier, setSignals_line_call, line_modLine_same, writeFaxPages_call, withdraw_line]
    simp only [Line.modCall, Line.endedCall, hc, Option.map_some]
    split_ifs <;> rfl
  have hprofile : (t.line i).profile = (s.line i).profile := by simp [ht, State.signalCarrier]
  have hlen : (t.line i).queue.entries.length ≤ 1 := by
    rcases signalCarrier_queue (s := _) (i := i) false with h | ⟨r, h⟩
    · rw [ht, h]; simp [writeFaxPages_queue, Line.modCall, hq]
    · rw [ht, h]
      refine (offer_length _ _).trans ?_
      simp [writeFaxPages_queue, Line.modCall, hq]
  refine ⟨(t.line i).queue, hlen, ?_⟩
  rw [reportEnd_some (c := (s.line i).endedCall why c) (by simpa using hcall)]
  simp [Line.noCall, notify_queue, hprofile, hw, Notice.kind]

/-- CALL_ENDED stands in the queue after the release of such a call. -/
theorem callEnded_mem_release {why : EndReason} {c : CallRecord} (h : (s.line i).state ≠ .loopback)
    (hc : (s.line i).call = some c) (hw : (s.line i).profile.wants .callEnded = true)
    (hf : (s.line i).fax.role = none) (hv : (s.line i).voice.activity = .none) (hq : (s.line i).queue.entries = []) :
    .callEnded ((s.line i).endedCall why c) ∈ ((s.release i why).line i).queue.entries := by
  obtain ⟨q, hlen, hend⟩ := callEnd_queue (why := why) hc hw hf hv hq
  have hmem : .callEnded ((s.line i).endedCall why c) ∈ ((s.callEnd i why).line i).queue.entries := by
    rw [hend]
    exact mem_offer_self (fun m _ => by cases m <;> rfl) (by simp [Config.noticeQueueMax]; omega)
  have hroom : ((s.callEnd i why).line i).queue.entries.length < Config.noticeQueueMax := by
    rw [hend]
    exact (offer_length _ _).trans_lt (by simp [Config.noticeQueueMax]; omega)
  rw [release_eq why h, enterRelease_eq, line_modLine_same]
  rcases pass_queue (s := s.callEnd i why) (i := i) .release with hp | ⟨r, hp⟩
  · rw [hp]; exact hmem
  · rw [hp]; exact mem_offer rfl hmem hroom

theorem endedCall_endReason (why : EndReason) (l : Line) (c : CallRecord) :
    (l.endedCall why c).endReason = some ((l.link.ending.or l.fax.ending).getD why) := by
  unfold Line.endedCall
  dsimp only
  split_ifs <;> rfl

theorem endedCall_start (why : EndReason) (l : Line) (c : CallRecord) : (l.endedCall why c).start = c.start := by
  unfold Line.endedCall
  dsimp only
  split_ifs <;> rfl

/-- Settles O17: the values by `release_line`, the frame by `release_around`, the notice by `callEnded_mem_release`. -/
theorem releaseLeaves : Obligations.ReleaseLeaves := by
  unfold Obligations.ReleaseLeaves
  intro s i why h
  have hframe := release_around s i why
  have hsettled : ∀ j, j ≠ i → ((s.release i why).line j).settled = (s.line j).settled := fun j =>
    settled_of_around hframe
  obtain ⟨hstate, hrelay, hguard, hjob, hdir, hcall, hlist, hlink, hfax, hvoice, hcar, hhook, hscar⟩ := release_line why h
  refine ⟨hstate, hrelay, hguard, hjob, hdir, hcall, hlist, hlink, hfax, hvoice, hcar, hhook, hscar,
    profile_of_around hframe i, tablesSame_of_outside (around_outside hframe), fun hw => release_dram (.inr hw),
    release_area_inUse why h, fun j hj => ?_, fun c hc hw hf hv hq => ?_⟩
  · exact ⟨(congrArg Line.state (hsettled j hj) :), (congrArg Line.call (hsettled j hj) :),
      profile_of_around hframe j⟩
  · exact ⟨_, callEnded_mem_release h hc hw hf hv hq, endedCall_endReason _ _ _, endedCall_start _ _ _⟩

end Sys2Proof.Machine
end

section
/-! SUPPORT. The line after a change: each operation on a line as the record of the fields it may change; ringing and
dialling as operations on one line alone. -/

namespace Sys2Proof.Machine

variable (s : State) (i j : LineId)

/-! ## The fields an operation may change -/

theorem notify_eq (l : Line) (n : Notice) : l.notify n = { l with queue := (l.notify n).queue } := by
  unfold Line.notify
  split <;> rfl

theorem setSignals_line_eq (a b c d e : Bool) : (s.setSignals i a b c d e).line i = { s.line i with
    signals := ((s.setSignals i a b c d e).line i).signals, queue := ((s.setSignals i a b c d e).line i).queue } := by
  unfold State.setSignals
  dsimp only
  split
  · rfl
  · rw [line_notifyLine_same, line_modLine_same]
    exact (notify_eq _ _).trans (by simp)

theorem signalLoop_line_eq (v : Bool) : (s.signalLoop i v).line i = { s.line i with
    signals := ((s.signalLoop i v).line i).signals, queue := ((s.signalLoop i v).line i).queue } :=
  setSignals_line_eq s i _ _ _ _ _

theorem signalRing_line_eq (v e : Bool) : (s.signalRing i v e).line i = { s.line i with
    signals := ((s.signalRing i v e).line i).signals, queue := ((s.signalRing i v e).line i).queue } :=
  setSignals_line_eq s i _ _ _ _ _

theorem freshRing_eq (l : Line) (now : Ms) : l.freshRing now = { l with ring := (l.freshRing now).ring } := by
  unfold Line.freshRing
  dsimp only
  split <;> rfl

theorem resumeRing_eq (l : Line) (now : Ms) : l.resumeRing now = { l with ring := (l.resumeRing now).ring } := by
  unfold Line.resumeRing
  split <;> rfl

theorem linePass_eq (l : Line) (table : List ToneEntry) (now : Ms) (st : LineState) :
    l.pass table now st = { l with
      state := st, relay := st.offHook, carrier := (l.pass table now st).carrier, tone := (l.pass table now st).tone
      loopTimer := (l.pass table now st).loopTimer, ring := (l.pass table now st).ring } := by
  unfold Line.pass Line.freshRing
  dsimp only
  split_ifs <;> rfl

theorem pass_line_eq (st : LineState) : (s.pass i st).line i = { s.line i with
    state := st, relay := st.offHook, carrier := ((s.pass i st).line i).carrier, tone := ((s.pass i st).line i).tone
    loopTimer := ((s.pass i st).line i).loopTimer, ring := ((s.pass i st).line i).ring
    signals := ((s.pass i st).line i).signals, queue := ((s.pass i st).line i).queue } := by
  unfold State.pass
  dsimp only
  refine (setSignals_line_eq _ i _ _ _ _ _).trans ?_
  rw [line_setLine_same, linePass_eq]
  simp

/-! ## Passing between states -/

@[simp] theorem pass_line_ring (st : LineState) :
    ((s.pass i st).line i).ring = ((s.line i).pass s.toneTable s.now st).ring := by simp [State.pass]

@[simp] theorem pass_line_tone (st : LineState) :
    ((s.pass i st).line i).tone = ((s.line i).pass s.toneTable s.now st).tone := by simp [State.pass]

@[simp] theorem pass_line_loopTimer (st : LineState) :
    ((s.pass i st).line i).loopTimer = ((s.line i).pass s.toneTable s.now st).loopTimer := by simp [State.pass]

/-- Ring measurement goes on between two states that measure it (R9). -/
theorem linePass_ring_kept {l : Line} {st : LineState} (table : List ToneEntry) (now : Ms) (h : l.measuresRing = true)
    (h' : ({ l with state := st } : Line).measuresRing = true) : (l.pass table now st).ring = l.ring := by
  have hm : ∀ m : Line, m.state = st → m.job = l.job → m.measuresRing = true := fun m hs hj => by
    simpa [Line.measuresRing, hs, hj] using h'
  unfold Line.pass
  dsimp only
  split_ifs <;> simp_all

/-- The absence timer stays as a line goes from one off-hook state to another (R8). -/
theorem linePass_loopTimer_kept {l : Line} {st : LineState} (table : List ToneEntry) (now : Ms)
    (h : l.state.offHook = true) (h' : st.offHook = true) : (l.pass table now st).loopTimer = l.loopTimer := by
  unfold Line.pass Line.freshRing
  simp only [h, h']
  split_ifs <;> simp_all [Line.startQualifying]

/-! ## Ringing and dialling, on one line alone -/

@[simp] theorem enterAlerting_without : (s.enterAlerting i).without i = s.without i := by simp [State.enterAlerting]

@[simp] theorem enterIdle_without : (s.enterIdle i).without i = s.without i := by
  unfold State.enterIdle
  dsimp only
  split_ifs <;> simp

@[simp] theorem loopCycle_without : (s.loopCycle i).without i = s.without i := by simp [State.loopCycle]

@[simp] theorem enterProgress_without : (s.enterProgress i).without i = s.without i := by simp [State.enterProgress]

@[simp] theorem dialDigit_without (d : Digit) : (s.dialDigit i d).without i = s.without i := by
  unfold State.dialDigit
  dsimp only
  split <;> simp

@[simp] theorem startElement_without : (s.startElement i).without i = s.without i := by
  unfold State.startElement
  dsimp only
  split <;> simp

@[simp] theorem endElement_without : (s.endElement i).without i = s.without i := by simp [State.endElement]

@[simp] theorem beginDialling_without : (s.beginDialling i).without i = s.without i := by simp [State.beginDialling]

@[simp] theorem seize_without : (s.seize i).without i = s.without i := by simp [State.seize]

end Sys2Proof.Machine
end

section
/-! SUPPORT. Ring input, loop current and the release guard: what begins and ends a call on the line's own inputs (R8 to
R10, R13, R19). -/

namespace Sys2Proof.Machine

variable {s : State} {i : LineId}

/-! ## An incoming call begins (R13) -/

theorem enterAlerting_line (s : State) (i : LineId) : (s.enterAlerting i).line i =
    ({ (s.pass i .alerting).line i with
      direction := .incoming, call := some s.incomingCall, copies := s.callCopies (s.line i).profile
      override := .none, answerWaiting := false, tone.cid := {}
      ring := { ((s.pass i .alerting).line i).ring.inputs with cycle := true } } : Line).notify (.ring 1 .pending) := by
  simp [State.enterAlerting]

/-- The line as a burst in progress makes an incoming call of it (R13). -/
theorem enterAlerting_spec (h : (s.line i).measuresRing = true) :
    let l := (s.enterAlerting i).line i
    l.state = .alerting ∧ l.direction = .incoming ∧ l.call = some s.incomingCall ∧
    l.copies = s.callCopies (s.line i).profile ∧ l.ring = { (s.line i).ring.inputs with cycle := true } ∧
    l.signals.ring = (s.line i).ring.burst.isSome ∧ l.relay = false ∧ l.profile = (s.line i).profile := by
  have hring := linePass_ring_kept (st := .alerting) s.toneTable s.now h rfl
  have hsig := (pass_signals s i .alerting).1
  rw [enterAlerting_line]
  simp [hring, hsig, LineState.offHook]

/-- A burst qualified in IDLE (R9, R13). -/
theorem burstBegins_idle (h : (s.line i).state = .idle) (b : Ms) :
    s.burstBegins i b = ((s.modLine i (fun l => { l with ring := { l.ring with
      qual := none, burst := some b, quiet := none, gap := none, abandon := none } })).signalRing i true
        false).enterAlerting i := by
  simp [State.burstBegins, State.signalRing, h]

/-- Settles O18: a change of the input by `Line.ringChange`, a qualified burst by `enterAlerting_spec`. -/
theorem ringInputBeginsCall : Obligations.RingInputBeginsCall := by
  unfold Obligations.RingInputBeginsCall
  refine ⟨fun s i hst hreal hb => ?_, fun s i b hst hreal hb => ?_, fun s i b q hst hqual hq => ?_⟩
  · simp only [exec_ringInputChange, execRingInputChange]
    exact congrArg _ (modLine_congr s i (by
      simp [Line.seesReal, Line.measuresRing, Line.ringChange, Line.startQualifying, hst, hreal, hb]))
  · simp only [exec_ringInputChange, execRingInputChange]
    exact congrArg _ (modLine_congr s i (by
      simp [Line.seesReal, Line.measuresRing, Line.ringChange, hst, hreal, hb]))
  · set s1 := (s.modLine i (fun l => { l with ring := { l.ring with
      qual := none, burst := some b, quiet := none, gap := none, abandon := none } })).signalRing i true false with hs1
    have hrun : exec (.ringQualified i) s = .next (s1.enterAlerting i) := by
      simp [execRingQualified, hqual, hq, burstBegins_idle hst, hs1]
    have hfr : (s1.enterAlerting i).without i = s.without i := by simp [hs1]
    have hline : (s1.line i).measuresRing = true := by simp [hs1, State.signalRing, Line.measuresRing, hst]
    obtain ⟨hstate, hdir, hcall, hcopies, hring, hsig, hrelay, hprofile⟩ := enterAlerting_spec hline
    refine ⟨_, hrun, eq_of_without hfr, hstate, hdir, ?_, ?_, ?_, ?_, ?_, hrelay, ?_, othersSame_of_without hfr,
      areas_of_without hfr, store_of_without hfr⟩
    · rw [hcall]; simp [hs1, State.signalRing, State.incomingCall, State.stamp]
    · rw [hcopies]; simp [hs1, State.signalRing, State.callCopies]
    · rw [hring]; simp [hs1, State.signalRing, RingMeter.inputs]
    · rw [hring]
    · rw [hsig]; simp [hs1, State.signalRing]
    · rw [hprofile]; simp [hs1, State.signalRing]

end Sys2Proof.Machine
end

section
/-! SUPPORT. Loop current and the release guard (R8, R19, R20). -/

namespace Sys2Proof.Machine

variable {s : State} {i : LineId}

/-! ## Entry to IDLE (R13, R19) -/

/-- A line with no burst in progress enters IDLE without a call. -/
theorem enterIdle_quiet (h : (s.line i).measuresRing = true) (hb : (s.line i).ring.burst = none) :
    s.enterIdle i = (s.pass i .idle).modLine i (Line.resumeRing s.now) := by
  have hring := linePass_ring_kept (st := .idle) s.toneTable s.now h rfl
  simp [State.enterIdle, hring, hb]

/-- A line with a burst in progress is an incoming call at its entry to IDLE (R13). -/
theorem enterIdle_burst (h : (s.line i).measuresRing = true) (hb : (s.line i).ring.burst.isSome = true) :
    s.enterIdle i = (s.pass i .idle).enterAlerting i := by
  have hring := linePass_ring_kept (st := .idle) s.toneTable s.now h rfl
  simp [State.enterIdle, hring, hb]

/-! ## Loop current (R8, R20) -/

/-- The signal record takes a loop value that differs, with its change flag (R20). -/
theorem signalLoop_signals (s : State) (i : LineId) (v : Bool) : ((s.signalLoop i v).line i).signals.loop = v ∧
    ((s.line i).signals.loop ≠ v → ((s.signalLoop i v).line i).signals.fLoop = true) := by
  refine ⟨(setSignals_values s i _ _ _ _ _).2.1, fun h => ?_⟩
  rw [State.signalLoop, setSignals_line_signals]
  simp [Signals.same, Signals.update, h]

/-- A change of the real loop-current input of a line with a call and its relay as given (R8, R20). -/
theorem exec_loopInputChange_progress (v : Bool) (hst : (s.line i).state = .progress)
    (hchange : (s.line i).realLoop = !v) : exec (.loopInputChange i v) s = .next ((s.modLine i (fun l =>
      ({ l with realLoop := v } : Line).loopChange s.now)).signalLoop i v) := by
  simp [execLoopInputChange, Line.seesReal, Line.holdsLoop, hst, hchange]

/-- What such a change leaves: the absence timer as `freshLoopTimer` sets it, and the loop value the new one. -/
theorem loopInputChange_progress (v : Bool) (hst : (s.line i).state = .progress) (hrelay : (s.line i).relay = true)
    (hchange : (s.line i).realLoop = !v) : nextHolds (exec (.loopInputChange i v) s) (fun t =>
      t = { s with lines := t.lines } ∧
      t.line i = { s.line i with
        realLoop := (t.line i).realLoop, loopTimer := (t.line i).loopTimer, signals := (t.line i).signals
        queue := (t.line i).queue } ∧
      (t.line i).realLoop = v ∧
      (t.line i).loopTimer = (if v then none else some (s.now + (s.line i).profile.loopDropMs)) ∧
      (t.line i).signals.loop = v ∧ ((s.line i).signals.loop ≠ v → (t.line i).signals.fLoop = true) ∧
      othersSame i s t) := by
  refine ⟨_, exec_loopInputChange_progress v hst hchange, ?_⟩
  set s1 := s.modLine i (fun l => ({ l with realLoop := v } : Line).loopChange s.now) with hs1
  have hfr : (s1.signalLoop i v).without i = s.without i := by simp [hs1]
  obtain ⟨hloop, hflag⟩ := signalLoop_signals s1 i v
  refine ⟨eq_of_without hfr, (signalLoop_line_eq _ _ _).trans ?_, ?_, ?_, hloop, fun h => hflag ?_,
    othersSame_of_without hfr⟩
  · simp [hs1, State.signalLoop, Line.loopChange]
  · simp [hs1, State.signalLoop, Line.loopChange]
  · cases v <;> simp [hs1, State.signalLoop, Line.loopChange, Line.freshLoopTimer, Line.timesLoop, Line.loopIn, hst, hrelay]
  · simpa [hs1, Line.loopChange] using h

/-- Settles O21: loop current by `loopInputChange_progress`, the guard's end by `enterIdle_quiet`. -/
theorem loopDropReleases : Obligations.LoopDropReleases := by
  unfold Obligations.LoopDropReleases
  refine ⟨fun s i hst hrelay hreal hsig => ?_, fun s i hst hrelay hreal => ?_, fun s i d htimer hd => ?_,
    fun s i d hst hguard hd hb => ?_⟩
  · obtain ⟨t, hrun, hlines, hline, hin, htimer, hloop, hflag, hothers⟩ :=
      loopInputChange_progress (s := s) (i := i) false hst hrelay (by simp [hreal])
    refine ⟨t, hrun, hlines, hline, hin, by simpa using htimer, hloop, hflag (by simp [hsig]), ?_, ?_, hothers⟩
    · rw [hline]; exact hst
    · rw [hline]
  · obtain ⟨t, hrun, hlines, hline, hin, htimer, hloop, -, hothers⟩ :=
      loopInputChange_progress (s := s) (i := i) true hst hrelay (by simp [hreal])
    refine ⟨t, hrun, hlines, hline, hin, by simpa using htimer, hloop, ?_, hothers⟩
    rw [hline]; exact hst
  · simp only [exec_loopDrop, execLoopDrop, due, htimer, hd, decide_true, if_true]
    split_ifs <;> rfl
  · set s1 := s.modLine i (fun l => { l with guard := none }) with hs1
    have hmeasure : (s1.line i).measuresRing = true := by simp [hs1, Line.measuresRing, hst]
    have hrun : exec (.releaseGuardExpiry i) s = .next (s1.enterIdle i) := by
      simp [execReleaseGuardExpiry, hst, hguard, due, hd, hs1]
    have hfr : (s1.enterIdle i).without i = s.without i := by simp [hs1]
    have hline : (s1.enterIdle i).line i = ((s1.pass i .idle).line i).resumeRing s.now := by
      rw [enterIdle_quiet hmeasure (by simpa [hs1] using hb), line_modLine_same]; rfl
    refine ⟨_, hrun, eq_of_without hfr, ?_, ?_, ?_, ?_, ?_, othersSame_of_without hfr⟩
    all_goals
      rw [hline, resumeRing_eq]
      simp [hs1, LineState.offHook]

end Sys2Proof.Machine
end

section
/-! SUPPORT. Dialling (R15, R16, R33): the waits, the timed elements, and how the list goes on. -/

namespace Sys2Proof.Machine

variable {s : State} {i : LineId}

/-! ## The element that begins (R16) -/

theorem startElement_end (h : (s.line i).dialList.length ≤ (s.line i).dialPos) :
    s.startElement i = s.enterProgress i := by
  simp [State.startElement, List.getElem?_eq_none h]

theorem startElement_pause {n : Nat} (h : (s.line i).dialList[(s.line i).dialPos]? = some (.pause n)) :
    s.startElement i = s.modLine i (fun l => { l with dialStep := .pause (s.now + 100 * n) }) := by
  simp [State.startElement, h]

theorem startElement_awaitTone (h : (s.line i).dialList[(s.line i).dialPos]? = some .awaitTone) :
    s.startElement i = s.modLine i (fun l => { l with
      tone := l.tone.restartDial s.toneTable, dialStep := .await (s.now + l.profile.dialToneWaitMs) }) := by
  simp [State.startElement, h]

theorem startElement_flash (h : (s.line i).dialList[(s.line i).dialPos]? = some .flash) :
    s.startElement i = (s.openRelay i).modLine i (fun l => { l with dialStep := .flash (s.now + l.profile.flashMs) }) := by
  simp [State.startElement, h]

theorem startElement_pulses {d : Digit} {n : Nat} (h : (s.line i).dialList[(s.line i).dialPos]? = some (.digit d))
    (hm : (s.line i).profile.dialMethod = .pulse) (hn : digitBreaks? d = some n) :
    s.startElement i = (s.openRelay i).modLine i (fun l =>
      { l with dialStep := .pulseBreak (n - 1) (s.now + (s.line i).profile.pulseBreakMs) }) := by
  simp [State.startElement, State.dialDigit, h, hm, hn]

theorem startElement_tone {d : Digit} (h : (s.line i).dialList[(s.line i).dialPos]? = some (.digit d))
    (hm : (s.line i).profile.dialMethod = .tone) :
    s.startElement i = s.modLine i (fun l => { l.sendDigit s.now d with dialStep := .tone }) := by
  simp [State.startElement, State.dialDigit, h, hm]

/-- The next element begins one place further. -/
theorem endElement_eq (s : State) (i : LineId) : s.endElement i =
    (s.modLine i (fun l => { l with dialPos := l.dialPos + 1, dialStep := .idle })).startElement i := rfl

/-- Settles O23: each element by its `startElement` rule. -/
theorem dialListGoesOn : Obligations.DialListGoesOn := by
  unfold Obligations.DialListGoesOn
  have hothers : ∀ (s : State) (i : LineId), othersSame i s (s.endElement i) := fun s i =>
    othersSame_of_without (endElement_without s i)
  refine ⟨fun s i h => ⟨?_, ?_, ?_, ?_, ?_, hothers s i⟩, fun s i d n h hm hn => ⟨?_, ?_, ?_, hothers s i⟩,
    fun s i d h hm => ⟨?_, ?_, ?_, hothers s i⟩, fun s i h => ⟨?_, hothers s i⟩, fun s i h => ⟨?_, ?_, hothers s i⟩⟩
  iterate 5
    · rw [endElement_eq, startElement_end (by simpa using h)]
      simp [State.enterProgress, State.start, LineState.offHook]
  iterate 3
    · rw [endElement_eq, startElement_pulses (by simpa using h) (by simpa using hm) hn]
      simp [State.openRelay]
  iterate 3
    · rw [endElement_eq, startElement_tone (by simpa using h) (by simpa using hm)]
      simp [Line.sendDigit]
  · rw [endElement_eq, startElement_awaitTone (by simpa using h)]
    simp
  iterate 2
    · rw [endElement_eq, startElement_flash (by simpa using h)]
      simp [State.openRelay]

/-! ## Beginning to dial (R15, R16) -/

/-- Dialling begins on a line that seizes, with a PAUSE as its first element. -/
theorem beginDialling_pause {n : Nat} {es : List DialElement} (hst : (s.line i).state = .seizing)
    (hl : (s.line i).dialList = .pause n :: es) (hp : (s.line i).dialPos = 0) :
    let t := s.beginDialling i
    t.line i = { s.line i with
      state := .dialling, relay := true, dialStep := .pause (s.now + 100 * n), dialWait := none
      signals := (t.line i).signals, queue := (t.line i).queue, ring := (t.line i).ring, tone := (t.line i).tone
      carrier := (t.line i).carrier } := by
  have htimer : ((s.line i).pass s.toneTable s.now .dialling).loopTimer = (s.line i).loopTimer :=
    linePass_loopTimer_kept _ _ (by simp [hst, LineState.offHook]) rfl
  dsimp only
  rw [State.beginDialling, startElement_pause (n := n) (by simp [hl, hp])]
  simp [htimer, LineState.offHook]

/-! ## Inside an element (R16) -/

/-- The relay closes after a break. -/
theorem closeRelay_line_eq (s : State) (i : LineId) : (s.closeRelay i).line i = { s.line i with
    relay := true, loopTimer := ((s.closeRelay i).line i).loopTimer
    signals := ((s.closeRelay i).line i).signals, queue := ((s.closeRelay i).line i).queue } := by
  unfold State.closeRelay
  refine (signalLoop_line_eq _ _ _).trans ?_
  simp [State.signalLoop, Line.loopChange]

@[simp] theorem closeRelay_line_relay (s : State) (i : LineId) : ((s.closeRelay i).line i).relay = true := by
  rw [closeRelay_line_eq]

@[simp] theorem closeRelay_line_profile (s : State) (i : LineId) :
    ((s.closeRelay i).line i).profile = (s.line i).profile := by rw [closeRelay_line_eq]

@[simp] theorem closeRelay_line_dialPos (s : State) (i : LineId) :
    ((s.closeRelay i).line i).dialPos = (s.line i).dialPos := by rw [closeRelay_line_eq]

/-- Settles O22: the waits release or go on, and each timed element ends by its own rule. -/
theorem dialTimings : Obligations.DialTimings := by
  unfold Obligations.DialTimings
  refine ⟨fun s i d hst hw hd hb => ?_, fun s i d n es hst hw hd hb hl hp => ?_, fun s i u hstep hu => ?_,
    fun s i d hst hw hd => ?_, fun s i left u hstep hu => ?_, fun s i left u hstep hu => ?_, fun s i u hstep hu => ?_,
    fun s i u hstep hu => ?_, fun s i u hstep hu => ?_, fun s i x hx hon hu => ?_,
    fun s i x d ds hx hon hu hstep hq => ?_⟩
  · simp [execDialToneWaitExpiry, hst, hw, hd, hb, due]
  · have hfr := beginDialling_without s i
    have hline := beginDialling_pause hst hl hp
    refine ⟨s.beginDialling i, ?_, eq_of_without hfr, ?_, ?_, ?_, ?_, ?_, ?_, othersSame_of_without hfr⟩
    · simp [execDialToneWaitExpiry, hst, hw, hd, hb, due]
    all_goals
      dsimp only at hline
      rw [hline]
  · simp [execAwaitToneExpiry, hstep, hu]
  · simp [execAnswerWaitExpiry, hst, hw, hd, due]
  · refine ⟨(s.closeRelay i).modLine i (fun l => { l with dialStep := l.afterBreak s.now left }), ?_, ?_⟩
    · simp [execPulseBreakEnd, hstep, hu]
    · have hfr : ((s.closeRelay i).modLine i (fun l => { l with dialStep := l.afterBreak s.now left })).without i =
          s.without i := by simp
      refine ⟨eq_of_without hfr, ?_, by simp, by simp [Line.afterBreak], by simp, othersSame_of_without hfr⟩
      rw [line_modLine_same, closeRelay_line_eq]
  · simp [execPulseMakeEnd, hstep, hu, State.openRelay]
  · simp [execPulseInterdigitEnd, hstep, hu]
  · simp [execDialPauseEnd, hstep, hu]
  · simp [execFlashEnd, hstep, hu]
  · simp [execDtmfDigitOnEnd, hx, hon, hu]
  · have hrun : exec (.dtmfDigitOffEnd i) s = .next (s.modLine i (fun l =>
        ({ l with tone.digitTx := none } : Line).sendNext s.now)) := by
      simp [execDtmfDigitOffEnd, hx, hon, hu, hstep]
    have hnext : ({ s.line i with tone.digitTx := none } : Line).sendNext s.now =
        ({ s.line i with tone := { (s.line i).tone with digitTx := none, sendQueue := ds } } : Line).sendDigit s.now d := by
      simp [Line.sendNext, hq]
    have hfr := modLine_without s i (fun l => ({ l with tone.digitTx := none } : Line).sendNext s.now)
    refine ⟨_, hrun, eq_of_without hfr, ?_, ?_, ?_, othersSame_of_without hfr⟩
    all_goals simp [hnext, Line.sendDigit]

end Sys2Proof.Machine
end

section
/-! SUPPORT. What a line sends (R28, R29), and the noise floor (R30). -/

namespace Sys2Proof.Machine

variable {s : State} {i : LineId}

/-! ## What is sent (R28, R29) -/

/-- The frequencies and levels of one table tone (R28). -/
def ToneGen.sentTones (g : ToneGen) : List SentTone :=
  (⟨g.f1, -10, if g.f2.isSome then 2 else 1⟩ : SentTone) :: g.f2.toList.map (fun f => ⟨f, -10, 2⟩)

theorem sent_tones (gs : List ToneGen) :
    (Transmit.tones (gs.map (fun g => (g.f1, g.f2)))).sent = gs.flatMap ToneGen.sentTones := by
  simp only [Transmit.sent, List.flatMap_map]
  congr 1
  funext g
  cases hf : g.f2 <;> simp [ToneGen.sentTones, hf, Config.toneLevel]

/-- The tones of an idle digit path: those of the two generators that are on. -/
theorem sent_gens {l : Line} (hd : l.tone.digitTx = none) (hst : l.state ≠ .offline) (hg : l.tone.gens ≠ []) :
    l.transmit.sent = (l.tone.gens.filter ToneGen.isOn).flatMap ToneGen.sentTones := by
  unfold Line.transmit
  simp only [hst, if_false, hd, List.isEmpty_eq_false_iff.2 hg, Bool.false_eq_true]
  cases hf : l.tone.gens.filter ToneGen.isOn with
  | nil => rfl
  | cons g gs => exact sent_tones _

/-! ## The entry of a class with the lowest id (R23, R28) -/

/-- The better of the best entry so far and the next one (`lowestEntry`). -/
def lowerEntry (c : ToneClass) (best : Option ToneEntry) (e : ToneEntry) : Option ToneEntry :=
  if e.cls = c then
    match best with
    | some b => if e.id < b.id then some e else some b
    | none   => some e
  else best

theorem lowestEntry_eq (c : ToneClass) (table : List ToneEntry) :
    lowestEntry c table = table.foldl (lowerEntry c) none := rfl

theorem lowerEntry_cases (c : ToneClass) (best : Option ToneEntry) (e : ToneEntry) :
    lowerEntry c best e = best ∨ e.cls = c ∧ lowerEntry c best e = some e := by
  unfold lowerEntry
  split_ifs with hc
  · cases best with
    | none => exact .inr ⟨hc, rfl⟩
    | some b =>
      dsimp only
      split_ifs
      · exact .inr ⟨hc, rfl⟩
      · exact .inl rfl
  · exact .inl rfl

/-- An entry that beats every other of its class stays the best. -/
theorem foldl_lowerEntry_best {e : ToneEntry} : ∀ {table : List ToneEntry},
    (∀ e' ∈ table, e'.cls = e.cls → e.id < e'.id ∨ e' = e) → table.foldl (lowerEntry e.cls) (some e) = some e
  | [], _ => rfl
  | x :: t, h => by
    have hx : lowerEntry e.cls (some e) x = some e := by
      unfold lowerEntry
      dsimp only
      split_ifs with hc hid
      · rcases h x List.mem_cons_self hc with hlt | rfl
        · omega
        · rfl
      all_goals rfl
    rw [List.foldl_cons, hx]
    exact foldl_lowerEntry_best fun e' he' => h e' (List.mem_cons_of_mem _ he')

/-- The entry of its class with the lowest id is found, whatever came before it. -/
theorem foldl_lowerEntry {e : ToneEntry} : ∀ {table : List ToneEntry} {best : Option ToneEntry}, e ∈ table →
    (∀ e' ∈ table, e'.cls = e.cls → e.id < e'.id ∨ e' = e) →
    (∀ b ∈ best, e.id < b.id ∨ b = e) → table.foldl (lowerEntry e.cls) best = some e
  | x :: t, best, hmem, h, hb => by
    have htail : ∀ e' ∈ t, e'.cls = e.cls → e.id < e'.id ∨ e' = e := fun e' he' => h e' (List.mem_cons_of_mem _ he')
    rw [List.foldl_cons]
    rcases List.mem_cons.1 hmem with rfl | hmem
    · have hx : lowerEntry e.cls best e = some e := by
        unfold lowerEntry
        cases best with
        | none => simp
        | some b =>
          rcases hb b rfl with hlt | rfl
          · simp [hlt]
          · simp
      rw [hx]
      exact foldl_lowerEntry_best htail
    · refine foldl_lowerEntry hmem htail fun b hb' => ?_
      rcases lowerEntry_cases e.cls best x with hx | ⟨hc, hx⟩
      · rw [hx] at hb'; exact hb b hb'
      · obtain rfl : x = b := by simpa [hx] using hb'
        exact h x List.mem_cons_self hc

theorem lowestEntry_some {e : ToneEntry} {table : List ToneEntry} (hmem : e ∈ table)
    (h : ∀ e' ∈ table, e'.cls = e.cls → e.id < e'.id ∨ e' = e) : lowestEntry e.cls table = some e :=
  foldl_lowerEntry hmem h (by simp)

theorem lowestEntry_none {c : ToneClass} : ∀ {table : List ToneEntry}, (∀ e ∈ table, e.cls ≠ c) →
    lowestEntry c table = none
  | [], _ => rfl
  | x :: t, h => by
    rw [lowestEntry_eq, List.foldl_cons, lowerEntry, if_neg (h x List.mem_cons_self)]
    exact lowestEntry_none fun e he => h e (List.mem_cons_of_mem _ he)

/-! ## The tones in hand (R28) -/

/-- The tones as time goes on, both known. -/
theorem exec_generatedToneEnd_known {g e : Option ToneGen} (hg : (s.line i).tone.gen = g)
    (he : (s.line i).tone.echoGen = e) : exec (.generatedToneEnd i) s = .next (s.modLine i (fun l =>
      { l with tone := { l.tone with
        gen := g.bind (ToneGen.goOn s.now), echoGen := e.bind (ToneGen.goOn s.now) } })) := by
  simp only [exec_generatedToneEnd, execGeneratedToneEnd]
  exact congrArg _ (modLine_congr s i (by rw [hg, he]))

/-- A tone whose segment has reached its end is turned over. -/
theorem goOn_turn {g : ToneGen} {now d : Ms} (hstop : now < g.stopAt) (hseg : g.segEnd = some d) (hd : d ≤ now) :
    g.goOn now = some (g.turn now) := by
  simp [ToneGen.goOn, Nat.not_le.2 hstop, hseg, due, hd]

/-- The segment after another, from 0 again after the last. -/
theorem next_segment {n len : Nat} (h : n < len) : (if n + 1 < len then n + 1 else 0) = (n + 1) % len := by
  split_ifs with hlt
  · exact (Nat.mod_eq_of_lt hlt).symm
  · rw [show n + 1 = len by omega, Nat.mod_self]

/-! ## Power frames (R30, R31) -/

/-- A frame with no speech finding, no watch and no recording changes the Tone Engine alone. -/
theorem exec_powerFrameEnd_plain {p : Int} (hst : (s.line i).state = .progress)
    (ht : (s.line i).tone.frameStart + 32 ≤ s.now) (hw : (s.line i).watch = none) (hv : (s.line i).voice = {})
    (hs : (s.line i).speechFrame (clampPower p) = false) :
    exec (.powerFrameEnd i p) s = .next (s.modLine i (Line.endFrame s.now (clampPower p))) := by
  have hpower : (s.line i).row.power = true := by simp [Line.row, hst, LineState.power, LineState.matching]
  simp [execPowerFrameEnd, hpower, ht, hs, State.watchFrame, State.recordFrame, Line.endFrame, hw, hv]

/-- Settles O25: what is sent by `sent_gens`, requests by `lowestEntry_some`, tones in hand by `ToneGen.goOn`, frames by
`exec_powerFrameEnd_plain`. -/
theorem toneSendingAndNoiseFloor : Obligations.ToneSendingAndNoiseFloor := by
  unfold Obligations.ToneSendingAndNoiseFloor
  refine ⟨fun s i g hg hstop he => ?_, fun s i p hst ht hw hv hbusy hp => ?_, fun s i p hst ht hw hv hbusy => ?_,
    fun l x hx hst => ?_, fun l g hd hg he hst => ?_, fun table now len e hmem hcad hcont h => ?_,
    fun table now len e hmem hcont h => ?_, fun table now len c h => ?_, fun s i g e hg he hstop hend hseg => ?_,
    fun s i g d on off hg he hstop hseg hd hon hcad => ?_, fun s i g d on off hg he hstop hseg hd hon hcad hlt => ?_,
    fun l g e hd hg he hst hgf hef hgon heon => ?_, fun l hst => ?_⟩
  · rw [exec_generatedToneEnd_known hg he]
    refine congrArg _ (modLine_congr s i ?_)
    simp [ToneGen.goOn, hstop, he]
  · have hspeech : (s.line i).speechFrame (clampPower p) = false := by simp [Line.speechFrame, hp]
    have hquiet : (s.line i).quietFrame (clampPower p) = true := by simp [Line.quietFrame, hbusy, hp]
    have hfr := modLine_without s i (Line.endFrame s.now (clampPower p))
    refine ⟨_, exec_powerFrameEnd_plain hst ht hw hv hspeech, eq_of_without hfr, ?_, ?_, ?_, ?_, ?_,
      othersSame_of_without hfr⟩
    all_goals simp [Line.endFrame, hquiet, hspeech, nfStep, hst]
  · have hspeech : (s.line i).speechFrame (clampPower p) = false := by simp [Line.speechFrame, hbusy]
    have hquiet : (s.line i).quietFrame (clampPower p) = false := by simp [Line.quietFrame, hbusy]
    have hfr := modLine_without s i (Line.endFrame s.now (clampPower p))
    refine ⟨_, exec_powerFrameEnd_plain hst ht hw hv hspeech, eq_of_without hfr, ?_, ?_, ?_, ?_,
      othersSame_of_without hfr⟩
    all_goals simp [Line.endFrame, hquiet, hspeech, hst]
  · unfold Line.transmit
    simp only [hst, if_false, hx]
    split_ifs <;> rfl
  · rw [sent_gens hd hst (by simp [ToneEngine.gens, hg])]
    cases hon : g.isOn <;> cases hf : g.f2 <;> simp [ToneEngine.gens, ToneGen.sentTones, hg, he, hon, hf]
  · simp [toneRequest, lowestEntry_some hmem h, hcont, Segment.sent, Function.comp_def]
  · simp [toneRequest, lowestEntry_some hmem h, hcont]
  · simp [toneRequest, lowestEntry_none h, Config.recordToneHz]
  · rw [exec_generatedToneEnd_known hg he]
    have hgo : g.goOn s.now = some g := by
      cases hs : g.segEnd with
      | none => simp [ToneGen.goOn, Nat.not_le.2 hstop, due, hs]
      | some d => simp [ToneGen.goOn, Nat.not_le.2 hstop, due, hs, hseg d hs]
    refine congrArg _ (modLine_congr s i ?_)
    have hdone : e.goOn s.now = none := by simp [ToneGen.goOn, hend]
    simp [hgo, hdone, hg]
  · rw [exec_generatedToneEnd_known hg he]
    refine congrArg _ (modLine_congr s i ?_)
    simp [goOn_turn hstop hseg hd, ToneGen.turn, hon, hcad, he]
  · rw [exec_generatedToneEnd_known hg he]
    refine congrArg _ (modLine_congr s i ?_)
    simp [goOn_turn hstop hseg hd, ToneGen.turn, hon, next_segment hlt, hcad, he]
  · rw [sent_gens hd hst (by simp [ToneEngine.gens, hg])]
    simp [ToneEngine.gens, hg, he, hgon, heon, hgf, hef, ToneGen.sentTones]
  · simp [Line.transmit, hst]

end Sys2Proof.Machine
end

section
/-! SUPPORT. Matching of tones (R22, R25 to R27): detectors, and one event of a line with a single matcher. -/

namespace Sys2Proof.Machine

variable {s : State} {i : LineId} {e : ToneEntry} {m : Matcher}

/-! ## Detectors (R25) -/

theorem hears_iff (f : Nat) (dbm : Int) (heard : List HeardTone) : hears f dbm heard = true ↔
    ∃ p ∈ heard, 985 * f ≤ p.mHz ∧ p.mHz ≤ 1015 * f ∧ 100 * dbm ≤ p.cdBm := by
  simp [hears, isNear, isAtLeast, and_assoc]

theorem isOn_iff (e : ToneEntry) (heard : List HeardTone) : e.isOn heard = true ↔
    ∀ f ∈ e.f1 :: e.f2.toList, hears f e.level heard = true := by
  cases hf : e.f2 <;> simp [ToneEntry.isOn, hf]

/-! ## One event of a single matcher (R26) -/

theorem toneEntry_single (h : s.toneTable = [e]) : s.toneEntry? e.id = some e := by
  simp [State.toneEntry?, h]

theorem matcher_single (h : (s.line i).tone.matchers = [m]) (hid : m.id = e.id) : (s.line i).matcher? e.id = some m := by
  simp [Line.matcher?, h, hid]

/-- The event of the one matcher of a line, on a table of its one entry. -/
theorem matchEvent_single (f : ToneEntry → Matcher → MatchResult) (ht : s.toneTable = [e])
    (hm : (s.line i).tone.matchers = [m]) (hid : m.id = e.id) :
    s.matchEvent i e.id f = s.applyMatch i e m.first (f e m) := by
  simp [State.matchEvent, toneEntry_single ht, matcher_single hm hid]

/-- An event that neither confirms nor concerns a ringback changes the matcher alone. -/
theorem matchEvent_quiet {f : ToneEntry → Matcher → MatchResult} (ht : s.toneTable = [e])
    (hm : (s.line i).tone.matchers = [m]) (hid : m.id = e.id) (hc : (f e m).confirmed = false)
    (hr : e.cls ≠ .ringback ∨ (f e m).stopped = false ∧ (f e m).onset = false) :
    s.matchEvent i e.id f = s.modLine i (fun l => { l with tone.matchers := [(f e m).matcher] }) := by
  rw [matchEvent_single f ht hm hid]
  have hs : ((f e m).stopped && decide (e.cls = .ringback)) = false := by
    rcases hr with hr | ⟨hr, -⟩ <;> simp [hr]
  have ho : ((f e m).onset && decide (e.cls = .ringback)) = false := by
    rcases hr with hr | ⟨-, hr⟩ <;> simp [hr]
  simp only [State.applyMatch, hc, hs, ho, Bool.false_eq_true, if_false]
  exact modLine_congr s i (by simp [hm, hid])

/-- An event that confirms, of another class than ringback, on a line with no voice activity. -/
theorem matchEvent_confirmed {f : ToneEntry → Matcher → MatchResult} (ht : s.toneTable = [e])
    (hm : (s.line i).tone.matchers = [m]) (hid : m.id = e.id) (hc : (f e m).confirmed = true)
    (hr : e.cls ≠ .ringback) : s.matchEvent i e.id f =
      (s.modLine i (fun l => { l with tone.matchers := [(f e m).matcher] })).confirmed i e.cls m.first := by
  rw [matchEvent_single f ht hm hid]
  simp only [State.applyMatch, hc, hr, decide_false, Bool.and_false, Bool.false_eq_true, if_false, if_true]
  exact congrArg (fun t : State => t.confirmed i e.cls m.first) (modLine_congr s i (by simp [hm, hid]))

/-- Nothing is due while the detector waits for an onset, or after a confirmation. -/
theorem settle_idle (h : m.phase = .waiting ∨ m.phase = .confirmed) (now : Ms) : m.settle e now = { matcher := m } := by
  rcases h with h | h <;> simp [Matcher.settle, Matcher.expire, h]

/-- A confirmation on a line with no voice activity is the Line Controller's alone (R27). -/
theorem voiceTone_empty (c : ToneClass) (first : Nat) (hv : (s.line i).voice = {}) : s.voiceTone i c first = s := by
  simp [State.voiceTone, hv]

/-- The last off-period of a BUSY-class entry reaches off-min while the line seizes: the call is released (R26, R32). -/
theorem cadencePeriodExpiry_busy {b : Ms} (hst : (s.line i).state = .seizing)
    (hm : (s.line i).tone.matchers = [m]) (ht : s.toneTable = [e]) (hid : m.id = e.id) (hcls : e.cls = .busy)
    (hcont : e.continuous = false) (hphase : m.phase = .off b false) (hdue : b + (e.segment m.seg).offMin ≤ s.now)
    (hseg : m.seg + 1 = e.cadence.length) (hreps : m.reps + 1 = e.confirm) :
    nextHolds (exec (.cadencePeriodExpiry i e.id) s) (fun t =>
      t = { s with lines := t.lines, areas := t.areas, store := t.store, dram := t.dram } ∧
      (t.line i).state = .release ∧ (t.line i).call = none ∧ (t.line i).guard = some (s.now + 1500) ∧
      ((s.line i).stage.isWriting = false → t.dram = s.dram)) := by
  have hrun : exec (.cadencePeriodExpiry i e.id) s = .next
      (s.matchEvent i e.id (fun e m => if e.continuous then { matcher := m } else m.expire e s.now)) := rfl
  have hconf : (m.expire e s.now).confirmed = true := by
    simp [Matcher.expire, hphase, hdue, hseg, hreps]
  set s1 := s.modLine i (fun l => { l with tone.matchers := [(m.expire e s.now).matcher] }) with hs1
  have hst1 : (s1.line i).state ≠ .loopback := by simp [hs1, hst]
  have hrelease : s.matchEvent i e.id (fun e m => if e.continuous then { matcher := m } else m.expire e s.now) =
      s1.release i .busy := by
    obtain ⟨-, -, -, -, -, -, -, -, -, hvoice, -⟩ := release_line .busy hst1
    rw [matchEvent_confirmed ht hm hid (by simp [hcont, hconf]) (by simp [hcls])]
    simp only [hcont, Bool.false_eq_true, if_false, State.confirmed, ← hs1]
    rw [show s1.lineTone i e.cls = s1.release i .busy by simp [State.lineTone, hs1, hst, hcls]]
    exact voiceTone_empty _ _ hvoice
  obtain ⟨hstate, -, hguard, -, -, hcall, -⟩ := release_line .busy hst1
  have hfr : (s1.release i .busy).around i = s.around i := by
    rw [release_around]; exact modLine_around s i (fun _ => rfl)
  refine ⟨_, hrun, ?_⟩
  rw [hrelease]
  refine ⟨eq_of_around hfr, hstate, hcall, by simpa [hs1] using hguard, fun hw => ?_⟩
  rw [release_dram (.inr (by simpa [hs1] using hw))]
  simp [hs1]

/-- A continuous DIAL-class entry has been on for on-min while the line seizes: dialling begins (R15, R27). -/
theorem continuousToneConfirm_dial {b n : Nat} (hst : (s.line i).state = .seizing) (hv : (s.line i).voice = {})
    (hm : (s.line i).tone.matchers = [m]) (ht : s.toneTable = [e]) (hid : m.id = e.id) (hcls : e.cls = .dial)
    (hcont : e.continuous = true) (hphase : m.phase = .on b) (hdue : b + (e.segment m.seg).onMin ≤ s.now)
    (hlist : (s.line i).dialList = [.pause n]) (hpos : (s.line i).dialPos = 0) :
    nextHolds (exec (.continuousToneConfirm i e.id) s) (fun t =>
      t = { s with lines := t.lines } ∧
      t.line i = { s.line i with
        state := (t.line i).state, relay := (t.line i).relay, signals := (t.line i).signals
        dialStep := (t.line i).dialStep, tone := (t.line i).tone, queue := (t.line i).queue
        ring := (t.line i).ring, dialWait := (t.line i).dialWait, carrier := (t.line i).carrier } ∧
      (t.line i).state = .dialling ∧ (t.line i).dialStep = .pause (s.now + 100 * n) ∧ othersSame i s t) := by
  have hrun : exec (.continuousToneConfirm i e.id) s = .next
      (s.matchEvent i e.id (fun e m => if e.continuous then m.expire e s.now else { matcher := m })) := rfl
  have hconf : (m.expire e s.now).confirmed = true := by simp [Matcher.expire, hphase, hdue, hcont]
  set s1 := s.modLine i (fun l => { l with tone.matchers := [(m.expire e s.now).matcher] }) with hs1
  have hline := beginDialling_pause (s := s1) (i := i) (n := n) (es := []) (by simpa [hs1] using hst)
    (by simpa [hs1] using hlist) (by simpa [hs1] using hpos)
  have hbegin : s.matchEvent i e.id (fun e m => if e.continuous then m.expire e s.now else { matcher := m }) =
      s1.beginDialling i := by
    rw [matchEvent_confirmed ht hm hid (by simp [hcont, hconf]) (by simp [hcls])]
    simp only [hcont, if_true, State.confirmed, ← hs1]
    rw [show s1.lineTone i e.cls = s1.beginDialling i by simp [State.lineTone, hs1, hst, hcls]]
    exact voiceTone_empty _ _ (by rw [hline]; simpa [hs1] using hv)
  have hfr : (s1.beginDialling i).without i = s.without i := by simp [hs1]
  refine ⟨_, hrun, ?_⟩
  rw [hbegin]
  dsimp only at hline
  refine ⟨eq_of_without hfr, ?_, by rw [hline], by rw [hline]; rfl, othersSame_of_without hfr⟩
  rw [hline]
  simp [hs1]

/-- Settles O24: onsets and ends by `applyMatch_quiet`, confirmations by `applyMatch_confirmed`. -/
theorem toneMatchingInSeizing : Obligations.ToneMatchingInSeizing := by
  unfold Obligations.ToneMatchingInSeizing
  refine ⟨fun s i e m heard hon hm ht hid hdet hphase hr => ?_,
    fun s i e m b hst _ hm ht hid hcls hcont hphase hdue hseg hreps => ?_,
    fun s i e m b n hst hv hm ht hid hcls hcont hphase hdue hlist hpos => ?_, fun e heard => ?_,
    fun s i e m heard already hoff hm ht hid hdet hcont hr hphase => ?_, fun s i e m heard hon hm ht hid hdet => ?_⟩
  · have hsettle := settle_idle (e := e) (.inl hphase) s.now
    have hrun : exec (.toneDetectorChange i e.id heard false) s = .next ((s.modLine i Line.busyFrame).matchEvent i e.id
        (fun e m => m.onset e s.now (s.line i).voice.codedCount)) := by
      simp [execToneDetectorChange, matcher_single hm hid, toneEntry_single ht, hon, hdet]
    rw [hrun, matchEvent_quiet (s := s.modLine i Line.busyFrame) ht (by simpa [Line.busyFrame] using hm) hid
      (by simp [Matcher.onset, hsettle]) (.inl hr), modLine_modLine]
    exact congrArg _ (modLine_congr s i (by simp [Line.busyFrame, Matcher.onset, hsettle, hphase]))
  · exact cadencePeriodExpiry_busy hst hm ht hid hcls hcont hphase hdue hseg hreps
  · exact continuousToneConfirm_dial hst hv hm ht hid hcls hcont hphase hdue hlist hpos
  · rw [isOn_iff]
    simp only [hears_iff]
  · have hsettle := settle_idle (e := e) (.inr hphase) s.now
    have hrun : exec (.toneDetectorChange i e.id heard already) s = .next
        (s.matchEvent i e.id (fun e m => m.offset e s.now)) := by
      simp [execToneDetectorChange, matcher_single hm hid, toneEntry_single ht, hoff, hdet]
    rw [hrun, matchEvent_quiet ht hm hid (by simp [Matcher.offset, hsettle, hcont]) (.inl hr)]
    simp [Matcher.offset, hsettle, hcont, Matcher.fail]
  · have hrun : exec (.toneDetectorChange i e.id heard true) s = .next ((s.modLine i Line.busyFrame).matchEvent i e.id
        (fun _ m => { matcher := { m with det := true } })) := by
      simp [execToneDetectorChange, matcher_single hm hid, toneEntry_single ht, hon, hdet]
    rw [hrun, matchEvent_quiet (s := s.modLine i Line.busyFrame) ht (by simpa [Line.busyFrame] using hm) hid rfl
      (.inr ⟨rfl, rfl⟩), modLine_modLine]
    rfl

end Sys2Proof.Machine
end

section
/-! SUPPORT. What the end of a call keeps of its own line (R18): its state, its profile, its inputs and the measurement of
ringing. -/

namespace Sys2Proof.Machine

/-- A line's state, profile and inputs, its relay, and the timers that are not the call's. -/
def Line.base (l : Line) : Line :=
  { state := l.state, profile := l.profile, substRing := l.substRing, substLoop := l.substLoop, loopCount := l.loopCount
    loopClass := l.loopClass, realRing := l.realRing, realLoop := l.realLoop, relay := l.relay, ring := l.ring
    loopTimer := l.loopTimer, guard := l.guard }

variable {s t : State} {i j : LineId}

/-- An operation that leaves the part around every line leaves every line settled. -/
theorem settled_of_all (h : ∀ k, t.around k = s.around k) (j : LineId) : (t.line j).settled = (s.line j).settled := by
  obtain ⟨k, hk⟩ : ∃ k : LineId, j ≠ k := ⟨j + 1, by revert j; decide⟩
  exact settled_of_around (h k) hk

theorem base_of_all (h : ∀ k, t.around k = s.around k) (j : LineId) : (t.line j).base = (s.line j).base :=
  (congrArg Line.base (settled_of_all h j) :)

variable (s i)

@[simp] theorem modLine_base {f : Line → Line} (h : ∀ l, (f l).base = l.base) :
    ((s.modLine i f).line i).base = (s.line i).base := by rw [line_modLine_same, h]

@[simp] theorem notify_base (l : Line) (n : Notice) : (l.notify n).base = l.base := by
  unfold Line.notify
  split <;> rfl

@[simp] theorem notifyLine_base (n : Notice) : ((s.notifyLine i n).line i).base = (s.line i).base := by simp

@[simp] theorem signalCarrier_base (v : Bool) : ((s.signalCarrier i v).line i).base = (s.line i).base := by
  unfold State.signalCarrier
  rw [setSignals_line_eq]
  rfl

@[simp] theorem emptyStage_base : ((s.emptyStage i).line i).base = (s.line i).base :=
  base_of_all (fun k => emptyStage_around s k i) i

@[simp] theorem serveAll_base : (s.serveAll.line i).base = (s.line i).base := base_of_all (fun k => serveAll_around s k) i

@[simp] theorem drainStage_base (n : Nat) : ((s.drainStage i n).line i).base = (s.line i).base :=
  base_of_all (fun k => drainStage_around k i n s) i

@[simp] theorem trimEntry_base (id n : Nat) : ((s.trimEntry id n).line i).base = (s.line i).base :=
  base_of_all (fun k => trimEntry_around s k id n) i

@[simp] theorem closeEntry_base (id : Nat) (why : EntryEnd) : ((s.closeEntry id why).line i).base = (s.line i).base :=
  base_of_all (fun k => closeEntry_around s k id why) i

@[simp] theorem finishEntry_base (id : Nat) (why : EntryEnd) : ((s.finishEntry id why).line i).base = (s.line i).base :=
  base_of_all (fun k => finishEntry_around s k id why) i

@[simp] theorem deleteEntry_base (id : Nat) : ((s.deleteEntry id).line i).base = (s.line i).base :=
  base_of_all (fun k => deleteEntry_around s k id) i

@[simp] theorem leaveStage_base : ((s.leaveStage i).line i).base = (s.line i).base :=
  base_of_all (fun k => leaveStage_around s k i) i

@[simp] theorem stopStage_base : ((s.stopStage i).line i).base = (s.line i).base :=
  base_of_all (fun k => stopStage_around s k i) i

@[simp] theorem addPage_line (id : Nat) (p : PageRecord) : (s.addPage id p).line j = s.line j := rfl

/-! ## Recordings, playbacks and received faxes at the end of a call -/

@[simp] theorem completeStored_base (r : Recording) (id : Nat) (why : RecEnd) (n : Nat) :
    ((s.completeStored i r id why n).line i).base = (s.line i).base := by
  unfold State.completeStored
  dsimp only
  rw [notifyLine_base, modLine_base]
  · split_ifs <;> simp
  · intro l
    split_ifs <;> rfl

@[simp] theorem completeHost_base (r : Recording) (why : RecEnd) :
    ((s.completeHost i r why).line i).base = (s.line i).base :=
  (notifyLine_base _ _ _).trans (modLine_base s i fun _ => rfl)

@[simp] theorem completeRecording_base : ((s.completeRecording i).line i).base = (s.line i).base := by
  unfold State.completeRecording
  split
  · rfl
  · split
    · rfl
    · split <;> simp

@[simp] theorem endPlayback_base (why : PlayEnd) : ((s.endPlayback i why).line i).base = (s.line i).base := by
  unfold State.endPlayback
  split
  · rfl
  · dsimp only
    rw [notifyLine_base, modLine_base]
    · split_ifs <;> simp
    · exact fun _ => rfl

@[simp] theorem leaveGreeting_base : ((s.leaveGreeting i).line i).base = (s.line i).base := by
  unfold State.leaveGreeting
  dsimp only
  rw [modLine_base]
  · split_ifs <;> simp
  · exact fun _ => rfl

@[simp] theorem stopVoice_base (r : RecEnd) (p : PlayEnd) : ((s.stopVoice i r p).line i).base = (s.line i).base := by
  unfold State.stopVoice
  split
  · rfl
  · simp
  · simp
  · simp
  · split
    · rfl
    · rw [completeRecording_base, State.endRecording, modLine_base]
      exact fun _ => rfl

@[simp] theorem closeFaxEntry_base (why : EndReason) : ((s.closeFaxEntry i why).line i).base = (s.line i).base := by
  unfold State.closeFaxEntry
  split
  · rfl
  · dsimp only
    split_ifs <;> simp

theorem writeFaxPages_base (l : Line) : l.writeFaxPages.base = l.base := by
  unfold Line.writeFaxPages
  split_ifs <;> rfl

@[simp] theorem stopEngine_base (why : EndReason) : ((s.stopEngine i why).line i).base = (s.line i).base := by
  unfold State.stopEngine
  dsimp only
  rw [signalCarrier_base, modLine_base, withdraw_line]
  · split_ifs <;> simp
  · exact fun l => (writeFaxPages_base l :)

@[simp] theorem reportEnd_base : ((s.reportEnd i).line i).base = (s.line i).base := by
  unfold State.reportEnd
  split <;> simp

/-- The end of a call keeps its line's state, profile and inputs. -/
@[simp] theorem callEnd_base (why : EndReason) : ((s.callEnd i why).line i).base = (s.line i).base := by
  unfold State.callEnd
  dsimp only
  rw [modLine_base, reportEnd_base, releaseAreas_line, clearPlaying_line, clearFaxing_line, stopEngine_base,
    modLine_base]
  all_goals exact fun _ => rfl

/-! ## The window as ALERTING is left (R38) -/

@[simp] theorem closeWindow_without : (s.closeWindow i).without i = s.without i := by
  unfold State.closeWindow State.closeWindowOn
  simp only [unfinished_date]
  split_ifs <;> simp

theorem closeWindow_line_eq : (s.closeWindow i).line i = { s.line i with
    call := ((s.closeWindow i).line i).call, tone := ((s.closeWindow i).line i).tone
    queue := ((s.closeWindow i).line i).queue } := by
  unfold State.closeWindow State.closeWindowOn
  simp only [unfinished_date]
  split_ifs
  · rfl
  · rw [line_modLine_same]; rfl
  · rw [line_notifyLine_same, line_modLine_same]
    exact (notify_eq _ _).trans (by simp [Line.modCall])

@[simp] theorem closeWindow_around : (s.closeWindow i).around i = s.around i :=
  around_of_without (closeWindow_without s i) (by rw [closeWindow_line_eq])

@[simp] theorem leaveAlerting_without : (s.leaveAlerting i).without i = s.without i := by
  unfold State.leaveAlerting
  split <;> simp

theorem leaveAlerting_line_eq : (s.leaveAlerting i).line i = { s.line i with
    call := ((s.leaveAlerting i).line i).call, tone := ((s.leaveAlerting i).line i).tone
    queue := ((s.leaveAlerting i).line i).queue } := by
  unfold State.leaveAlerting
  split
  · exact closeWindow_line_eq s i
  · rfl

@[simp] theorem leaveAlerting_around : (s.leaveAlerting i).around i = s.around i :=
  around_of_without (leaveAlerting_without s i) (by rw [leaveAlerting_line_eq])

/-! ## The end of a call that may not be there -/

@[simp] theorem endCall_around (why : EndReason) : (s.endCall i why).around i = s.around i := by
  unfold State.endCall
  split <;> simp

@[simp] theorem endCall_base (why : EndReason) : ((s.endCall i why).line i).base = (s.line i).base := by
  unfold State.endCall
  split
  · rw [callEnd_base, leaveAlerting_line_eq]; rfl
  · rfl

@[simp] theorem endCall_line_state (why : EndReason) : ((s.endCall i why).line i).state = (s.line i).state :=
  (congrArg Line.state (endCall_base s i why) :)

@[simp] theorem endCall_line_profile (why : EndReason) : ((s.endCall i why).line i).profile = (s.line i).profile :=
  (congrArg Line.profile (endCall_base s i why) :)

@[simp] theorem endCall_line_ring (why : EndReason) : ((s.endCall i why).line i).ring = (s.line i).ring :=
  (congrArg Line.ring (endCall_base s i why) :)

@[simp] theorem endCall_line_realRing (why : EndReason) : ((s.endCall i why).line i).realRing = (s.line i).realRing :=
  (congrArg Line.realRing (endCall_base s i why) :)

@[simp] theorem endCall_line_realLoop (why : EndReason) : ((s.endCall i why).line i).realLoop = (s.line i).realLoop :=
  (congrArg Line.realLoop (endCall_base s i why) :)

theorem endCall_none (why : EndReason) (h : (s.line i).call = none) : s.endCall i why = s := by
  simp [State.endCall, h]

theorem endCall_call (why : EndReason) : ((s.endCall i why).line i).call = none := by
  unfold State.endCall
  split
  · obtain ⟨l, hl, -⟩ := callEnd_line (s := s.leaveAlerting i) (i := i) why
    rw [hl]; rfl
  · rename_i h
    simpa using h

/-- A call that ends leaves the context of no call. -/
theorem endCall_line (why : EndReason) (h : (s.line i).call.isSome = true) : ∃ l : Line,
    (s.endCall i why).line i = l.noCall ∧ l.signals.carrier = false ∧ l.carrier = false := by
  rw [State.endCall, if_pos h]
  exact callEnd_line why

theorem endCall_dram {why : EndReason} (h : (s.line i).stage.isWriting = false) : (s.endCall i why).dram = s.dram := by
  have hdram : (s.leaveAlerting i).dram = s.dram := (congrArg State.dram (leaveAlerting_without s i) :)
  unfold State.endCall
  split
  · rw [callEnd_dram (.inr (by rw [leaveAlerting_line_eq]; exact h)), hdram]
  · rfl

end Sys2Proof.Machine
end

section
/-! SUPPORT. The ring cycle (R9, R10, R12) and what its close does on an alerting line: the window's wait, the routing
decision, and the answer (R38, R51 to R53). -/

namespace Sys2Proof.Machine

variable {s : State} {i : LineId}

/-! ## The end of a burst (R9, R10) -/

theorem openWindow_eq (l : Line) : l.openWindow = { l with tone := l.openWindow.tone } := by
  unfold Line.openWindow
  split_ifs <;> rfl

@[simp] theorem openWindow_ring (l : Line) : l.openWindow.ring = l.ring := by rw [openWindow_eq]

/-- The measurement of ringing as a burst that began at `t` and last went inactive at `u` ends. -/
def RingMeter.afterBurst (now gapMs t u : Ms) (r : RingMeter) : RingMeter :=
  if r.cycle then { r with
    burst := none, quiet := none, gap := some (now + gapMs), durs := if r.closed = 0 then r.durs ++ [u - t] else r.durs }
  else { r with burst := none, quiet := none }

/-- What `burstEnds` does before it looks for an answer that waits. -/
def State.closeBurst (s : State) (i : LineId) (t u : Ms) : State :=
  (s.modLine i (fun l => ({ l with ring := l.ring.afterBurst s.now l.profile.ringGapMs t u } : Line).openWindow)).signalRing
    i false true

theorem burstEnds_eq (s : State) (i : LineId) (t u : Ms) : s.burstEnds i t u =
    if ((s.closeBurst i t u).line i).answerWaiting then (s.closeBurst i t u).hostAnswer i else s.closeBurst i t u := by
  have hburst : ∀ l : Line, l.ring.afterBurst s.now l.profile.ringGapMs t u =
      if l.ring.cycle then { l.ring with
        burst := none, quiet := none, gap := s.start l.profile.ringGapMs
        durs := if l.ring.closed = 0 then l.ring.durs ++ [u - t] else l.ring.durs }
      else { l.ring with burst := none, quiet := none } := fun _ => rfl
  simp only [State.burstEnds, State.closeBurst, hburst]

@[simp] theorem closeBurst_without (t u : Ms) : (s.closeBurst i t u).without i = s.without i := by
  simp [State.closeBurst]

theorem closeBurst_line_eq (t u : Ms) : (s.closeBurst i t u).line i = { s.line i with
    ring := ((s.closeBurst i t u).line i).ring, signals := ((s.closeBurst i t u).line i).signals
    queue := ((s.closeBurst i t u).line i).queue, tone := ((s.closeBurst i t u).line i).tone } := by
  unfold State.closeBurst
  refine (signalRing_line_eq _ _ _ _).trans ?_
  rw [line_modLine_same, openWindow_eq]
  simp [State.signalRing]

theorem closeBurst_ring (t u : Ms) : ((s.closeBurst i t u).line i).ring =
    (s.line i).ring.afterBurst s.now (s.line i).profile.ringGapMs t u := by
  simp [State.closeBurst, State.signalRing]

theorem closeBurst_signals (t u : Ms) : ((s.closeBurst i t u).line i).signals.ring = false ∧
    ((s.closeBurst i t u).line i).signals.trailing = true := by
  unfold State.closeBurst State.signalRing
  refine ⟨(setSignals_values _ _ _ _ _ _ _).1, ?_⟩
  rw [setSignals_line_signals]
  simp [Signals.update]

/-- A trailing edge taken in time. -/
theorem exec_burstTrailingEdge_due {b q : Ms} (hb : (s.line i).ring.burst = some b)
    (hq : (s.line i).ring.quiet = some q) (hd : q + 100 ≤ s.now) :
    exec (.burstTrailingEdge i) s = .next (s.burstEnds i b q) := by
  simp [execBurstTrailingEdge, hb, hq, hd]

/-! ## The close of a cycle (R10, R12) -/

/-- The line as a cycle closes on it. -/
theorem exec_ringGapExpiry_due {g : Ms} (hst : (s.line i).state = .alerting) (hg : (s.line i).ring.gap = some g)
    (hd : g ≤ s.now) (hcy : (s.line i).ring.cycle = true) (hb : (s.line i).ring.burst = none) :
    exec (.ringGapExpiry i) s = .next ((s.modLine i (Line.closeCycle s.now s.patterns)).alertingClose i
      (decide ((s.line i).ring.closed = 0))) := by
  simp [execRingGapExpiry, hst, hg, hd, hcy, hb, due]

/-- The measurement of ringing after a cycle has closed. -/
def RingMeter.afterClose (now abandonMs : Ms) (r : RingMeter) : RingMeter :=
  { r with cycle := false, gap := none, closed := min 255 (r.closed + 1), abandon := some (now + abandonMs) }

theorem closeCycle_first (now : Ms) (patterns : List (List (Ms × Ms))) {l : Line} {c : CallRecord}
    (hst : l.state = .alerting) (hc : l.call = some c) (hcl : l.ring.closed = 0) :
    l.closeCycle now patterns = { l with
      ring := l.ring.afterClose now l.profile.ringAbandonMs
      call := some { c with cadence := some (cadenceClass l.ring.durs 1 patterns) } } := by
  simp [Line.closeCycle, RingMeter.afterClose, hst, hc, hcl, Line.modCall, up]

theorem closeCycle_later (now : Ms) (patterns : List (List (Ms × Ms))) {l : Line} (hcl : 1 ≤ l.ring.closed) :
    l.closeCycle now patterns = { l with ring := l.ring.afterClose now l.profile.ringAbandonMs } := by
  simp [Line.closeCycle, RingMeter.afterClose, Nat.one_le_iff_ne_zero.1 hcl, up]

/-- The first close with the window open starts the window's wait and decides nothing (R38, R51). -/
theorem alertingClose_open {c : CallRecord} (hc : (s.line i).call = some c) (hr : c.routing = none)
    (hw : (s.line i).tone.cid.window = .open_) : s.alertingClose i true = s.modLine i (fun l =>
      { l with tone.cid := { l.tone.cid with wait := some (s.now + l.tone.cid.waitMs) } }) := by
  simp [State.alertingClose, State.windowAtClose, State.decide?, Line.routing, hc, hr, hw]

/-- A later close looks only at the answer (R52). -/
theorem alertingClose_later {cp : RoutingCopy} (hr : (s.line i).routing = some cp) :
    s.alertingClose i false = s.tryAnswer i := by
  simp [State.alertingClose, hr]

theorem tryAnswer_waits {cp : RoutingCopy} (hr : (s.line i).routing = some cp)
    (h : ∀ k, cp.waits = some k → (s.line i).ring.closed < k) : s.tryAnswer i = s := by
  simp only [State.tryAnswer, hr]
  cases hk : cp.waits with
  | none => simp [hk]
  | some k => simp [hk, Nat.not_le.2 (h k hk)]

theorem tryAnswer_answers {cp : RoutingCopy} {k : Nat} (hr : (s.line i).routing = some cp) (hk : cp.waits = some k)
    (hle : k ≤ (s.line i).ring.closed) (hb : (s.line i).ring.burst = none) : s.tryAnswer i = s.enterClassify i := by
  simp [State.tryAnswer, hr, hk, hle, hb]

/-- A copy that rejects, or whose rings have not been reached, does not answer. -/
theorem waits_of_reject_or_rings {cp : RoutingCopy} {n : Nat}
    (h : cp.action = .reject ∨ cp.action = .answer ∧ n < cp.rings.getD 1) : ∀ k, cp.waits = some k → n < k := by
  intro k hk
  rcases h with h | ⟨h, hlt⟩
  · simp [RoutingCopy.waits, h] at hk
  · simp only [RoutingCopy.waits, h, Option.some.injEq] at hk
    omega

/-- The answer of a copy that allows DATA and FAX: the line listens (R42). -/
theorem enterClassify_listens {cp : RoutingCopy} (hr : (s.line i).routing = some cp) (ha : cp.action = .answer)
    (hm : cp.mask = ⟨true, true, false⟩) : s.enterClassify i =
      (s.pass i .classify).modLine i (fun l => { l with classifyTimer := some (s.now + l.profile.classifyMs) }) := by
  have hr' : ((s.pass i .classify).line i).routing = some cp := by simpa [Line.routing] using hr
  simp [State.enterClassify, hr', ha, hm, State.start]

/-- The answer of an ANSWER_DROP copy (R53). -/
theorem enterClassify_drops {cp : RoutingCopy} (hr : (s.line i).routing = some cp) (ha : cp.action = .answerDrop) :
    s.enterClassify i = (s.pass i .classify).modLine i (fun l => { l with dropTimer := some (s.now + 1000) }) := by
  have hr' : ((s.pass i .classify).line i).routing = some cp := by simpa [Line.routing] using hr
  simp [State.enterClassify, hr', ha, State.start]

/-- A line that leaves the ring states measures no ringing. -/
theorem linePass_ring_classify (l : Line) (table : List ToneEntry) (now : Ms) :
    (l.pass table now .classify).ring = {} := by
  unfold Line.pass
  dsimp only
  split_ifs with h <;> simp_all [Line.measuresRing]

/-! ## The routing decision (R51) -/

/-- The decision of the first close, with the window closed: the copy is made and reported, and does not answer. -/
theorem decide_makes {c : CallRecord} {cp : RoutingCopy} (hst : (s.line i).state = .alerting)
    (hc : (s.line i).call = some c) (hr : c.routing = none) (hw : (s.line i).tone.cid.window = .closed)
    (ho : (s.line i).override = .none) (hcl : 0 < (s.line i).ring.closed)
    (hcp : cp = s.route i (c.cadence.getD .pending) (c.cid.getD { status := .none }))
    (h : ∀ k, cp.waits = some k → (s.line i).ring.closed < k) :
    s.decide? i = (s.modLine i (fun l => l.modCall (fun k => { k with routing := some cp }))).notifyLine i
      (.routed cp.position cp.action cp.mask cp.mailbox) := by
  have hmake : s.makeCopy i = (s.modLine i (fun l => l.modCall (fun k => { k with routing := some cp }))).notifyLine i
      (.routed cp.position cp.action cp.mask cp.mailbox) := by
    simp [State.makeCopy, hc, ho, hcp, RoutingCopy.override_]
  have htry : (s.makeCopy i).tryAnswer i = s.makeCopy i :=
    tryAnswer_waits (cp := cp) (by simp [hmake, Line.routing, Line.modCall, hc])
      (by simpa [hmake, Line.modCall] using h)
  simp only [State.decide?, hst, hcl, hw, Line.routing, hc, hr, Option.bind_some, and_self, if_true]
  rw [htry, hmake]

/-! ## Ringing that stays away (R10) -/

/-- An alerting call that is abandoned: the line goes to IDLE with no call (R10, R19). -/
theorem abandoned_line (hst : (s.line i).state = .alerting) (hc : (s.line i).call.isSome = true)
    (hb : (s.line i).ring.burst = none) :
    let t := ((s.endCall i .abandoned).modLine i (fun l => { l with ring := l.ring.inputs })).enterIdle i
    t.around i = s.around i ∧ t.dram = (s.endCall i .abandoned).dram ∧
    (t.line i).state = .idle ∧ (t.line i).call = none ∧ (t.line i).direction = .none ∧
    (t.line i).ring.cycle = false ∧ (t.line i).ring.closed = 0 := by
  obtain ⟨l, hl, -⟩ := endCall_line s i .abandoned hc
  set s1 := (s.endCall i .abandoned).modLine i (fun l => { l with ring := l.ring.inputs }) with hs1
  have hring : (s1.line i).ring = (s.line i).ring.inputs := by simp [hs1]
  have hst1 : (s1.line i).state = .alerting := by simp [hs1, hst]
  have hm : (s1.line i).measuresRing = true := by simp [Line.measuresRing, hst1]
  have hquiet := enterIdle_quiet hm (by simpa [hring, RingMeter.inputs] using hb)
  have haround : (s1.enterIdle i).around i = s.around i := by
    have h1 : s1.around i = s.around i := by
      rw [hs1, modLine_around, endCall_around]
      exact fun _ => rfl
    rw [around_of_without (enterIdle_without s1 i) (by rw [hquiet]; simp), h1]
  have hdram : (s1.enterIdle i).dram = s1.dram := (congrArg State.dram (enterIdle_without s1 i) :)
  have hkept : ((s1.line i).pass s1.toneTable s1.now .idle).ring = (s.line i).ring.inputs :=
    (linePass_ring_kept _ _ hm rfl).trans hring
  have hline : (s1.line i).call = none ∧ (s1.line i).direction = .none := by simp [hs1, hl, Line.noCall]
  refine ⟨haround, hdram, ?_⟩
  rw [hquiet, line_modLine_same]
  refine ⟨?_, ?_, ?_, ?_, ?_⟩
  · rw [resumeRing_eq]; simp
  · rw [resumeRing_eq]; simp [hline.1]
  · rw [resumeRing_eq]; simp [hline.2]
  all_goals
    unfold Line.resumeRing
    split_ifs <;> simp [Line.startQualifying, hkept, RingMeter.inputs]

/-! ## The obligation -/

/-- The routing copy of the line right after a later close. -/
theorem closeCycle_later_routing {c : CallRecord} {cp : RoutingCopy} (hc : (s.line i).call = some c)
    (hr : c.routing = some cp) (hcl : 1 ≤ (s.line i).ring.closed) :
    ((s.modLine i (Line.closeCycle s.now s.patterns)).line i).routing = some cp := by
  simp [closeCycle_later _ _ hcl, Line.routing, hc, hr]

/-- A later close on an alerting line with its routing copy made is a `tryAnswer` after the close. -/
theorem exec_ringGapExpiry_later {g : Ms} {c : CallRecord} {cp : RoutingCopy} (hst : (s.line i).state = .alerting)
    (hc : (s.line i).call = some c) (hr : c.routing = some cp) (hg : (s.line i).ring.gap = some g) (hd : g ≤ s.now)
    (hcy : (s.line i).ring.cycle = true) (hb : (s.line i).ring.burst = none) (hcl : 1 ≤ (s.line i).ring.closed) :
    exec (.ringGapExpiry i) s = .next ((s.modLine i (Line.closeCycle s.now s.patterns)).tryAnswer i) := by
  rw [exec_ringGapExpiry_due hst hg hd hcy hb, decide_eq_false (Nat.one_le_iff_ne_zero.1 hcl),
    alertingClose_later (closeCycle_later_routing hc hr hcl)]

/-- The first close with the window open: the class is decided, and the window's wait starts. -/
theorem exec_ringGapExpiry_open {g : Ms} {c : CallRecord} (hst : (s.line i).state = .alerting)
    (hc : (s.line i).call = some c) (hg : (s.line i).ring.gap = some g) (hd : g ≤ s.now)
    (hcy : (s.line i).ring.cycle = true) (hb : (s.line i).ring.burst = none) (hcl : (s.line i).ring.closed = 0)
    (hr : c.routing = none) (hw : (s.line i).tone.cid.window = .open_) :
    exec (.ringGapExpiry i) s = .next (s.modLine i (fun l => { l with
      ring := l.ring.afterClose s.now l.profile.ringAbandonMs
      call := some { c with cadence := some (cadenceClass l.ring.durs 1 s.patterns) }
      tone.cid := { l.tone.cid with wait := some (s.now + l.tone.cid.waitMs) } })) := by
  have hfirst := closeCycle_first s.now s.patterns hst hc hcl
  rw [exec_ringGapExpiry_due hst hg hd hcy hb, decide_eq_true hcl, alertingClose_open (c := { c with
    cadence := some (cadenceClass (s.line i).ring.durs 1 s.patterns) }) (by simp [hfirst]) hr (by simp [hfirst, hw]),
    modLine_modLine]
  exact congrArg _ (modLine_congr s i (by simp [hfirst]))

/-- The first close with the window closed, where the copy made does not answer: the class is decided, and the decision
made with it is written and reported. -/
theorem exec_ringGapExpiry_decides {g : Ms} {c : CallRecord} {cp : RoutingCopy} (hst : (s.line i).state = .alerting)
    (hc : (s.line i).call = some c) (hr : c.routing = none) (hg : (s.line i).ring.gap = some g) (hd : g ≤ s.now)
    (hcy : (s.line i).ring.cycle = true) (hb : (s.line i).ring.burst = none) (hcl : (s.line i).ring.closed = 0)
    (hw : (s.line i).tone.cid.window = .closed) (ho : (s.line i).override = .none)
    (hcp : cp = s.route i (cadenceClass (s.line i).ring.durs 1 s.patterns) (c.cid.getD { status := .none }))
    (h : cp.action = .reject ∨ cp.action = .answer ∧ 1 < cp.rings.getD 1) :
    exec (.ringGapExpiry i) s = .next ((s.modLine i (fun l => { l with
      ring := l.ring.afterClose s.now l.profile.ringAbandonMs
      call := some { c with
        cadence := some (cadenceClass l.ring.durs 1 s.patterns), routing := some cp } })).notifyLine i
      (.routed cp.position cp.action cp.mask cp.mailbox)) := by
  have hfirst := closeCycle_first s.now s.patterns hst hc hcl
  set s1 := s.modLine i (Line.closeCycle s.now s.patterns) with hs1
  set c1 : CallRecord := { c with cadence := some (cadenceClass (s.line i).ring.durs 1 s.patterns) } with hc1
  have hcall : (s1.line i).call = some c1 := by simp [hs1, hfirst, hc1]
  have hwin : (s1.line i).tone.cid.window = .closed := by simp [hs1, hfirst, hw]
  have hclosed : (s1.line i).ring.closed = 1 := by simp [hs1, hfirst, RingMeter.afterClose, hcl]
  have hclose : s1.alertingClose i true = s1.decide? i := by
    simp [State.alertingClose, State.windowAtClose, hwin, Line.routing, hcall, hc1, hr]
  have hroute : cp = s1.route i (c1.cadence.getD .pending) (c1.cid.getD { status := .none }) := by
    simp [hcp, hc1, State.route, hs1, hfirst]
  have hwaits : ∀ k, cp.waits = some k → (s1.line i).ring.closed < k := by
    rw [hclosed]; exact waits_of_reject_or_rings h
  rw [exec_ringGapExpiry_due hst hg hd hcy hb, decide_eq_true hcl, hclose,
    decide_makes (by simpa [hs1, hfirst] using hst) hcall hr hwin (by simpa [hs1, hfirst] using ho)
      (by rw [hclosed]; exact Nat.one_pos) hroute hwaits, hs1, modLine_modLine]
  refine congrArg (fun t : State => Host.Outcome.next (t.notifyLine i _)) (modLine_congr s i ?_)
  simp [hfirst, Line.modCall, hc1]

/-- Settles O19: the burst by `closeBurst`, the closes by `alertingClose_open`, `tryAnswer_waits`, `enterClassify_listens`,
`enterClassify_drops` and `decide_makes`, the abandon by `abandoned_line`. -/
theorem ringCycleCloses : Obligations.RingCycleCloses := by
  unfold Obligations.RingCycleCloses
  refine ⟨fun s i b q hb hq hd ha hcy => ?_, fun s i g c hst hc hg hd hcy hb hcl hr hw => ?_,
    fun s i d hst hc hab hd hb => ?_, fun s i g c cp k hst hc hr hg hd hcy hb hcl hcp => ?_,
    fun s i g c cp k hst hc hr hg hd hcy hb hcl ha hk hle hm => ?_, fun s i g c cp hst hc hr hg hd hcy hb hcl ha => ?_,
    fun s i g c cp hst hc hr hg hd hcy hb hcl hw ho hcp h => ?_⟩
  · have hline := closeBurst_line_eq (s := s) (i := i) b q
    have hwait : ((s.closeBurst i b q).line i).answerWaiting = false := by rw [hline]; exact ha
    have hfr := closeBurst_without (s := s) (i := i) b q
    refine ⟨s.closeBurst i b q, ?_, eq_of_without hfr, hline, ?_, ?_, ?_, (closeBurst_signals b q).1,
      (closeBurst_signals b q).2, by rw [hline], by rw [hline], othersSame_of_without hfr⟩
    · rw [exec_burstTrailingEdge_due hb hq hd, burstEnds_eq, hwait]; rfl
    all_goals simp [closeBurst_ring, RingMeter.afterBurst, hcy]
  · refine ⟨_, exec_ringGapExpiry_open hst hc hg hd hcy hb hcl hr hw, ?_⟩
    refine ⟨eq_of_without (modLine_without _ _ _), ?_, ?_, ?_, ?_, ?_, ?_, ?_, othersSame_of_without (modLine_without _ _ _)⟩
    all_goals simp [hst, hcl, RingMeter.afterClose]
  · obtain ⟨haround, hdram, hstate, hcall, hdir, hcycle, hclosed⟩ := abandoned_line hst hc hb
    refine ⟨_, ?_, eq_of_around haround, hstate, hcall, hdir, hcycle, hclosed, profile_of_around haround i, fun hw => ?_⟩
    · simp [execRingAbandonExpiry, hab, hd, hst, due]
    · rw [hdram, endCall_dram _ _ hw]
  · rw [exec_ringGapExpiry_later hst hc hr hg hd hcy hb hcl,
      tryAnswer_waits (closeCycle_later_routing hc hr hcl) (waits_of_reject_or_rings (hcp.imp_right fun ⟨ha, hk, hlt⟩ => ⟨ha, ?_⟩))]
    · exact congrArg _ (modLine_congr s i (closeCycle_later _ _ hcl))
    · simpa [closeCycle_later _ _ hcl, RingMeter.afterClose, hk] using hlt
  · have hlater := closeCycle_later s.now s.patterns hcl
    rw [exec_ringGapExpiry_later hst hc hr hg hd hcy hb hcl, tryAnswer_answers (k := k)
      (closeCycle_later_routing hc hr hcl) (by simp [RoutingCopy.waits, ha, hk])
      (by simpa [hlater, RingMeter.afterClose] using hle) (by simpa [hlater, RingMeter.afterClose] using hb),
      enterClassify_listens (closeCycle_later_routing hc hr hcl) ha hm]
    set s1 := s.modLine i (Line.closeCycle s.now s.patterns) with hs1
    have hfr : ((s1.pass i .classify).modLine i (fun l => { l with
        classifyTimer := some (s1.now + l.profile.classifyMs) })).without i = s.without i := by simp [hs1]
    refine ⟨_, rfl, eq_of_without hfr, othersSame_of_without hfr, ?_, ?_⟩
    · rw [line_modLine_same, pass_line_eq]
      simp [hs1, hlater, linePass_ring_classify, LineState.offHook]
    · have hhook := (pass_signals s1 i .classify).2.2.2
      simpa [LineState.offHook] using hhook
  · have hlater := closeCycle_later s.now s.patterns hcl
    rw [exec_ringGapExpiry_later hst hc hr hg hd hcy hb hcl, tryAnswer_answers (k := 1)
      (closeCycle_later_routing hc hr hcl) (by simp [RoutingCopy.waits, ha])
      (by simp [hlater, RingMeter.afterClose]) (by simpa [hlater, RingMeter.afterClose] using hb),
      enterClassify_drops (closeCycle_later_routing hc hr hcl) ha]
    set s1 := s.modLine i (Line.closeCycle s.now s.patterns) with hs1
    have hfr : ((s1.pass i .classify).modLine i (fun l => { l with dropTimer := some (s1.now + 1000) })).without i =
        s.without i := by simp [hs1]
    refine ⟨_, rfl, eq_of_without hfr, othersSame_of_without hfr, ?_⟩
    rw [line_modLine_same, pass_line_eq]
    simp [hs1, hlater, linePass_ring_classify, LineState.offHook]
  · have hfr : ((s.modLine i (fun l => { l with
        ring := l.ring.afterClose s.now l.profile.ringAbandonMs
        call := some { c with
          cadence := some (cadenceClass l.ring.durs 1 s.patterns), routing := some cp } })).notifyLine i
        (.routed cp.position cp.action cp.mask cp.mailbox)).without i = s.without i := by simp
    refine ⟨_, exec_ringGapExpiry_decides hst hc hr hg hd hcy hb hcl hw ho hcp h, eq_of_without hfr,
      othersSame_of_without hfr, ?_, fun hq hw => ?_⟩
    · rw [line_notifyLine_same, line_modLine_same]
      refine (notify_eq _ _).trans ?_
      simp [RingMeter.afterClose, hcl]
    · rw [line_notifyLine_same, line_modLine_same, notify_queue]
      simp [hq, hw, Notice.kind, NoticeQueue.offer, mergeInto, NoticeQueue.enter, Config.noticeQueueMax]

end Sys2Proof.Machine
end

section
/-! SUPPORT. The cadence class (R12): the lowest pattern that fits, and that nothing after the first close changes it. -/

namespace Sys2Proof.Machine

/-! ## The lowest pattern that fits -/

/-- A pattern fits the bursts of a first cycle: as many bursts, each in its range (R12). -/
def patternFits (durs : List Ms) (p : List (Ms × Ms)) : Prop :=
  p.length = durs.length ∧ ∀ (k d : Nat) (r : Ms × Ms), durs[k]? = some d → p[k]? = some r → r.1 ≤ d ∧ d ≤ r.2

theorem patternFits_iff (durs : List Ms) (p : List (Ms × Ms)) : patternFits durs p ↔
    p.length = durs.length ∧ (durs.zip p).all (fun q => inRange q.1 q.2) = true := by
  refine and_congr_right fun hlen => ?_
  rw [List.all_eq_true]
  constructor
  · intro h q hq
    obtain ⟨k, hk⟩ := List.getElem?_of_mem hq
    rw [List.getElem?_zip_eq_some] at hk
    simpa [inRange] using h k q.1 q.2 hk.1 hk.2
  · intro h k d r hd hr
    have hmem : (d, r) ∈ durs.zip p := List.mem_of_getElem? (List.getElem?_zip_eq_some.2 ⟨hd, hr⟩)
    simpa [inRange] using h _ hmem

theorem cadenceClass_cons (durs : List Ms) (n : Nat) (p : List (Ms × Ms)) (ps : List (List (Ms × Ms))) :
    (patternFits durs p → cadenceClass durs n (p :: ps) = .pattern n) ∧
    (¬ patternFits durs p → cadenceClass durs n (p :: ps) = cadenceClass durs (n + 1) ps) := by
  rw [patternFits_iff]
  exact ⟨fun h => if_pos h, fun h => if_neg h⟩

/-- The class is the pattern at the first place whose pattern fits. -/
theorem cadenceClass_pattern_iff (durs : List Ms) (m : Nat) : ∀ (n : Nat) (ps : List (List (Ms × Ms))),
    cadenceClass durs n ps = .pattern m ↔ ∃ k p, m = n + k ∧ ps[k]? = some p ∧ patternFits durs p ∧
      ∀ j p', j < k → ps[j]? = some p' → ¬ patternFits durs p'
  | n, [] => by simp [cadenceClass]
  | n, p :: ps => by
    obtain ⟨hfit, hmiss⟩ := cadenceClass_cons durs n p ps
    by_cases hp : patternFits durs p
    · rw [hfit hp]
      constructor
      · intro h
        obtain rfl : n = m := by simpa using h
        exact ⟨0, p, rfl, rfl, hp, fun j _ hj => absurd hj (Nat.not_lt_zero j)⟩
      · rintro ⟨k, q, rfl, -, -, hlow⟩
        cases k with
        | zero => rfl
        | succ k => exact absurd hp (hlow 0 p (Nat.succ_pos k) rfl)
    · rw [hmiss hp, cadenceClass_pattern_iff durs m (n + 1) ps]
      constructor
      · rintro ⟨k, q, rfl, hq, hfits, hlow⟩
        refine ⟨k + 1, q, by omega, hq, hfits, fun j p' hj hp' => ?_⟩
        cases j with
        | zero =>
          obtain rfl : p = p' := by simpa using hp'
          exact hp
        | succ j => exact hlow j p' (by omega) hp'
      · rintro ⟨k, q, rfl, hq, hfits, hlow⟩
        cases k with
        | zero =>
          obtain rfl : p = q := by simpa using hq
          exact absurd hfits hp
        | succ k => exact ⟨k, q, by omega, hq, hfits, fun j p' hj hp' => hlow (j + 1) p' (by omega) hp'⟩

theorem cadenceClass_ne_pending (durs : List Ms) : ∀ (n : Nat) (ps : List (List (Ms × Ms))),
    cadenceClass durs n ps ≠ .pending
  | n, [] => by simp [cadenceClass]
  | n, p :: ps => by
    obtain ⟨hfit, hmiss⟩ := cadenceClass_cons durs n p ps
    by_cases hp : patternFits durs p
    · rw [hfit hp]; simp
    · rw [hmiss hp]; exact cadenceClass_ne_pending durs (n + 1) ps

theorem cadenceClass_unmatched {durs : List Ms} : ∀ {n : Nat} {ps : List (List (Ms × Ms))},
    (∀ p ∈ ps, ¬ patternFits durs p) → cadenceClass durs n ps = .unmatched
  | n, [], _ => rfl
  | n, p :: ps, h => by
    rw [(cadenceClass_cons durs n p ps).2 (h p List.mem_cons_self)]
    exact cadenceClass_unmatched fun q hq => h q (List.mem_cons_of_mem _ hq)

/-! ## The class once decided -/

variable {s t u : State} {i : LineId}

/-- The class of a line's call, where it has one. -/
def Line.cadence (l : Line) : Option (Option CadenceClass) := l.call.map CallRecord.cadence

/-- The line has lost its call, or its class stands. -/
def keepsCadence (i : LineId) (s t : State) : Prop :=
  (t.line i).call = none ∨ (t.line i).cadence = (s.line i).cadence

theorem keepsCadence.trans (h : keepsCadence i s t) (h' : keepsCadence i t u) : keepsCadence i s u := by
  rcases h' with h' | h'
  · exact .inl h'
  · rcases h with h | h
    · left
      simpa [Line.cadence, h] using h'
    · exact .inr (h'.trans h)

theorem keepsCadence_of_call (h : (t.line i).call = (s.line i).call) : keepsCadence i s t :=
  .inr (congrArg (Option.map CallRecord.cadence) h)

/-- What leaves the part around every line leaves every call. -/
theorem keepsCadence_of_all (h : ∀ k, t.around k = s.around k) : keepsCadence i s t :=
  keepsCadence_of_call (congrArg Line.call (settled_of_all h i) :)

variable (s i)

theorem keepsCadence_rfl : keepsCadence i s s := .inr rfl

variable {s i}

/-- Only the class the line's call has counts. -/
theorem keepsCadence_congr (h : (t.line i).cadence = (s.line i).cadence) (hu : keepsCadence i t u) :
    keepsCadence i s u := keepsCadence.trans (.inr h) hu

variable (s i)

/-- The release of a call leaves the line without one. -/
theorem release_keeps (why : EndReason) : keepsCadence i s (s.release i why) := by
  obtain ⟨l, hl, -⟩ := callEnd_line (s := s) (i := i) why
  left
  unfold State.release
  split
  · rw [line_modLine_same, Line.leaveLoopJob, freshRing_eq, hl]; rfl
  · rw [enterRelease_eq, line_modLine_same]; simp [hl, Line.noCall]

/-! ### Operations that leave the call -/

theorem call_of_all (h : ∀ k, t.around k = s.around k) : (t.line i).call = (s.line i).call :=
  (congrArg Line.call (settled_of_all h i) :)

@[simp] theorem emptyStage_call : ((s.emptyStage i).line i).call = (s.line i).call :=
  call_of_all s i fun k => emptyStage_around s k i

@[simp] theorem stopStage_call : ((s.stopStage i).line i).call = (s.line i).call :=
  call_of_all s i fun k => stopStage_around s k i

@[simp] theorem useAreas_call (ps : List Purpose) (c : ContentKind) :
    ((s.useAreas i ps c).line i).call = (s.line i).call := call_of_all s i fun k => useAreas_around s k i ps c

@[simp] theorem startWriting_call (id : Nat) : ((s.startWriting i id).line i).call = (s.line i).call :=
  call_of_all s i fun k => startWriting_around s k i id

@[simp] theorem startReading_call (id pos len : Nat) :
    ((s.startReading i id pos len).line i).call = (s.line i).call :=
  call_of_all s i fun k => startReading_around s k i id pos len

theorem openEntry_call {s : State} {kind : MsgKind} {mailbox id : Nat} {o : Option LineId} {cid : Option CidRecord}
    {bits : Option Nat} (h : s.openEntry kind mailbox o cid bits = .ok (id, t)) :
    (t.line i).call = (s.line i).call := call_of_all s i fun k => openEntry_around _ k h

@[simp] theorem generate_call (c : ToneClass) (n : Ms) : ((s.generate i c n).line i).call = (s.line i).call := by
  simp [State.generate]

@[simp] theorem stopGreeting_call : ((s.stopGreeting i).line i).call = (s.line i).call := by
  unfold State.stopGreeting State.leaveGreeting
  dsimp only
  split_ifs <;> simp [State.leaveStage]

@[simp] theorem handOver_call : ((s.handOver i).line i).call = (s.line i).call := by simp [State.handOver]

@[simp] theorem startGreeting_call : ((s.startGreeting i).1.line i).call = (s.line i).call := by
  unfold State.startGreeting
  dsimp only
  split
  · simp
  · simp [State.markPlaying]

/-! ### Operations that leave the class, or end the call -/

theorem afterAuto_keeps : keepsCadence i s (s.afterAuto i) := by
  unfold State.afterAuto
  split
  · exact keepsCadence_of_call (handOver_call s i)
  · exact release_keeps s i _

theorem afterStop_keeps : keepsCadence i s (s.afterStop i) := by
  unfold State.afterStop
  split
  · exact keepsCadence_of_call (handOver_call s i)
  · exact release_keeps s i _

theorem startFaxReceiver_keeps : keepsCadence i s (s.startFaxReceiver i) := by
  unfold State.startFaxReceiver
  dsimp only
  split
  · exact keepsCadence_congr (by simp [Line.cadence, Line.bindFax]) (release_keeps _ i _)
  · exact keepsCadence_of_call (by simp [Line.bindFax])

theorem startData_keeps (role : LinkRole) : keepsCadence i s (s.startData i role) := by
  unfold State.startData
  dsimp only
  split
  · exact keepsCadence_congr (by simp [Line.cadence]) (release_keeps _ i _)
  · split
    · exact keepsCadence_of_call (by simp)
    · exact keepsCadence_of_call (by simp)

theorem switchToFax_keeps : keepsCadence i s (s.switchToFax i) := by
  unfold State.switchToFax
  dsimp only
  split
  · exact keepsCadence_congr (by simp [Line.cadence, Line.modCall, Function.comp_def]) (startFaxReceiver_keeps _ i)
  · exact keepsCadence_congr (by simp [Line.cadence, Line.modCall, Function.comp_def]) (release_keeps _ i _)

theorem afterRecording_keeps (next : AfterRec) : keepsCadence i s (s.afterRecording i next) := by
  cases next with
  | handOver => exact afterAuto_keeps s i
  | switchFax => exact switchToFax_keeps s i
  | stopped => exact afterStop_keeps s i
  | stayHost => exact keepsCadence_rfl s i

theorem beginStored_keeps (kind : MsgKind) (mailbox : Nat) (watch : Bool) :
    keepsCadence i s (s.beginStored i kind mailbox watch) := by
  unfold State.beginStored
  dsimp only
  split
  · exact keepsCadence_congr (by simp [Line.cadence]) (afterRecording_keeps _ i _)
  · rename_i h
    exact keepsCadence_of_call (by simp [Line.startCoding, openEntry_call i h])

theorem startRecordTone_keeps : keepsCadence i s (s.startRecordTone i) := by
  unfold State.startRecordTone
  dsimp only
  split
  · exact beginStored_keeps s i _ _ _
  · exact keepsCadence_of_call (by simp)

theorem enterJob_keeps (j : Job) : keepsCadence i s (s.enterJob i j) := by
  unfold State.enterJob
  dsimp only
  split
  · exact keepsCadence_rfl s i
  · split
    · exact keepsCadence_of_call (by simp)
    · split
      · exact keepsCadence_congr (by simp [Line.cadence]) (startRecordTone_keeps _ i)
      · exact keepsCadence_of_call (by simp)
  · exact keepsCadence_congr (by simp [Line.cadence]) (startData_keeps _ i _)
  · exact keepsCadence_congr (by simp [Line.cadence]) (startFaxReceiver_keeps _ i)

theorem classResult_keeps (j : Job) (b : Basis) : keepsCadence i s (s.classResult i j b) := by
  unfold State.classResult
  dsimp only
  split
  · exact keepsCadence_congr (by simp [Line.cadence, Line.modCall, Function.comp_def]) (enterJob_keeps _ i j)
  · exact keepsCadence_congr (by simp [Line.cadence, Line.modCall, Function.comp_def]) (release_keeps _ i _)

theorem finding_keeps (j : Job) (b : Basis) : keepsCadence i s (s.finding i j b) := by
  unfold State.finding
  split
  · exact classResult_keeps s i j b
  · exact keepsCadence_rfl s i

theorem enterClassify_keeps : keepsCadence i s (s.enterClassify i) := by
  unfold State.enterClassify
  dsimp only
  split
  · exact keepsCadence_of_call (by simp)
  · split
    · exact keepsCadence_of_call (by simp)
    · split
      · split
        · rename_i h
          have := congrArg (fun r => (r.1.line i).call) h
          exact keepsCadence_of_call (by simpa using this.symm)
        · rename_i h
          have := congrArg (fun r => (r.1.line i).call) h
          exact keepsCadence_congr (by simpa [Line.cadence] using congrArg (Option.map CallRecord.cadence) this.symm)
            (finding_keeps _ i _ _)
      · split
        · exact keepsCadence_of_call (by simp)
        · exact keepsCadence_congr (by simp [Line.cadence]) (classResult_keeps _ i _ _)

theorem tryAnswer_keeps : keepsCadence i s (s.tryAnswer i) := by
  unfold State.tryAnswer
  dsimp only
  split
  · split
    · exact enterClassify_keeps s i
    · exact keepsCadence_rfl s i
  · exact keepsCadence_rfl s i

theorem makeCopy_cadence : ((s.makeCopy i).line i).cadence = (s.line i).cadence := by
  simp [State.makeCopy, Line.cadence, Line.modCall, Function.comp_def]

theorem decide_keeps : keepsCadence i s (s.decide? i) := by
  unfold State.decide?
  dsimp only
  split
  · exact keepsCadence_congr (makeCopy_cadence s i) (tryAnswer_keeps _ i)
  · exact keepsCadence_rfl s i

theorem closeWindow_cadence : ((s.closeWindow i).line i).cadence = (s.line i).cadence := by
  unfold State.closeWindow State.closeWindowOn
  simp only [unfinished_date]
  split_ifs <;> simp [Line.cadence, Line.modCall, Function.comp_def]

theorem hostAnswer_keeps : keepsCadence i s (s.hostAnswer i) := by
  have hclose : (((s.modLine i (fun l => { l with answerWaiting := false })).closeWindow i).line i).cadence =
      (s.line i).cadence := by rw [closeWindow_cadence, line_modLine_same]; rfl
  unfold State.hostAnswer
  dsimp only
  split
  · refine keepsCadence_congr (Eq.trans ?_ hclose) (enterClassify_keeps _ i)
    simp [Line.cadence, Line.modCall, Function.comp_def]
  · exact keepsCadence_congr ((makeCopy_cadence _ i).trans hclose) (enterClassify_keeps _ i)

/-! ## A later cycle (R10, R12) -/

variable {s i}

/-- The call that is there has the class the call before had. -/
theorem keepsCadence.eq {c c' : CallRecord} (h : keepsCadence i s t) (hc : (s.line i).call = some c)
    (hc' : (t.line i).call = some c') : c'.cadence = c.cadence := by
  rcases h with h | h
  · rw [h] at hc'; cases hc'
  · simpa [Line.cadence, hc, hc'] using h

/-- A burst qualified while a call alerts and no cycle is open begins the next cycle. -/
theorem exec_ringQualified_next {b q : Ms} (hst : (s.line i).state = .alerting)
    (hq : (s.line i).ring.qual = some (b, q)) (hd : q ≤ s.now) (hcy : (s.line i).ring.cycle = false) :
    exec (.ringQualified i) s = .next (((s.modLine i (fun l => { l with ring := { l.ring with
      qual := none, burst := some b, quiet := none, gap := none, abandon := none } })).signalRing i true
        false).nextCycle i) := by
  simp [execRingQualified, hq, hd, State.burstBegins, State.signalRing, hst, hcy]

/-- A cycle of a call counted, with RING offered. -/
def State.countCycle (s : State) (i : LineId) : State :=
  s.modLine i (fun l => { l.modCall (fun c => { c with ringCount := up c.ringCount }) with ring.cycle := true })

theorem nextCycle_eq {c : CallRecord} (hc : (s.line i).call = some c) : s.nextCycle i =
    let s2 := (s.countCycle i).notifyLine i (.ring (up c.ringCount) (c.cadence.getD .pending))
    if (s2.line i).tone.cid.window = .open_ then (s2.closeWindow i).decide? i else s2 := by
  simp [State.nextCycle, State.countCycle, Line.modCall, hc]

theorem nextCycle_keeps {c : CallRecord} (hc : (s.line i).call = some c) : keepsCadence i s (s.nextCycle i) := by
  have hcount : ∀ n, (((s.countCycle i).notifyLine i n).line i).cadence = (s.line i).cadence := fun n => by
    simp [State.countCycle, Line.cadence, Line.modCall, Function.comp_def]
  rw [nextCycle_eq hc]
  dsimp only
  split
  · exact keepsCadence_congr ((closeWindow_cadence _ i).trans (hcount _)) (decide_keeps _ i)
  · exact .inr (hcount _)

/-! ## RING of a later cycle -/

/-- An entry stands in a queue of no more than `k`. -/
def NoticeQueue.holds (m : Notice) (k : Nat) (q : NoticeQueue) : Prop := m ∈ q.entries ∧ q.entries.length ≤ k

theorem offer_holds {m n : Notice} {k : Nat} {q : NoticeQueue} (h : q.holds m k) (hm : m.merge n = none) (hk : k < 16) :
    (q.offer n).holds m (k + 1) :=
  ⟨mem_offer hm h.1 (lt_of_le_of_lt h.2 hk), (offer_length q n).trans (Nat.succ_le_succ h.2)⟩

theorem notify_holds {m n : Notice} {k : Nat} {l : Line} (h : l.queue.holds m k) (hm : m.merge n = none) (hk : k < 16) :
    (l.notify n).queue.holds m (k + 1) := by
  rw [notify_queue]
  split
  · exact offer_holds h hm hk
  · exact ⟨h.1, h.2.trans (Nat.le_succ k)⟩

theorem closeWindow_holds {m : Notice} {k : Nat} (h : (s.line i).queue.holds m k)
    (hm : m.merge (.callerId (s.line i).tone.cid.unfinished) = none) (hk : k < 16) :
    ((s.closeWindow i).line i).queue.holds m (k + 1) := by
  unfold State.closeWindow State.closeWindowOn
  simp only [unfinished_date]
  split_ifs
  · exact ⟨h.1, h.2.trans (Nat.le_succ k)⟩
  · rw [line_modLine_same]
    exact ⟨h.1, h.2.trans (Nat.le_succ k)⟩
  · rw [line_notifyLine_same, line_modLine_same]
    exact notify_holds h hm hk

/-- With a burst in progress the decision does not answer. -/
theorem decide_ringing (hb : (s.line i).ring.burst.isSome = true) : s.decide? i = s ∨ s.decide? i = s.makeCopy i := by
  have hb' : ((s.makeCopy i).line i).ring.burst.isSome = true := by simpa [State.makeCopy, Line.modCall] using hb
  have htry : (s.makeCopy i).tryAnswer i = s.makeCopy i := by
    unfold State.tryAnswer
    dsimp only
    split
    · rw [if_neg]
      rintro ⟨-, hnone⟩
      simp [hnone] at hb'
    · rfl
  unfold State.decide?
  dsimp only
  split
  · exact .inr htry
  · exact .inl rfl

theorem decide_holds {m : Notice} {k : Nat} (hb : (s.line i).ring.burst.isSome = true) (h : (s.line i).queue.holds m k)
    (hm : ∀ p a j b, m.merge (.routed p a j b) = none) (hk : k < 16) :
    ((s.decide? i).line i).queue.holds m (k + 1) := by
  rcases decide_ringing hb with hd | hd <;> rw [hd]
  · exact ⟨h.1, h.2.trans (Nat.le_succ k)⟩
  · simp only [State.makeCopy, line_notifyLine_same, line_modLine_same]
    exact notify_holds h (hm _ _ _ _) hk

theorem signals_merge_ring {m : Notice} {n : Nat} {cls : CadenceClass} (h : m.kind = .signals) :
    m.merge (.ring n cls) = none := by
  cases m <;> simp_all [Notice.kind, Notice.merge]

/-- After an update of the signal record an empty queue holds at most a notice of the signals. -/
theorem setSignals_entries (a b c d e : Bool) (h : (s.line i).queue.entries = []) :
    ((s.setSignals i a b c d e).line i).queue.entries.length ≤ 1 ∧
    ∀ m ∈ ((s.setSignals i a b c d e).line i).queue.entries, m.kind = .signals := by
  rcases setSignals_queue (s := s) (i := i) a b c d e with hq | ⟨r, hq⟩
  · simp [hq, h]
  · simp [hq, h, NoticeQueue.offer, mergeInto, NoticeQueue.enter, Config.noticeQueueMax, Notice.kind]

/-- RING of the next cycle carries the class, and stands in a queue that held no more than a notice of the signals. -/
theorem nextCycle_ring {c : CallRecord} {cls : CadenceClass} (hc : (s.line i).call = some c) (hcad : c.cadence = some cls)
    (hb : (s.line i).ring.burst.isSome = true) (hlen : (s.line i).queue.entries.length ≤ 1)
    (hsig : ∀ m ∈ (s.line i).queue.entries, m.kind = .signals) (hw : (s.line i).profile.wants .ring = true) :
    ∃ n, .ring n cls ∈ ((s.nextCycle i).line i).queue.entries := by
  refine ⟨up c.ringCount, ?_⟩
  rw [nextCycle_eq hc, hcad, Option.getD_some]
  set s2 := (s.countCycle i).notifyLine i (.ring (up c.ringCount) cls) with hs2
  have hring : (s2.line i).queue = (s.line i).queue.offer (.ring (up c.ringCount) cls) := by
    simp [hs2, State.countCycle, notify_queue, Line.modCall, Notice.kind, hw]
  have hholds : (s2.line i).queue.holds (.ring (up c.ringCount) cls) 2 := by
    rw [hring]
    refine ⟨mem_offer_self (fun m hm => ?_) (lt_of_le_of_lt hlen (by decide)), (offer_length _ _).trans (by omega)⟩
    exact signals_merge_ring (hsig m hm)
  have hburst : (s2.line i).ring.burst.isSome = true := by simpa [hs2, State.countCycle, Line.modCall] using hb
  dsimp only
  split
  · refine (decide_holds ?_ (closeWindow_holds hholds rfl (by omega)) (fun _ _ _ _ => rfl) (by omega)).1
    rw [closeWindow_line_eq]; exact hburst
  · exact hholds.1

/-- Settles O20: the class by `cadenceClass_pattern_iff`, the first close by O19's rules, and what follows by
`keepsCadence`. -/
theorem cadenceClassIsLowestMatch : Obligations.CadenceClassIsLowestMatch := by
  unfold Obligations.CadenceClassIsLowestMatch
  refine ⟨fun durs ps => ⟨fun n => ?_, cadenceClass_ne_pending durs 1 ps⟩,
    fun durs ps h => cadenceClass_unmatched (fun p hp => h p hp), fun durs ps hps h => ?_,
    fun s i g c hst hc hg hd hcy hb hcl hr hw => ?_, fun s i g c cp hst hc hg hd hcy hb hcl hr hw ho hcp h => ?_,
    fun s i g c hst hc hg hd hcy hb hcl => ?_, fun s i b q c hst hc hb hq hd hcl => ?_,
    fun s i b q c cls hst hc hq hd hcy hcad => ?_⟩
  · rw [cadenceClass_pattern_iff]
    constructor
    · rintro ⟨k, p, rfl, hp, ⟨hlen, hfits⟩, hlow⟩
      refine ⟨p, by omega, by simpa using hp, hlen, hfits, fun m p' hm hp' => hlow m p' (by omega) hp'⟩
    · rintro ⟨p, hn, hp, hlen, hfits, hlow⟩
      exact ⟨n - 1, p, by omega, hp, ⟨hlen, hfits⟩, hlow⟩
  · refine cadenceClass_unmatched fun p hp hfits => ?_
    have hlen := hps p hp
    rcases h with h | rfl
    · have := hfits.1; omega
    · cases hp
  · exact ⟨_, exec_ringGapExpiry_open hst hc hg hd hcy hb hcl hr hw, by simp⟩
  · exact ⟨_, exec_ringGapExpiry_decides hst hc hr hg hd hcy hb hcl hw ho hcp h, by simp⟩
  · refine ⟨_, exec_ringGapExpiry_due hst hg hd hcy hb, fun c' hc' => keepsCadence.eq (s := s) ?_ hc hc'⟩
    rw [decide_eq_false (Nat.one_le_iff_ne_zero.1 hcl)]
    refine keepsCadence_congr (t := s.modLine i (Line.closeCycle s.now s.patterns)) ?_ ?_
    · rw [line_modLine_same, closeCycle_later _ _ hcl]; rfl
    · unfold State.alertingClose
      simp only [Bool.false_eq_true, if_false]
      split
      · exact tryAnswer_keeps _ i
      · exact decide_keeps _ i
  · refine ⟨_, exec_burstTrailingEdge_due hb hq hd, fun c' hc' => keepsCadence.eq (s := s) ?_ hc hc'⟩
    have hclose : ((s.closeBurst i b q).line i).cadence = (s.line i).cadence := by rw [closeBurst_line_eq]; rfl
    rw [burstEnds_eq]
    split
    · exact keepsCadence_congr hclose (hostAnswer_keeps _ i)
    · exact .inr hclose
  · set s1 := (s.modLine i (fun l => { l with ring := { l.ring with
      qual := none, burst := some b, quiet := none, gap := none, abandon := none } })).signalRing i true false with hs1
    have hc1 : (s1.line i).call = some c := by simpa [hs1, State.signalRing] using hc
    refine ⟨_, exec_ringQualified_next hst hq hd hcy, fun c' hc' => (nextCycle_keeps hc1).eq hc1 hc', fun he hw => ?_⟩
    obtain ⟨hlen, hsig⟩ := setSignals_entries (s := s.modLine i (fun l => { l with ring := { l.ring with
      qual := none, burst := some b, quiet := none, gap := none, abandon := none } })) (i := i) true _ _ _ false
      (by simpa using he)
    exact nextCycle_ring hc1 hcad (by simp [State.signalRing]) hlen hsig (by simpa [State.signalRing] using hw)

end Sys2Proof.Machine
end

section
/-! SUPPORT. Directives taken at once (R175, R176): the reply and the state they come to, for one line, for all lines, and
for a refusal; and an operation on each line of a list in turn. -/

namespace Sys2Proof.Machine

variable {s t u : State} {i : LineId} {d : Directive} {code : Byte}

/-! ## The state a directive is dealt with in -/

@[simp] theorem inHand_line (s : State) (j : LineId) : (s.inHand code d).line j = s.line j := rfl
@[simp] theorem inHand_area (s : State) (k : AreaId) : (s.inHand code d).area k = s.area k := rfl
@[simp] theorem inHand_now (s : State) : (s.inHand code d).now = s.now := rfl
@[simp] theorem inHand_toneTable (s : State) : (s.inHand code d).toneTable = s.toneTable := rfl
@[simp] theorem inHand_dram (s : State) : (s.inHand code d).dram = s.dram := rfl
@[simp] theorem inHand_store (s : State) : (s.inHand code d).store = s.store := rfl
@[simp] theorem inHand_areas (s : State) : (s.inHand code d).areas = s.areas := rfl
@[simp] theorem inHand_replies (s : State) : (s.inHand code d).replies = s.replies := rfl

/-- The part with its Decoder idle. -/
def State.handDone (s : State) : State := { s with decoder := {} }

@[simp] theorem handDone_line (s : State) (j : LineId) : s.handDone.line j = s.line j := rfl
@[simp] theorem handDone_area (s : State) (k : AreaId) : s.handDone.area k = s.area k := rfl
@[simp] theorem handDone_dram (s : State) : s.handDone.dram = s.dram := rfl
@[simp] theorem handDone_store (s : State) : s.handDone.store = s.store := rfl
@[simp] theorem handDone_areas (s : State) : s.handDone.areas = s.areas := rfl

theorem handDone_inHand (h : s.decoder = {}) : (s.inHand code d).handDone = s := by
  cases s; simp_all [State.inHand, State.handDone]

/-- A directive that leaves its Decoder and the replies alone: the state with the Decoder idle, and the reply. -/
theorem directive_answers {run : Directive → State → Answer} {st : Status} {res : List Byte} (h : s.takes)
    (hrun : run d (s.inHand code d) = ⟨st, res, u⟩) (hdec : u.decoder = (s.inHand code d).decoder)
    (hcode : resets code st = false) : s.directive code d run = u.handDone.reply ⟨code, d.tag, st, res⟩ := by
  have hnext : ({ u.decoder with resetting := u.decoder.resetting || false } : Decoder).next = {} := by
    rw [hdec]
    simp [State.inHand, h.1, Decoder.next]
  rw [directive_taken h]
  dsimp only
  rw [hrun, hcode, reply_decoder, hnext]
  rfl

theorem directive_repliesWith {run : Directive → State → Answer} {st : Status} {res : List Byte} {p : State → Prop}
    (h : s.takes) (hrun : run d (s.inHand code d) = ⟨st, res, u⟩) (hdec : u.decoder = (s.inHand code d).decoder)
    (hrep : u.replies = s.replies) (hcode : resets code st = false) (hp : p u.handDone) :
    repliesWith (.next (s.directive code d run)) s ⟨code, d.tag, st, res⟩ p :=
  ⟨u.handDone, by rw [directive_answers h hrun hdec hcode], hrep, hp⟩

/-- A refusal replies, and nothing changes. -/
theorem directive_refused {run : Directive → State → Answer} {st : Status} (h : s.takes)
    (hrun : run d (s.inHand code d) = (s.inHand code d).refuse st) (hcode : resets code st = false) :
    s.directive code d run = s.reply ⟨code, d.tag, st, []⟩ := by
  rw [directive_answers h hrun rfl hcode, handDone_inHand h.1]

/-- A directive whose block does the same with it in hand and without. -/
theorem directive_exact {run : Directive → State → Answer} {st : Status} {res : List Byte} (h : s.takes)
    (hrun : run d (s.inHand code d) = ⟨st, res, t.inHand code d⟩) (ht : t.decoder = {})
    (hcode : resets code st = false) : s.directive code d run = t.reply ⟨code, d.tag, st, res⟩ := by
  have hdec : (t.inHand code d).decoder = (s.inHand code d).decoder := by simp [State.inHand, ht, h.1]
  rw [directive_answers h hrun hdec hcode, handDone_inHand ht]

/-! ## What a frame around a line gives of the state dealt with -/

theorem decoder_of_outside (h : u.outside = (s.inHand code d).outside) : u.decoder = (s.inHand code d).decoder :=
  (congrArg State.decoder h :)

theorem replies_of_outside (h : u.outside = (s.inHand code d).outside) : u.replies = s.replies :=
  (congrArg State.replies h :)

theorem decoder_of_around (h : u.around i = (s.inHand code d).around i) : u.decoder = (s.inHand code d).decoder :=
  (congrArg State.decoder (around_outside h) :)

theorem replies_of_around (h : u.around i = (s.inHand code d).around i) : u.replies = s.replies :=
  (congrArg State.replies (around_outside h) :)

theorem handDone_eq_of_outside (hs : s.takes) (h : u.outside = (s.inHand code d).outside) : u.handDone =
    { s with lines := u.handDone.lines, areas := u.handDone.areas, store := u.handDone.store, dram := u.handDone.dram } := by
  have hu := congrArg State.handDone (eq_of_outside h)
  refine hu.trans ?_
  have hdec := hs.1
  cases s; cases u
  simp_all [State.handDone, State.inHand]

theorem handDone_eq_of_lines (hs : s.takes) (h : u = { s.inHand code d with lines := u.lines }) :
    u.handDone = { s with lines := u.handDone.lines } := by
  refine (congrArg State.handDone h).trans ?_
  have hdec := hs.1
  cases s; cases u
  simp_all [State.handDone, State.inHand]

theorem handDone_eq_of_without (hs : s.takes) (h : u.without i = (s.inHand code d).without i) :
    u.handDone = { s with lines := u.handDone.lines } := handDone_eq_of_lines hs (eq_of_without h)

theorem handDone_othersSame (h : u.without i = (s.inHand code d).without i) : othersSame i s u.handDone :=
  fun j hj => (othersSame_of_without h j hj :)

theorem handDone_tablesSame (h : u.outside = (s.inHand code d).outside) : tablesSame s u.handDone :=
  (tablesSame_of_outside h :)

/-- A directive that acts on one line alone. -/
theorem directive_without {run : Directive → State → Answer} {st : Status} {res : List Byte} {p : State → Prop}
    (h : s.takes) (hrun : run d (s.inHand code d) = ⟨st, res, u⟩) (hfr : u.without i = (s.inHand code d).without i)
    (hcode : resets code st = false) (hp : p u.handDone) :
    repliesWith (.next (s.directive code d run)) s ⟨code, d.tag, st, res⟩ p :=
  directive_repliesWith h hrun (congrArg State.decoder hfr :) (congrArg State.replies hfr :) hcode hp

/-- A directive that acts on one line, and what its engines reach. -/
theorem directive_around {run : Directive → State → Answer} {st : Status} {res : List Byte} {p : State → Prop}
    (h : s.takes) (hrun : run d (s.inHand code d) = ⟨st, res, u⟩) (hfr : u.around i = (s.inHand code d).around i)
    (hcode : resets code st = false) (hp : p u.handDone) :
    repliesWith (.next (s.directive code d run)) s ⟨code, d.tag, st, res⟩ p :=
  directive_repliesWith h hrun (decoder_of_around hfr) (replies_of_around hfr) hcode hp

/-! ## Line values -/

theorem onLines_one {α : Type} {p : Arg α} {f : List LineId → Bool → Option α → State → Answer} {v : α}
    (hl : lineOf? d.line = some i) (hv : p.read d.args = .good v) : onLines p f d s = f [i] false (some v) s := by
  have hne : d.line ≠ 0x0F := by
    rintro h
    simp [h, lineOf?] at hl
  unfold onLines
  rw [if_neg hne, hl]
  simp [hv]

theorem onLines_all {α : Type} {p : Arg α} {f : List LineId → Bool → Option α → State → Answer} {v : α}
    (hl : d.line = 0x0F) (hv : p.read d.args = .good v) : onLines p f d s = f allLines true (some v) s := by
  simp [onLines, hl, hv]

theorem onLines_part {α : Type} {p : Arg α} {f : List LineId → Bool → Option α → State → Answer}
    (hl : d.line = 0x0E) : onLines p f d s = s.refuse .refusedUnknown := by
  simp [onLines, hl, lineOf?]

/-! ## Each line in turn -/

theorem mem_allLines (i : LineId) : i ∈ allLines := by revert i; decide

/-- An operation on each of the four lines in turn: the lines before and the lines after one of them. -/
theorem foldl_allLines (f : State → LineId → State) (s : State) (i : LineId) : ∃ as bs : List LineId,
    i ∉ as ∧ i ∉ bs ∧ allLines.foldl f s = bs.foldl f (f (as.foldl f s) i) := by
  obtain ⟨as, bs, hsplit⟩ := List.append_of_mem (mem_allLines i)
  have hnodup : (as ++ i :: bs).Nodup := by rw [← hsplit]; decide
  rw [List.nodup_append] at hnodup
  obtain ⟨-, hbs, hdisj⟩ := hnodup
  refine ⟨as, bs, fun hi => hdisj i hi i List.mem_cons_self rfl, (List.nodup_cons.1 hbs).1, ?_⟩
  rw [hsplit, List.foldl_append, List.foldl_cons]

/-- What each operation of a list keeps, the list keeps. -/
theorem foldl_keeps {α : Type} (proj : State → α) {f : State → LineId → State} {ls : List LineId}
    (h : ∀ j ∈ ls, ∀ s, proj (f s j) = proj s) (s : State) : proj (ls.foldl f s) = proj s := by
  induction ls generalizing s with
  | nil => rfl
  | cons j ls ih =>
    rw [List.foldl_cons, ih (fun k hk => h k (List.mem_cons_of_mem _ hk)), h j List.mem_cons_self]

end Sys2Proof.Machine
end

section
/-! SUPPORT. Enabling and disabling lines (R2, R3). -/

namespace Sys2Proof.Machine

variable {s : State} {i : LineId}

/-! ## Passing to a state without call -/

theorem linePass_carrier_eq (l : Line) (table : List ToneEntry) (now : Ms) (st : LineState) :
    (l.pass table now st).carrier = (l.carrier && ({ l with state := st } : Line).datapump) := by
  unfold Line.pass Line.freshRing
  dsimp only
  split_ifs <;> rfl

/-- Ring measurement that begins or stops has no burst in progress. -/
theorem linePass_burst_none {l : Line} (table : List ToneEntry) (now : Ms) (st : LineState)
    (h : l.measuresRing = false ∨ ({ l with state := st } : Line).measuresRing = false) :
    (l.pass table now st).ring.burst = none := by
  have hm : ∀ m : Line, m.state = st → m.job = l.job →
      m.measuresRing = ({ l with state := st } : Line).measuresRing := fun m hs hj => by
    simp [Line.measuresRing, hs, hj]
  unfold Line.pass Line.freshRing
  dsimp only
  split_ifs <;> simp_all [Line.startQualifying]

/-! ## Enabling (R2) -/

@[simp] theorem enableLine_without : (s.enableLine i).without i = s.without i := by
  unfold State.enableLine
  split <;> simp

theorem enableLine_on (h : (s.line i).state ≠ .offline) : s.enableLine i = s := if_neg h

/-- The fields an enabled line takes anew; every other stands (R2). -/
theorem enableLine_line_eq : (s.enableLine i).line i = { s.line i with
    state := ((s.enableLine i).line i).state, signals := ((s.enableLine i).line i).signals
    queue := ((s.enableLine i).line i).queue, ring := ((s.enableLine i).line i).ring
    relay := ((s.enableLine i).line i).relay, loopTimer := ((s.enableLine i).line i).loopTimer
    tone := ((s.enableLine i).line i).tone, carrier := ((s.enableLine i).line i).carrier } := by
  unfold State.enableLine
  split
  · rw [line_modLine_same, resumeRing_eq, pass_line_eq]
  · rfl

/-- An OFFLINE line is enabled: it goes to IDLE, with its loop-current input sampled (R2). -/
theorem enableLine_spec (h : (s.line i).state = .offline) : let l := (s.enableLine i).line i
    l.state = .idle ∧ l.relay = false ∧ l.signals.loop = (s.line i).realLoop ∧ l.signals.carrier = false ∧
    l.signals.hook = false ∧ l.signals.ring = false := by
  obtain ⟨hring, hloop, hcarrier, hhook⟩ := pass_signals s i .idle
  have hburst := linePass_burst_none (l := s.line i) s.toneTable s.now .idle (.inl (by simp [Line.measuresRing, h]))
  have hcar := linePass_carrier_eq (s.line i) s.toneTable s.now .idle
  rw [State.enableLine, if_pos h]
  dsimp only
  rw [line_modLine_same, resumeRing_eq]
  simp [hring, hloop, hcarrier, hhook, hburst, hcar, LineState.offHook, Line.loopIn, Line.datapump, Line.row]

/-! ## Disabling (R3) -/

@[simp] theorem disableLine_around : (s.disableLine i).around i = s.around i := by
  unfold State.disableLine
  split
  · rfl
  · rw [pass_around, modLine_around, endCall_around]
    exact fun _ => rfl

theorem disableLine_off (h : (s.line i).state = .offline) : s.disableLine i = s := if_pos h

theorem disableLine_on (h : (s.line i).state ≠ .offline) : s.disableLine i =
    ((s.endCall i .locally).modLine i (fun l => { l.noLoopback with guard := none })).pass i .offline := if_neg h

@[simp] theorem disableLine_state : ((s.disableLine i).line i).state = .offline := by
  by_cases h : (s.line i).state = .offline
  · rw [disableLine_off h, h]
  · rw [disableLine_on h]; simp

/-- A line disabled has neither call nor signals (R3). -/
theorem disableLine_spec (h : (s.line i).state ≠ .offline) : let l := (s.disableLine i).line i
    l.call = none ∧ l.relay = false ∧ l.signals.ring = false ∧ l.signals.loop = false ∧ l.signals.carrier = false ∧
    l.signals.hook = false := by
  rw [disableLine_on h]
  set s1 := (s.endCall i .locally).modLine i (fun l => { l.noLoopback with guard := none }) with hs1
  obtain ⟨hring, hloop, hcarrier, hhook⟩ := pass_signals s1 i .offline
  have hburst := linePass_burst_none (l := s1.line i) s1.toneTable s1.now .offline (.inr rfl)
  have hcar := linePass_carrier_eq (s1.line i) s1.toneTable s1.now .offline
  have hcall : (s1.line i).call = none := by simp [hs1, Line.noLoopback, endCall_call]
  simp [hring, hloop, hcarrier, hhook, hburst, hcar, hcall, LineState.offHook, Line.datapump, Line.row]

/-- A line without a call is disabled by itself. -/
theorem disableLine_without_of_none (h : (s.line i).call = none) : (s.disableLine i).without i = s.without i := by
  unfold State.disableLine
  split
  · rfl
  · rw [endCall_none _ _ _ h]; simp

theorem disableLine_dram (h : (s.line i).stage.isWriting = false) : (s.disableLine i).dram = s.dram := by
  unfold State.disableLine
  split
  · rfl
  · simp [endCall_dram _ _ h]

/-! ## All lines -/

/-- Enabling lines one by one changes nothing but lines. -/
theorem foldl_enableLine_eq (ls : List LineId) (s : State) :
    ls.foldl State.enableLine s = { s with lines := (ls.foldl State.enableLine s).lines } := by
  induction ls generalizing s with
  | nil => rfl
  | cons j ls ih =>
    rw [List.foldl_cons, ih]
    exact congrArg (fun t : State => { t with lines := (ls.foldl State.enableLine (s.enableLine j)).lines })
      (eq_of_without (enableLine_without (s := s) (i := j)))

/-- Among all lines enabled, each stands as if enabled alone. -/
theorem foldl_enableLine_line (s : State) (i : LineId) : ∃ u : State, u.line i = s.line i ∧
    (allLines.foldl State.enableLine s).line i = (u.enableLine i).line i := by
  obtain ⟨as, bs, has, hbs, hsplit⟩ := foldl_allLines State.enableLine s i
  have hkeep : ∀ ls : List LineId, i ∉ ls → ∀ t : State, (ls.foldl State.enableLine t).line i = t.line i :=
    fun ls hls => foldl_keeps (fun t => t.line i) fun j hj t =>
      othersSame_of_without (enableLine_without (s := t) (i := j)) i (fun h => hls (h ▸ hj))
  exact ⟨as.foldl State.enableLine s, hkeep as has s, by rw [hsplit, hkeep bs hbs]⟩

theorem foldl_outside {f : State → LineId → State} (h : ∀ s j, (f s j).around j = s.around j) (ls : List LineId)
    (s : State) : (ls.foldl f s).outside = s.outside :=
  foldl_keeps State.outside (fun j _ t => around_outside (h t j)) s

theorem foldl_profile {f : State → LineId → State} (h : ∀ s j, (f s j).around j = s.around j) (ls : List LineId)
    (s : State) (i : LineId) : ((ls.foldl f s).line i).profile = (s.line i).profile :=
  foldl_keeps (fun t => (t.line i).profile) (fun j _ t => profile_of_around (h t j) i) s

/-- Operations on other lines leave a line settled. -/
theorem foldl_settled {f : State → LineId → State} (h : ∀ s j, (f s j).around j = s.around j) {ls : List LineId}
    {i : LineId} (hi : i ∉ ls) (s : State) : ((ls.foldl f s).line i).settled = (s.line i).settled :=
  foldl_keeps (fun t => (t.line i).settled)
    (fun j hj t => settled_of_around (h t j) (fun he => hi (he ▸ hj))) s

/-- What a line settled shows of it. -/
theorem fields_of_settled {l m : Line} (h : l.settled = m.settled) :
    l.state = m.state ∧ l.call = m.call ∧ l.relay = m.relay ∧ l.signals = m.signals :=
  ⟨(congrArg Line.state h :), (congrArg Line.call h :), (congrArg Line.relay h :), (congrArg Line.signals h :)⟩

/-- Among all lines disabled, each is as one disabled alone (R3). -/
theorem foldl_disableLine_spec (s : State) (i : LineId) : let l := (allLines.foldl State.disableLine s).line i
    l.state = .offline ∧ ((s.line i).state ≠ .offline → l.call = none ∧ l.relay = false ∧ l.signals.ring = false ∧
      l.signals.loop = false ∧ l.signals.carrier = false ∧ l.signals.hook = false) := by
  obtain ⟨as, bs, has, hbs, hsplit⟩ := foldl_allLines State.disableLine s i
  obtain ⟨hst, -⟩ := fields_of_settled (foldl_settled (f := State.disableLine) (fun _ _ => disableLine_around) has s)
  obtain ⟨hstate, hcall, hrelay, hsig⟩ := fields_of_settled (foldl_settled (f := State.disableLine)
    (fun _ _ => disableLine_around) hbs ((as.foldl State.disableLine s).disableLine i))
  dsimp only
  rw [hsplit, hstate, hcall, hrelay, hsig, ← hst]
  exact ⟨disableLine_state, disableLine_spec⟩

/-! ## The obligation -/

theorem runLineEnable_one {d : Directive} (hl : lineOf? d.line = some i) (hargs : d.args = [])
    (h : (s.line i).state = .offline) : runLineEnable d s = ⟨.ok, [], s.enableLine i⟩ := by
  rw [runLineEnable, onLines_one hl (by rw [hargs]; exact read_none)]
  simp [h, State.answer]

theorem runLineEnable_all {d : Directive} (hl : d.line = 0x0F) (hargs : d.args = []) :
    runLineEnable d s = ⟨.ok, [], allLines.foldl State.enableLine s⟩ := by
  rw [runLineEnable, onLines_all hl (by rw [hargs]; exact read_none)]
  simp [State.answer]

theorem runLineDisable_one {d : Directive} (hl : lineOf? d.line = some i) (hargs : d.args = []) :
    runLineDisable d s = ⟨.ok, [], s.disableLine i⟩ := by
  rw [runLineDisable, onLines_one hl (by rw [hargs]; exact read_none)]
  simp [State.answer]

theorem runLineDisable_all {d : Directive} (hl : d.line = 0x0F) (hargs : d.args = []) :
    runLineDisable d s = ⟨.ok, [], allLines.foldl State.disableLine s⟩ := by
  rw [runLineDisable, onLines_all hl (by rw [hargs]; exact read_none)]
  simp [State.answer]

/-- Settles O10: enabling by `enableLine_spec`, disabling by `disableLine_spec`, all lines by what each leaves of the
others. -/
theorem lineEnableAndDisable : Obligations.LineEnableAndDisable := by
  unfold Obligations.LineEnableAndDisable
  refine ⟨fun s i d hs hl hargs hst => ?_, fun s i d hs hl hargs hst => ?_, fun s i d hs hl hargs => ?_,
    fun s d hs hl hargs => ?_, fun s d hs hl hargs => ?_, fun s d hs hl => ?_⟩
  · have hfr : ((s.inHand 0x10 d).enableLine i).without i = (s.inHand 0x10 d).without i := enableLine_without
    have hline := enableLine_line_eq (s := s.inHand 0x10 d) (i := i)
    obtain ⟨hstate, hrelay, hloop, hcarrier, hhook, hring⟩ := enableLine_spec (s := s.inHand 0x10 d) (i := i) hst
    refine directive_without hs (runLineEnable_one hl hargs hst) hfr rfl ⟨handDone_eq_of_without hs hfr, hline, hstate,
      hrelay, hloop, hcarrier, hhook, hring, ?_, handDone_othersSame hfr⟩
    exact (congrArg Line.profile hline :)
  · simp only [exec_lineEnable, execLineEnable]
    refine congrArg _ (directive_refused hs ?_ rfl)
    rw [runLineEnable, onLines_one hl (by rw [hargs]; exact read_none)]
    simp [hst]
  · have hfr : ((s.inHand 0x11 d).disableLine i).around i = (s.inHand 0x11 d).around i := disableLine_around
    refine directive_around hs (runLineDisable_one hl hargs) hfr rfl
      ⟨handDone_eq_of_outside hs (around_outside hfr), disableLine_state, profile_of_around hfr i,
      handDone_tablesSame (around_outside hfr), fun hc => ?_, fun hst => disableLine_spec (s := s.inHand 0x11 d) hst,
      fun hw => disableLine_dram (s := s.inHand 0x11 d) hw⟩
    have hwo := disableLine_without_of_none (s := s.inHand 0x11 d) (i := i) hc
    exact ⟨handDone_othersSame hwo, (areas_of_without hwo :), (store_of_without hwo :)⟩
  · have hlines := foldl_enableLine_eq allLines (s.inHand 0x10 d)
    refine directive_repliesWith hs (runLineEnable_all hl hargs) (by rw [hlines]) (by rw [hlines]; rfl) rfl
      ⟨handDone_eq_of_lines hs hlines, fun i => ?_⟩
    obtain ⟨u, hu, hline⟩ := foldl_enableLine_line (s.inHand 0x10 d) i
    rw [inHand_line] at hu
    rw [handDone_line, hline, ← hu]
    refine ⟨fun hst => by rw [enableLine_on hst], fun hst => ⟨?_, ?_⟩⟩
    · exact enableLine_line_eq
    · exact enableLine_spec hst
  · have hfr : (allLines.foldl State.disableLine (s.inHand 0x11 d)).outside = (s.inHand 0x11 d).outside :=
      foldl_outside (fun _ _ => disableLine_around) _ _
    refine directive_repliesWith hs (runLineDisable_all hl hargs) (decoder_of_outside hfr) (replies_of_outside hfr)
      rfl ⟨handDone_eq_of_outside hs hfr, handDone_tablesSame hfr, fun i => ?_⟩
    obtain ⟨hoff, hdown⟩ := foldl_disableLine_spec (s.inHand 0x11 d) i
    rw [handDone_line]
    exact ⟨hoff, foldl_profile (fun _ _ => disableLine_around) _ (s.inHand 0x11 d) i, hdown⟩
  · simp only [exec_lineEnable, execLineEnable, exec_lineDisable, execLineDisable, exec_lineReset, execLineReset]
    exact ⟨congrArg _ (directive_refused hs (onLines_part hl) rfl), congrArg _ (directive_refused hs (onLines_part hl) rfl),
      congrArg _ (directive_refused hs (onLines_part hl) rfl)⟩

end Sys2Proof.Machine
end

section
/-! SUPPORT. The areas a job takes into use, the context a DIAL takes (R14, R70, R71), and the line they concern. -/

namespace Sys2Proof.Machine

variable (s : State) (i j : LineId)

/-- The part without one line and without the areas: what taking areas into use for that line leaves. -/
def State.apart (s : State) (i : LineId) : State := { s.without i with areas := Vector.replicate 12 {} }

variable {s i j} {t : State}

theorem eq_of_apart (h : t.apart i = s.apart i) : t = { s with lines := t.lines, areas := t.areas } :=
  congrArg (fun o : State => { o with lines := t.lines, areas := t.areas }) h

theorem othersSame_of_apart (h : t.apart i = s.apart i) : othersSame i s t := fun j hj => by
  have := congrArg (fun o : State => o.line j) h
  have hline : ∀ u : State, (u.apart i).line j = u.line j := fun u => line_setLine_ne u i j {} hj
  simpa [hline] using this

theorem apart_of_without (h : t.without i = s.without i) : t.apart i = s.apart i :=
  congrArg (fun o : State => { o with areas := Vector.replicate 12 {} }) h

variable (s i)

@[simp] theorem setArea_apart (k : AreaId) (a : Area) : (s.setArea k a).apart i = s.apart i := rfl
@[simp] theorem modArea_apart (k : AreaId) (f : Area → Area) : (s.modArea k f).apart i = s.apart i := rfl
@[simp] theorem modLine_apart (f : Line → Line) : (s.modLine i f).apart i = s.apart i :=
  apart_of_without (modLine_without s i f)
@[simp] theorem notifyLine_apart (n : Notice) : (s.notifyLine i n).apart i = s.apart i := modLine_apart s i _

/-- A line but for its notice queue. -/
def Line.silent (l : Line) : Line := { l with queue := {} }

theorem eq_of_silent {l m : Line} (h : l.silent = m.silent) : l = { m with queue := l.queue } :=
  congrArg (fun x : Line => { x with queue := l.queue }) h

@[simp] theorem notify_silent (l : Line) (n : Notice) : (l.notify n).silent = l.silent := by
  unfold Line.notify
  split <;> rfl

@[simp] theorem notifyLine_silent (n : Notice) : ((s.notifyLine j n).line i).silent = (s.line i).silent := by
  by_cases h : i = j
  · subst h; simp
  · simp [h]

@[simp] theorem dropHost_apart (n : Nat) : (s.dropHost i n).apart i = s.apart i := by
  unfold State.dropHost
  split <;> simp

@[simp] theorem overrun_apart (n : Nat) : (s.overrun i n).apart i = s.apart i := by
  unfold State.overrun
  split <;> simp

@[simp] theorem dropHost_silent (n : Nat) : ((s.dropHost i n).line i).silent = (s.line i).silent := by
  unfold State.dropHost
  split <;> simp

@[simp] theorem overrun_silent (n : Nat) : ((s.overrun i n).line i).silent = (s.line i).silent := by
  unfold State.overrun
  split <;> simp

@[simp] theorem dropHost_area (n : Nat) (k : AreaId) : (s.dropHost i n).area k = s.area k := by
  unfold State.dropHost
  split <;> simp

@[simp] theorem overrun_area (n : Nat) (k : AreaId) : (s.overrun i n).area k = s.area k := by
  unfold State.overrun
  split <;> simp

@[simp] theorem emptyArea_silent (k : AreaId) : ((s.emptyArea k).line i).silent = (s.line i).silent := by
  unfold State.emptyArea State.setFlow
  split_ifs
  · rfl
  · dsimp only
    split <;> simp

variable {s i}

/-- An area joined to a line is emptied: no line but that one is told. -/
theorem emptyArea_apart {k : AreaId} {p : Purpose} (h : (s.area k).join = some (i, p)) :
    (s.emptyArea k).apart i = s.apart i := by
  unfold State.emptyArea State.setFlow
  split_ifs
  · rfl
  · simp [h]

theorem joined_join {p : Purpose} {k : AreaId} (h : s.joined i p = some k) : (s.area k).join = some (i, p) := by
  simpa using List.find?_some h

theorem setContent_apart {k : AreaId} {p q : Purpose} (c : ContentKind) (h : (s.area k).join = some (i, q)) :
    (s.setContent i p k c).apart i = s.apart i := by
  unfold State.setContent
  dsimp only
  split_ifs
  · rfl
  · rfl
  · rw [modArea_apart, emptyArea_apart (by simpa using h), dropHost_apart]
  · rw [modArea_apart, emptyArea_apart (by simpa using h), overrun_apart]

theorem setContent_silent (k : AreaId) (p : Purpose) (c : ContentKind) :
    ((s.setContent i p k c).line i).silent = (s.line i).silent := by
  unfold State.setContent
  dsimp only
  split_ifs <;> simp

theorem useArea_apart (c : ContentKind) (p : Purpose) : (State.useArea c i s p).apart i = s.apart i := by
  unfold State.useArea
  split
  · rfl
  · rename_i k h
    rw [setContent_apart (q := p) c (by simpa using joined_join h), modArea_apart]

theorem useArea_silent (c : ContentKind) (p : Purpose) : ((State.useArea c i s p).line i).silent = (s.line i).silent := by
  unfold State.useArea
  split
  · rfl
  · rw [setContent_silent, modArea_line]

/-! ## A directive that takes areas into use -/

theorem handDone_eq_of_apart {code : Byte} {d : Directive} (hs : s.takes) (h : t.apart i = (s.inHand code d).apart i) :
    t.handDone = { s with lines := t.handDone.lines, areas := t.handDone.areas } := by
  refine (congrArg State.handDone (eq_of_apart h)).trans ?_
  have hdec := hs.1
  cases s; cases t
  simp_all [State.handDone, State.inHand]

theorem handDone_othersSame_apart {code : Byte} {d : Directive} (h : t.apart i = (s.inHand code d).apart i) :
    othersSame i s t.handDone :=
  fun j hj => (othersSame_of_apart h j hj :)

/-- A directive that acts on one line and its areas. -/
theorem directive_apart {code : Byte} {d : Directive} {run : Directive → State → Answer} {st : Status} {res : List Byte}
    {p : State → Prop} (h : s.takes) (hrun : run d (s.inHand code d) = ⟨st, res, t⟩)
    (hfr : t.apart i = (s.inHand code d).apart i) (hcode : resets code st = false) (hp : p t.handDone) :
    repliesWith (.next (s.directive code d run)) s ⟨code, d.tag, st, res⟩ p :=
  directive_repliesWith h hrun (congrArg State.decoder hfr :) (congrArg State.replies hfr :) hcode hp

variable (s i)

@[simp] theorem useAreas_apart (ps : List Purpose) (c : ContentKind) : (s.useAreas i ps c).apart i = s.apart i := by
  unfold State.useAreas
  induction ps generalizing s with
  | nil => rfl
  | cons p ps ih => rw [List.foldl_cons, ih, useArea_apart]

@[simp] theorem useAreas_silent (ps : List Purpose) (c : ContentKind) :
    ((s.useAreas i ps c).line i).silent = (s.line i).silent := by
  unfold State.useAreas
  induction ps generalizing s with
  | nil => rfl
  | cons p ps ih => rw [List.foldl_cons, ih, useArea_silent]

/-! ## DIAL (R14) -/

/-- The line context at DIAL take. -/
def Line.dialled (s : State) (a : DialArgs) (es : List DialElement) (l : Line) : Line :=
  { l with
    job := a.job, direction := .outgoing, faxSource := a.source, dialList := es, dialPos := 0
    call := some (s.outgoingCall a.job), copies := s.callCopies l.profile }

theorem takeDial_eq {a : DialArgs} (es : List DialElement) (h : a.document = none) :
    s.takeDial i a es = (s.modLine i (Line.dialled s a es)).useAreas i a.uses a.job.content := by
  unfold State.takeDial
  rw [h]
  rfl

theorem takeDial_apart {a : DialArgs} (es : List DialElement) (h : a.document = none) :
    (s.takeDial i a es).apart i = s.apart i := by
  rw [takeDial_eq s i es h, useAreas_apart, modLine_apart]

/-- The line after DIAL take: the context, and what its queue has been told of the areas. -/
theorem takeDial_line {a : DialArgs} (es : List DialElement) (h : a.document = none) : ∃ q : NoticeQueue,
    (s.takeDial i a es).line i = { (s.line i).dialled s a es with queue := q } := by
  refine ⟨_, eq_of_silent ?_⟩
  rw [takeDial_eq s i es h, useAreas_silent, line_modLine_same]

/-- A DIAL that is taken on an IDLE line: its checks and what it starts. -/
theorem runDial_idle {d : Directive} {a : DialArgs} {es : List DialElement} {i : LineId} {s : State}
    (hl : lineOf? d.line = some i) (ha : argDial.read d.args = .good a) (hst : (s.line i).state = .idle)
    (hes : (s.line i).dialList? a = some es) (hdoc : a.document = none) (htone : s.hasTone .dial = true)
    (hready : s.dialReady i a = true) : runDial d s = ⟨.started, [], (s.takeDial i a es).seize i⟩ := by
  rw [runDial, onLine_good hl ha]
  simp [hst, hes, hdoc, htone, hready, State.answer]

/-- A DIAL that is taken in LOOPBACK. -/
theorem runDial_loopback {d : Directive} {a : DialArgs} {es : List DialElement} {i : LineId} {s : State}
    (hl : lineOf? d.line = some i) (ha : argDial.read d.args = .good a) (hst : (s.line i).state = .loopback)
    (hjob : (s.line i).job = .none) (hes : (s.line i).dialList? a = some es) (hdoc : a.document = none)
    (hready : s.dialReady i a = true) : runDial d s = ⟨.started, [], (s.takeDial i a es).startLoopJob i a.job⟩ := by
  rw [runDial, onLine_good hl ha]
  simp [hst, hjob, hes, hdoc, hready, State.answer]

end Sys2Proof.Machine
end

section
/-! SUPPORT. LOOPBACK (R21): entering and leaving it, its substitute signals, and the job a DIAL starts in it. -/

namespace Sys2Proof.Machine

variable {s : State} {i : LineId}

/-! ## Entering and leaving -/

@[simp] theorem enterLoopback_without : (s.enterLoopback i).without i = s.without i := by simp [State.enterLoopback]

/-- A line that does not measure ringing, or begins to, has a burst only where it had one. -/
theorem linePass_burst_kept {l : Line} (table : List ToneEntry) (now : Ms) (st : LineState) (h : l.ring.burst = none) :
    (l.pass table now st).ring.burst = none := by
  unfold Line.pass Line.freshRing
  dsimp only
  split_ifs <;> simp [Line.startQualifying, h]

/-- LOOPBACK begins with the substitute signals at their reset values (R21). -/
theorem enterLoopback_spec : let l := (s.enterLoopback i).line i
    l.state = .loopback ∧ l.relay = false ∧ l.substRing = false ∧ l.substLoop = true ∧ l.loopCount = 0 ∧
    l.loopClass = none ∧ l.signals.ring = false ∧ l.signals.loop = true := by
  unfold State.enterLoopback
  set s1 := s.modLine i (fun l => { l.noLoopback with ring := {} }) with hs1
  obtain ⟨hring, hloop, -⟩ := pass_signals s1 i .loopback
  have hburst := linePass_burst_kept s1.toneTable s1.now .loopback (l := s1.line i) (by simp [hs1])
  have hin : ((s1.line i).pass s1.toneTable s1.now .loopback).loopIn = true := by
    simp [Line.loopIn, hs1, Line.noLoopback]
  refine ⟨?_, ?_, ?_, ?_, ?_, ?_, by rw [hring, hburst]; rfl, by rw [hloop, hin]; rfl⟩
  all_goals simp [hs1, Line.noLoopback, LineState.offHook]

/-- A line that has no burst as it passes to IDLE enters it without a call. -/
theorem enterIdle_of_pass (h : ((s.line i).pass s.toneTable s.now .idle).ring.burst = none) :
    s.enterIdle i = (s.pass i .idle).modLine i (Line.resumeRing s.now) := by
  simp [State.enterIdle, h]

/-- LOOPBACK is left with no job running (R21). -/
theorem leaveLoopback_spec (hc : (s.line i).call = none) :
    (s.leaveLoopback i).without i = s.without i ∧ (let l := (s.leaveLoopback i).line i
    l.state = .idle ∧ l.substRing = false ∧ l.substLoop = true ∧ l.signals.loop = (s.line i).realLoop) := by
  unfold State.leaveLoopback
  rw [endCall_none _ _ _ hc]
  set s1 := s.modLine i (fun l => { l.noLoopback with ring := {} }) with hs1
  obtain ⟨-, hloop, -⟩ := pass_signals s1 i .idle
  have hburst := linePass_burst_kept s1.toneTable s1.now .idle (l := s1.line i) (by simp [hs1])
  have hin : ((s1.line i).pass s1.toneTable s1.now .idle).loopIn = (s.line i).realLoop := by
    simp [Line.loopIn, hs1, Line.noLoopback]
  rw [enterIdle_of_pass hburst]
  refine ⟨by simp [hs1], ?_⟩
  dsimp only
  rw [line_modLine_same, resumeRing_eq]
  refine ⟨?_, ?_, ?_, by rw [hloop, hin]; rfl⟩
  all_goals simp [hs1, Line.noLoopback]

/-! ## The substitute signals -/

@[simp] theorem substitute_without (r l : Bool) : (s.substitute i r l).without i = s.without i := by
  unfold State.substitute
  dsimp only
  split_ifs <;> simp

theorem ringChange_eq (l : Line) (now : Ms) (active : Bool) :
    l.ringChange now active = { l with ring := (l.ringChange now active).ring } := by
  unfold Line.ringChange
  split
  · rfl
  · split_ifs <;> rfl

/-- A line as its substitute signals take new values, but for its loop timer and its signal record (R21). -/
def Line.substRinging (now : Ms) (ring loop : Bool) (l : Line) : Line :=
  let l1 := { l with substRing := ring, substLoop := loop }
  if l.measuresRing && (l.substRing != ring) then l1.ringChange now ring else l1

theorem substRinging_eq (now : Ms) (ring loop : Bool) (l : Line) : l.substRinging now ring loop = { l with
    substRing := ring, substLoop := loop, ring := (l.substRinging now ring loop).ring } := by
  unfold Line.substRinging
  dsimp only
  split
  · exact ringChange_eq _ _ _
  · rfl

/-- A line as its substitute signals take new values, but for its signal record (R21). -/
def Line.substituted (now : Ms) (ring loop : Bool) (l : Line) : Line :=
  if l.substLoop = loop then l.substRinging now ring loop else (l.substRinging now ring loop).loopChange now

theorem substituted_eq (now : Ms) (ring loop : Bool) (l : Line) : l.substituted now ring loop = { l with
    substRing := ring, substLoop := loop, ring := (l.substituted now ring loop).ring
    loopTimer := (l.substituted now ring loop).loopTimer } := by
  unfold Line.substituted
  split
  · rw [substRinging_eq]
  · unfold Line.loopChange
    rw [substRinging_eq]

theorem substitute_eq (ring loop : Bool) : s.substitute i ring loop =
    let s1 := s.modLine i (Line.substituted s.now ring loop)
    if (s.line i).substLoop = loop then s1 else s1.signalLoop i loop := rfl

theorem substitute_spec (ring loop : Bool) : let t := s.substitute i ring loop
    t.line i = { s.line i with
      substRing := (t.line i).substRing, substLoop := (t.line i).substLoop, ring := (t.line i).ring
      loopTimer := (t.line i).loopTimer, signals := (t.line i).signals, queue := (t.line i).queue } ∧
    (t.line i).substRing = ring ∧ (t.line i).substLoop = loop ∧ (t.line i).state = (s.line i).state ∧
    ((s.line i).signals.loop = (s.line i).substLoop → (t.line i).signals.loop = loop) := by
  rw [substitute_eq]
  dsimp only
  split
  · rename_i h
    rw [line_modLine_same, substituted_eq]
    exact ⟨rfl, rfl, rfl, rfl, fun hs => hs.trans h⟩
  · have hline : ((s.modLine i (Line.substituted s.now ring loop)).signalLoop i loop).line i = _ :=
      (signalLoop_line_eq _ _ _).trans (by rw [line_modLine_same, substituted_eq])
    have hloop := (signalLoop_signals (s.modLine i (Line.substituted s.now ring loop)) i loop).1
    refine ⟨?_, ?_, ?_, ?_, fun _ => hloop⟩
    all_goals rw [hline]

/-! ## A job in LOOPBACK -/

/-- A line on which a job starts on the loopback path, but for its signal record (R21, R22, R30). -/
def Line.startLoop (table : List ToneEntry) (now : Ms) (l : Line) : Line :=
  let l1 := { l with
    loopCount := 0, loopClass := none, ring := {}
    tone := { l.tone.pass table now .idle l.row with nf16 := -960 } }
  { l1 with loopTimer := l1.freshLoopTimer now }

/-- The line in LOOPBACK as the job starts. -/
def State.toLoopJob (s : State) (i : LineId) : State :=
  (s.modLine i (Line.startLoop s.toneTable s.now)).signalRing i false false

theorem startLoopJob_eq (j : Job) : s.startLoopJob i j = match j with
    | .data  => (s.toLoopJob i).startData i .originate
    | .fax   => (s.toLoopJob i).startFaxSender i
    | .voice => (s.toLoopJob i).startHostVoice i
    | .none  => s.toLoopJob i := by
  cases j <;> rfl

theorem toLoopJob_without : (s.toLoopJob i).without i = s.without i := by simp [State.toLoopJob]

theorem toLoopJob_line : ∃ sg q, (s.toLoopJob i).line i =
    { (s.line i).startLoop s.toneTable s.now with signals := sg, queue := q } :=
  ⟨_, _, (signalRing_line_eq _ _ _ _).trans (by rw [line_modLine_same])⟩

/-- A data job in LOOPBACK is the originator, and answers nothing of itself (R98). -/
theorem startData_originate (h : s.dataLadder ≠ []) (hst : (s.line i).state = .loopback) :
    let t := s.startData i .originate
    t.without i = s.without i ∧ t.line i = { s.line i with
      copies := (t.line i).copies, quality := (t.line i).quality
      link := { phase := .exchange, role := some .originate, own := (t.line i).link.own
                exchangeTimer := some (s.now + 6000), capsSent := 1 } } := by
  unfold State.startData
  simp only [List.isEmpty_eq_false_iff.2 h, Bool.false_eq_true, if_false]
  refine ⟨by simp, ?_⟩
  simp [hst, State.start]

/-- A fax job in LOOPBACK is the sender, with the receiving half beside it, and a tone for each (R118, R120, R138). -/
theorem startFaxSender_loopback (h : s.faxLadder ≠ []) (hst : (s.line i).state = .loopback) :
    let t := s.startFaxSender i
    t.without i = s.without i ∧ t.line i = { s.line i with
      copies := (t.line i).copies, quality := (t.line i).quality
      fax := { phase := .establish, role := some .sender, source := (s.line i).faxSource
               toneEnd := some (s.now + 15000) }
      faxEcho := { phase := .establish, role := some .receiver, toneEnd := some (s.now + 3000) }
      tone := { (s.line i).tone with
        gen := toneRequest s.toneTable s.now .faxCall 15000
        echoGen := toneRequest s.toneTable s.now .faxAnswer 3000 } } := by
  unfold State.startFaxSender
  simp only [List.isEmpty_eq_false_iff.2 h, Bool.false_eq_true, if_false]
  rw [if_pos (by simp [State.generate, Line.bindFax, hst])]
  refine ⟨by simp [State.startFaxEcho], ?_⟩
  simp [State.startFaxEcho, State.generate, State.generateEcho, Line.bindFax, State.start]

/-- What the job of a DIAL in LOOPBACK leaves (R21). -/
theorem startLoopJob_spec (j : Job) (hst : (s.line i).state = .loopback) (hd : s.dataLadder ≠ [])
    (hf : s.faxLadder ≠ []) : let t := s.startLoopJob i j
    t.without i = s.without i ∧
    (t.line i).state = .loopback ∧ (t.line i).job = (s.line i).job ∧ (t.line i).direction = (s.line i).direction ∧
    (t.line i).call = (s.line i).call ∧ (t.line i).dialList = (s.line i).dialList ∧
    (t.line i).relay = (s.line i).relay ∧
    (j = .data → (t.line i).link.phase = .exchange ∧ (t.line i).link.role = some .originate ∧
      (t.line i).link.exchangeTimer = some (s.now + 6000) ∧ (t.line i).link.capsSent = 1) ∧
    (j = .fax → (t.line i).fax.phase = .establish ∧ (t.line i).fax.role = some .sender ∧
      (t.line i).fax.toneEnd = some (s.now + 15000) ∧ (t.line i).faxEcho.role = some .receiver ∧
      (t.line i).faxEcho.toneEnd = some (s.now + 3000) ∧
      (t.line i).tone.gen = toneRequest s.toneTable s.now .faxCall 15000 ∧
      (t.line i).tone.echoGen = toneRequest s.toneTable s.now .faxAnswer 3000) ∧
    (j = .voice → (t.line i).voice = { mode := .host }) ∧ (t.line i).profile = (s.line i).profile := by
  have hfr := toLoopJob_without (s := s) (i := i)
  obtain ⟨sg, qu, hline⟩ := toLoopJob_line (s := s) (i := i)
  have hst1 : ((s.toLoopJob i).line i).state = .loopback := by rw [hline]; exact hst
  have hnow : (s.toLoopJob i).now = s.now := now_of_without hfr
  have htable : (s.toLoopJob i).toneTable = s.toneTable := (congrArg State.toneTable hfr :)
  have hladder : (s.toLoopJob i).dataLadder = s.dataLadder := (congrArg State.dataLadder hfr :)
  have hfax : (s.toLoopJob i).faxLadder = s.faxLadder := (congrArg State.faxLadder hfr :)
  rw [startLoopJob_eq]
  dsimp only
  cases j with
  | data =>
    obtain ⟨hwo, ht⟩ := startData_originate (by rw [hladder]; exact hd) hst1
    rw [hwo, hfr, ht, hline]
    simp [Line.startLoop, hst, hnow]
  | fax =>
    obtain ⟨hwo, ht⟩ := startFaxSender_loopback (by rw [hfax]; exact hf) hst1
    rw [hwo, hfr, ht, hline]
    simp [Line.startLoop, hst, hnow, htable]
  | voice => simp [State.startHostVoice, hfr, hline, Line.startLoop, hst]
  | none => simp [hfr, hline, Line.startLoop, hst]

/-! ## The obligation -/

theorem runLoopback_enter {d : Directive} (hl : lineOf? d.line = some i) (ha : (argNum 1).read d.args = .good 0)
    (hst : (s.line i).state = .idle) : runLoopback d s = ⟨.ok, [], s.enterLoopback i⟩ := by
  rw [runLoopback, onLine_good hl ha]
  simp [hst, State.answer]

theorem runLoopback_leave {d : Directive} (hl : lineOf? d.line = some i) (ha : (argNum 1).read d.args = .good 1)
    (hst : (s.line i).state = .loopback) : runLoopback d s = ⟨.ok, [], s.leaveLoopback i⟩ := by
  rw [runLoopback, onLine_good hl ha]
  simp [hst, State.answer]

theorem bool_of_le {n : Nat} (h : n ≤ 1) : bool? n = some (n == 1) := by
  interval_cases n <;> rfl

theorem runLoopSignals_taken {d : Directive} {r l : Nat} (hl : lineOf? d.line = some i)
    (ha : argPair.read d.args = .good (r, l)) (hr : r ≤ 1) (hloop : l ≤ 1) (hst : (s.line i).state = .loopback) :
    runLoopSignals d s = ⟨.ok, [], s.substitute i (r == 1) (l == 1)⟩ := by
  rw [runLoopSignals, onLine_good hl ha]
  simp [hst, bool_of_le hr, bool_of_le hloop, State.answer]

theorem dialList_loopback {l : Line} {a : DialArgs} (hst : l.state = .loopback) (h : a.list = []) :
    l.dialList? a = some [] := by
  simp [Line.dialList?, h, hst, allSome]

theorem allSome_nil_iff {α : Type} (xs : List (Option α)) : allSome xs = some [] ↔ xs = [] := by
  rcases xs with _ | ⟨_ | _, _⟩ <;> simp [allSome]

/-- A dial list with anything in it is none for LOOPBACK (R21). -/
theorem dialList_loopback_none {l : Line} {a : DialArgs} (hst : l.state = .loopback) (h : a.list ≠ []) :
    l.dialList? a = none := by
  have hne : allSome a.list ≠ some [] := mt (allSome_nil_iff _).1 h
  unfold Line.dialList?
  split
  · rfl
  · rename_i es hes
    have : es ≠ [] := fun h0 => hne (h0 ▸ hes)
    simp [hst, this]

/-- What a DIAL taken in LOOPBACK leaves, its areas taken into use first. -/
theorem takeDial_loop {a : DialArgs} (hst : (s.line i).state = .loopback) (hdoc : a.document = none)
    (hd : s.dataLadder ≠ []) (hf : s.faxLadder ≠ []) : let t := (s.takeDial i a []).startLoopJob i a.job
    t.apart i = s.apart i ∧
    (t.line i).state = .loopback ∧ (t.line i).job = a.job ∧ (t.line i).direction = .outgoing ∧
    (t.line i).call = some (s.outgoingCall a.job) ∧ (t.line i).dialList = [] ∧
    (t.line i).relay = (s.line i).relay ∧
    (a.job = .data → (t.line i).link.phase = .exchange ∧ (t.line i).link.role = some .originate ∧
      (t.line i).link.exchangeTimer = some (s.now + 6000) ∧ (t.line i).link.capsSent = 1) ∧
    (a.job = .fax → (t.line i).fax.phase = .establish ∧ (t.line i).fax.role = some .sender ∧
      (t.line i).fax.toneEnd = some (s.now + 15000) ∧ (t.line i).faxEcho.role = some .receiver ∧
      (t.line i).faxEcho.toneEnd = some (s.now + 3000) ∧
      (t.line i).tone.gen = toneRequest s.toneTable s.now .faxCall 15000 ∧
      (t.line i).tone.echoGen = toneRequest s.toneTable s.now .faxAnswer 3000) ∧
    (a.job = .voice → (t.line i).voice = { mode := .host }) ∧ (t.line i).profile = (s.line i).profile := by
  have hap := takeDial_apart s i [] hdoc
  obtain ⟨q, hline⟩ := takeDial_line s i [] hdoc
  have hnow : (s.takeDial i a []).now = s.now := (congrArg State.now hap :)
  have htable : (s.takeDial i a []).toneTable = s.toneTable := (congrArg State.toneTable hap :)
  have hdata : (s.takeDial i a []).dataLadder = s.dataLadder := (congrArg State.dataLadder hap :)
  have hfax : (s.takeDial i a []).faxLadder = s.faxLadder := (congrArg State.faxLadder hap :)
  have hspec := startLoopJob_spec (s := s.takeDial i a []) (i := i) a.job (by rw [hline]; exact hst)
    (by rw [hdata]; exact hd) (by rw [hfax]; exact hf)
  rw [hline, hnow, htable] at hspec
  obtain ⟨hfr, hrest⟩ := hspec
  exact ⟨(apart_of_without hfr).trans hap, hrest⟩

/-- Settles O14: entering and leaving by `enterLoopback_spec` and `leaveLoopback_spec`, the signals by `substitute_spec`,
the job by `takeDial_loop`. -/
theorem loopbackEntersAndLeaves : Obligations.LoopbackEntersAndLeaves := by
  unfold Obligations.LoopbackEntersAndLeaves
  refine ⟨fun s i d hs hl ha hst => ?_, fun s i d hs hl ha hst hc => ?_, fun s i d r l hs hl ha hr hloop hst => ?_,
    fun s i d a hs hl ha hst hjob hlist hdoc hready hd hf => ?_, fun s i d a hs hl ha hst hjob hlist => ?_,
    fun s i d a hs hl ha hst hjob => ?_, fun l far => ⟨fun h => ?_, fun h => ?_, fun h h' => ?_, fun h => ?_⟩⟩
  · have hfr : ((s.inHand 0x17 d).enterLoopback i).without i = (s.inHand 0x17 d).without i := enterLoopback_without
    obtain ⟨hstate, hrelay, hring, hloop, hcount, hcls, hsring, hsloop⟩ :=
      enterLoopback_spec (s := s.inHand 0x17 d) (i := i)
    have hrun := runLoopback_enter (s := s.inHand 0x17 d) hl ha hst
    generalize (s.inHand 0x17 d).enterLoopback i = t at *
    refine directive_without hs hrun hfr rfl ?_
    simp only [handDone_line]
    exact ⟨handDone_eq_of_without hs hfr, hstate, hrelay, hring, hloop, hcount, hcls, hsring, hsloop,
      handDone_othersSame hfr⟩
  · obtain ⟨hfr, hstate, hring, hloop, hsloop⟩ := leaveLoopback_spec (s := s.inHand 0x17 d) (i := i) hc
    have hrun := runLoopback_leave (s := s.inHand 0x17 d) hl ha hst
    generalize (s.inHand 0x17 d).leaveLoopback i = t at *
    refine directive_without hs hrun hfr rfl ?_
    simp only [handDone_line]
    exact ⟨handDone_eq_of_without hs hfr, hstate, hring, hloop, hsloop, handDone_othersSame hfr⟩
  · have hfr : ((s.inHand 0x18 d).substitute i (r == 1) (l == 1)).without i = (s.inHand 0x18 d).without i :=
      substitute_without _ _
    obtain ⟨hline, hring, hsub, hstate, hsloop⟩ := substitute_spec (s := s.inHand 0x18 d) (i := i) (r == 1) (l == 1)
    have hrun := runLoopSignals_taken (s := s.inHand 0x18 d) hl ha hr hloop hst
    generalize (s.inHand 0x18 d).substitute i (r == 1) (l == 1) = t at *
    refine directive_without hs hrun hfr rfl ?_
    simp only [handDone_line]
    exact ⟨handDone_eq_of_without hs hfr, hline, hring, hsub, hstate.trans hst, hsloop, handDone_othersSame hfr⟩
  · have hspec := takeDial_loop (s := s.inHand 0x15 d) (i := i) (a := a) hst hdoc hd hf
    have hrun := runDial_loopback (s := s.inHand 0x15 d) hl ha hst hjob (dialList_loopback hst hlist) hdoc hready
    generalize ((s.inHand 0x15 d).takeDial i a []).startLoopJob i a.job = t at *
    obtain ⟨hfr, hstate, hj, hdir, hcall, hdl, hrelay, hdata, hfax, hvoice, hprof⟩ := hspec
    exact directive_apart hs hrun hfr rfl ⟨handDone_eq_of_apart hs hfr, hstate, hj, hdir, hcall, hdl, hrelay, hdata,
      hfax, hvoice, hprof, handDone_othersSame_apart hfr⟩
  · refine congrArg _ (directive_refused hs ?_ rfl)
    rw [runDial, onLine_good hl ha]
    simp [hst, hjob, dialList_loopback_none hst hlist]
  · refine congrArg _ (directive_refused hs ?_ rfl)
    rw [runDial, onLine_good hl ha]
    simp [hst, hjob]
  · simp [Line.portTransmit, Line.receive, h]
  · simp [Line.portTransmit, h]
  · cases hl : l.state <;> simp_all [Line.receive]
  · simp [Line.portTransmit, Line.receive, Line.transmit, h]

end Sys2Proof.Machine
end

section
/-! SUPPORT. The release of a call does the same with a directive in hand and without: each of its operations commutes
with taking one into hand. -/

namespace Sys2Proof.Machine

variable (s : State) (i j : LineId) (k : AreaId) {code : Byte} {d : Directive}

/-! ## What the state in hand reads as -/

@[simp] theorem inHand_joined (p : Purpose) : (s.inHand code d).joined i p = s.joined i p := rfl
@[simp] theorem inHand_entry (id : Nat) : (s.inHand code d).entry? id = s.entry? id := rfl
@[simp] theorem inHand_setLine (l : Line) : (s.inHand code d).setLine i l = (s.setLine i l).inHand code d := rfl
@[simp] theorem inHand_modLine (f : Line → Line) : (s.inHand code d).modLine i f = (s.modLine i f).inHand code d := rfl
@[simp] theorem inHand_notifyLine (n : Notice) :
    (s.inHand code d).notifyLine i n = (s.notifyLine i n).inHand code d := rfl
@[simp] theorem inHand_modArea (f : Area → Area) : (s.inHand code d).modArea k f = (s.modArea k f).inHand code d := rfl
@[simp] theorem inHand_modEntry (id : Nat) (f : Entry → Entry) :
    (s.inHand code d).modEntry id f = (s.modEntry id f).inHand code d := rfl
@[simp] theorem inHand_request (r : BlockRequest) : (s.inHand code d).request r = (s.request r).inHand code d := rfl
@[simp] theorem inHand_releaseAreas : (s.inHand code d).releaseAreas i = (s.releaseAreas i).inHand code d := rfl
@[simp] theorem inHand_clearPlaying : (s.inHand code d).clearPlaying i = (s.clearPlaying i).inHand code d := rfl
@[simp] theorem inHand_clearFaxing : (s.inHand code d).clearFaxing i = (s.clearFaxing i).inHand code d := rfl
@[simp] theorem inHand_withdraw : (s.inHand code d).withdraw i = (s.withdraw i).inHand code d := rfl
@[simp] theorem inHand_leaveStage : (s.inHand code d).leaveStage i = (s.leaveStage i).inHand code d := rfl
@[simp] theorem inHand_addPage (id : Nat) (p : PageRecord) :
    (s.inHand code d).addPage id p = (s.addPage id p).inHand code d := rfl

theorem ite_inHand {p : Prop} [Decidable p] (t : State) :
    (if p then s.inHand code d else t.inHand code d) = (if p then s else t).inHand code d := by
  split <;> rfl

/-! ## The line and its areas -/

@[simp] theorem inHand_setSignals (a b c e f : Bool) :
    (s.inHand code d).setSignals i a b c e f = (s.setSignals i a b c e f).inHand code d := by
  unfold State.setSignals
  dsimp only
  rw [inHand_line, inHand_modLine, inHand_notifyLine, ite_inHand]

@[simp] theorem inHand_signalCarrier (v : Bool) :
    (s.inHand code d).signalCarrier i v = (s.signalCarrier i v).inHand code d := inHand_setSignals s i _ _ _ _ _

@[simp] theorem inHand_pass (st : LineState) : (s.inHand code d).pass i st = (s.pass i st).inHand code d := by
  simp [State.pass]

@[simp] theorem inHand_setFlow (f : FlowState) : (s.inHand code d).setFlow k f = (s.setFlow k f).inHand code d := by
  unfold State.setFlow
  dsimp only
  rw [inHand_area, inHand_modArea]
  split
  · rfl
  · split <;> rfl

@[simp] theorem inHand_remove (n : Nat) :
    (s.inHand code d).remove k n = ((s.remove k n).1, (s.remove k n).2.inHand code d) := by
  unfold State.remove
  simp only [inHand_area, inHand_modArea, inHand_setFlow]
  split_ifs <;> rfl

@[simp] theorem inHand_emptyArea : (s.inHand code d).emptyArea k = (s.emptyArea k).inHand code d := by
  simp [State.emptyArea]

@[simp] theorem inHand_emptyStage : (s.inHand code d).emptyStage i = (s.emptyStage i).inHand code d := by
  unfold State.emptyStage
  simp only [inHand_joined]
  split <;> simp

@[simp] theorem inHand_stopStage : (s.inHand code d).stopStage i = (s.stopStage i).inHand code d := by
  simp [State.stopStage]

/-! ## The store -/

@[simp] theorem inHand_allocate (id n : Nat) :
    (s.inHand code d).allocate id n = (s.allocate id n).inHand code d := by
  unfold State.allocate
  simp only [inHand_entry]
  split <;> rfl

@[simp] theorem inHand_storeBytes (id : Nat) (bs : List Byte) :
    (s.inHand code d).storeBytes id bs = (s.storeBytes id bs).inHand code d := by
  unfold State.storeBytes
  simp only [inHand_entry]
  split <;> rfl

@[simp] theorem inHand_refuseBlock (r : RequestKind) :
    (s.inHand code d).refuseBlock i r = (s.refuseBlock i r).inHand code d := by
  unfold State.refuseBlock
  simp only [inHand_modLine, inHand_emptyStage]
  split <;> rfl

/-- The part with its front block request taken from the list. -/
def State.popRequest (s : State) (rest : List BlockRequest) : State := { s with store.requests := rest }

@[simp] theorem inHand_popRequest (rest : List BlockRequest) :
    (s.inHand code d).popRequest rest = (s.popRequest rest).inHand code d := rfl

theorem serveRequest_eq : s.serveRequest =
    match s.store.requests with
    | [] => s
    | r :: rest =>
      match (s.popRequest rest).store.grant r.kind, r.line with
      | some n, some i => ((s.popRequest rest).allocate r.entry n).modLine i (fun l =>
          { l with stage := if r.kind = .reserve then l.stage else l.stage.answered false })
      | some n, none   => (s.popRequest rest).allocate r.entry n
      | none, some i   => (s.popRequest rest).refuseBlock i r.kind
      | none, none     => s.popRequest rest := rfl

@[simp] theorem inHand_serveRequest : (s.inHand code d).serveRequest = s.serveRequest.inHand code d := by
  rw [serveRequest_eq, serveRequest_eq]
  simp only [inHand_store, inHand_popRequest, inHand_allocate, inHand_modLine, inHand_refuseBlock]
  split
  · rfl
  · split <;> rfl

theorem inHand_serveMany : ∀ (n : Nat) (s : State), serveMany n (s.inHand code d) = (serveMany n s).inHand code d
  | 0, _ => rfl
  | n + 1, s => by rw [serveMany, inHand_serveRequest, inHand_serveMany n]; rfl

@[simp] theorem inHand_serveAll : (s.inHand code d).serveAll = s.serveAll.inHand code d := inHand_serveMany _ s

@[simp] theorem inHand_unlinkTail (id n : Nat) :
    (s.inHand code d).unlinkTail id n = (s.unlinkTail id n).inHand code d := by
  unfold State.unlinkTail
  simp only [inHand_entry]
  split <;> rfl

@[simp] theorem inHand_freeTail (id n : Nat) : (s.inHand code d).freeTail id n = (s.freeTail id n).inHand code d := by
  simp [State.freeTail]

@[simp] theorem inHand_trimEntry (id n : Nat) :
    (s.inHand code d).trimEntry id n = (s.trimEntry id n).inHand code d := by simp [State.trimEntry]

@[simp] theorem inHand_deleteEntry (id : Nat) : (s.inHand code d).deleteEntry id = (s.deleteEntry id).inHand code d := by
  unfold State.deleteEntry
  rw [inHand_freeTail]
  rfl

@[simp] theorem inHand_finishEntry (id : Nat) (why : EntryEnd) :
    (s.inHand code d).finishEntry id why = (s.finishEntry id why).inHand code d := by
  unfold State.finishEntry
  simp only [inHand_entry, inHand_trimEntry]
  split <;> rfl

@[simp] theorem inHand_closeEntry (id : Nat) (why : EntryEnd) :
    (s.inHand code d).closeEntry id why = (s.closeEntry id why).inHand code d := by
  unfold State.closeEntry
  simp only [inHand_entry, inHand_deleteEntry, inHand_finishEntry]
  split
  · rfl
  · split <;> rfl

@[simp] theorem inHand_stageWrite : (s.inHand code d).stageWrite i = (s.stageWrite i).inHand code d := by
  unfold State.stageWrite
  simp only [inHand_line, inHand_joined, inHand_entry, inHand_remove, inHand_storeBytes, inHand_area, inHand_emptyArea,
    inHand_modLine, inHand_request]
  split
  · split
    · rfl
    · split
      · rfl
      · split
        · rfl
        · split
          · rfl
          · split <;> rfl
  · rfl

theorem inHand_drainStage : ∀ (n : Nat) (s : State),
    State.drainStage i n (s.inHand code d) = (State.drainStage i n s).inHand code d
  | 0, _ => rfl
  | n + 1, s => by
    rw [State.drainStage, State.drainStage]
    simp only [inHand_stageWrite, inHand_line, inHand_serveAll, inHand_drainStage n]
    split <;> rfl

/-! ## The end of a call -/

@[simp] theorem inHand_closeFaxEntry (why : EndReason) :
    (s.inHand code d).closeFaxEntry i why = (s.closeFaxEntry i why).inHand code d := by
  unfold State.closeFaxEntry
  simp only [inHand_line, inHand_drainStage, inHand_serveAll, inHand_entry, inHand_addPage]
  split
  · rfl
  · split <;> simp only [inHand_entry, inHand_deleteEntry, inHand_finishEntry] <;> split <;> rfl

@[simp] theorem inHand_completeStored (r : Recording) (id : Nat) (why : RecEnd) (n : Nat) :
    (s.inHand code d).completeStored i r id why n = (s.completeStored i r id why n).inHand code d := by
  unfold State.completeStored
  dsimp only
  rw [inHand_entry, inHand_trimEntry, ite_inHand, inHand_closeEntry, inHand_deleteEntry, ite_inHand]
  rfl

@[simp] theorem inHand_completeRecording :
    (s.inHand code d).completeRecording i = (s.completeRecording i).inHand code d := by
  unfold State.completeRecording
  simp only [inHand_line, inHand_drainStage, inHand_completeStored]
  split
  · rfl
  · split
    · rfl
    · split <;> rfl

@[simp] theorem inHand_endPlayback (why : PlayEnd) :
    (s.inHand code d).endPlayback i why = (s.endPlayback i why).inHand code d := by
  unfold State.endPlayback
  simp only [inHand_line, inHand_clearPlaying, inHand_stopStage]
  split
  · rfl
  · split <;> rfl

@[simp] theorem inHand_leaveGreeting : (s.inHand code d).leaveGreeting i = (s.leaveGreeting i).inHand code d := by
  unfold State.leaveGreeting
  dsimp only
  rw [inHand_line, inHand_clearPlaying, inHand_leaveStage, ite_inHand]
  rfl

@[simp] theorem inHand_stopVoice (r : RecEnd) (p : PlayEnd) :
    (s.inHand code d).stopVoice i r p = (s.stopVoice i r p).inHand code d := by
  unfold State.stopVoice
  simp only [inHand_line, inHand_leaveGreeting, inHand_endPlayback]
  split
  · rfl
  · rfl
  · rfl
  · rfl
  · split
    · rfl
    · simp [State.endRecording]

@[simp] theorem inHand_stopEngine (why : EndReason) :
    (s.inHand code d).stopEngine i why = (s.stopEngine i why).inHand code d := by
  unfold State.stopEngine
  simp only [inHand_line, inHand_closeFaxEntry, inHand_stopVoice]
  split
  · simp
  · split <;> simp

@[simp] theorem inHand_reportEnd : (s.inHand code d).reportEnd i = (s.reportEnd i).inHand code d := by
  unfold State.reportEnd
  simp only [inHand_line]
  split <;> rfl

@[simp] theorem inHand_callEnd (why : EndReason) : (s.inHand code d).callEnd i why = (s.callEnd i why).inHand code d := by
  simp [State.callEnd]

@[simp] theorem inHand_enterRelease : (s.inHand code d).enterRelease i = (s.enterRelease i).inHand code d := by
  unfold State.enterRelease
  rw [inHand_pass]
  rfl

/-- The release of a call does the same with a directive in hand and without. -/
theorem inHand_release (why : EndReason) : (s.inHand code d).release i why = (s.release i why).inHand code d := by
  unfold State.release
  simp only [inHand_line, inHand_callEnd, inHand_enterRelease, inHand_toneTable, inHand_now]
  split <;> rfl

end Sys2Proof.Machine
end

section
/-! SUPPORT. DIAL on an IDLE line (R14, R15), and HANG_UP (R17, R113, R136). -/

namespace Sys2Proof.Machine

variable {s : State} {i : LineId} {d : Directive} {n : Nat}

/-! ## DIAL -/

/-- A line that seizes: the relay closed, the dial-tone wait running (R7, R15). -/
theorem seize_line : let l := (s.seize i).line i
    l.state = .seizing ∧ l.relay = true ∧ l.job = (s.line i).job ∧ l.direction = (s.line i).direction ∧
    l.dialList = (s.line i).dialList ∧ l.dialPos = (s.line i).dialPos ∧ l.call = (s.line i).call ∧
    l.signals.hook = true ∧ l.dialWait = some (s.now + (s.line i).profile.dialToneWaitMs) := by
  obtain ⟨-, -, -, hhook⟩ := pass_signals s i .seizing
  simp [State.seize, State.start, hhook, LineState.offHook]

/-- What a DIAL taken on an IDLE line leaves, its areas taken into use first. -/
theorem takeDial_seize {a : DialArgs} {es : List DialElement} (hdoc : a.document = none) :
    let t := (s.takeDial i a es).seize i
    t.apart i = s.apart i ∧ (t.line i).state = .seizing ∧ (t.line i).relay = true ∧ (t.line i).job = a.job ∧
    (t.line i).direction = .outgoing ∧ (t.line i).dialList = es ∧ (t.line i).dialPos = 0 ∧
    (t.line i).call = some (s.outgoingCall a.job) ∧ (t.line i).signals.hook = true ∧
    (t.line i).dialWait = some (s.now + (s.line i).profile.dialToneWaitMs) := by
  have hap := takeDial_apart s i es hdoc
  obtain ⟨q, hline⟩ := takeDial_line s i es hdoc
  have hnow : (s.takeDial i a es).now = s.now := (congrArg State.now hap :)
  have hspec := seize_line (s := s.takeDial i a es) (i := i)
  rw [hline, hnow] at hspec
  exact ⟨(apart_of_without (seize_without _ i)).trans hap, hspec⟩

/-! ## What a line may hang up -/

theorem canHangUp_of_row {l : Line} (h : l.row = .data ∨ l.row = .fax) : l.canHangUp = true := by
  cases hst : l.state <;> cases hj : l.job <;> simp_all [Line.row, Line.canHangUp]

theorem row_of_state {l : Line} (h : l.state ≠ .loopback) : l.row = l.state := by
  unfold Line.row
  split <;> simp_all

theorem runHangUp_refused (hl : lineOf? d.line = some i) (ha : (argNum 1).read d.args = .good n)
    (h : (s.line i).canHangUp = false) : runHangUp d s = s.refuse .refusedState := by
  rw [runHangUp, onLine_good hl ha]
  simp [h]

theorem runHangUp_bad (hl : lineOf? d.line = some i) (ha : (argNum 1).read d.args = .good n)
    (h : (s.line i).canHangUp = true) (hn : 2 ≤ n) : runHangUp d s = s.refuse .refusedArg := by
  have hb : bool? n = none := by
    obtain ⟨m, rfl⟩ := Nat.exists_eq_add_of_le' hn
    rfl
  rw [runHangUp, onLine_good hl ha]
  simp [h, hb]

theorem runHangUp_data (hl : lineOf? d.line = some i) (ha : (argNum 1).read d.args = .good n) (hn : n ≤ 1)
    (h : (s.line i).row = .data) : runHangUp d s = ⟨.started, [], s.hangUpData i (n == 1)⟩ := by
  rw [runHangUp, onLine_good hl ha]
  simp [canHangUp_of_row (.inl h), bool_of_le hn, h, State.answer]

theorem runHangUp_fax (hl : lineOf? d.line = some i) (ha : (argNum 1).read d.args = .good n) (hn : n ≤ 1)
    (h : (s.line i).row = .fax) : runHangUp d s = ⟨.started, [], s.hangUpFax i⟩ := by
  rw [runHangUp, onLine_good hl ha]
  simp [canHangUp_of_row (.inr h), bool_of_le hn, h, State.answer]

/-- A call that has no engine to end it is released at once (R17). -/
theorem runHangUp_release (hl : lineOf? d.line = some i) (ha : (argNum 1).read d.args = .good n) (hn : n ≤ 1)
    (h : (s.line i).state = .seizing ∨ (s.line i).state = .dialling ∨ (s.line i).state = .progress ∨
      (s.line i).state = .classify ∨ (s.line i).state = .voice) :
    runHangUp d s = ⟨.ok, [], s.release i .locally⟩ := by
  rw [runHangUp, onLine_good hl ha]
  rcases h with h | h | h | h | h <;> simp [Line.canHangUp, bool_of_le hn, row_of_state, h, State.answer]

/-! ## A data call (R113, R114) -/

theorem hangUpData_ending (drain : Bool) (h : (s.line i).link.farEnd.isSome = true ∨ (s.line i).link.phase = .closing) :
    s.hangUpData i drain = s := by
  unfold State.hangUpData
  rcases h with h | h
  · exact if_pos h
  · simp [h]

theorem hangUpData_release (drain : Bool) (hfar : (s.line i).link.farEnd = none) (hclosing : (s.line i).link.phase ≠ .closing)
    (h : (s.line i).link.phase ∉ [.linked, .draining] ∨ (s.line i).quality.rc = .retraining) :
    s.hangUpData i drain = s.release i .locally := by
  unfold State.hangUpData
  cases hp : (s.line i).link.phase <;> simp_all

/-- A line whose link is drained: a renegotiation abandoned, and END sent (R90, R113, R114). -/
def Line.linkEnded (now : Ms) (l : Line) : Line := (l.abandonRate now).sendEnd now

/-- A drain begins (R113). -/
def Line.startDrain (now : Ms) (l : Line) : Line :=
  { l with link := { l.link with phase := .draining, drainTimer := some (now + 10000) } }

theorem hangUpData_eq (drain : Bool) (hfar : (s.line i).link.farEnd = none)
    (hphase : (s.line i).link.phase = .linked ∨ (s.line i).link.phase = .draining)
    (hrc : (s.line i).quality.rc ≠ .retraining) : s.hangUpData i drain =
      if (s.line i).link.phase = .draining ∨ drain = false then s.modLine i (Line.linkEnded s.now)
      else (s.modLine i (fun l => (l.abandonRate s.now).startDrain s.now)).pump i := by
  unfold State.hangUpData
  rcases hphase with hp | hp <;>
    simp only [hfar, hp, hrc, Option.isSome_none, Bool.false_eq_true, if_false, modLine_modLine] <;> rfl

theorem abandonRate_idle {l : Line} (now : Ms) (h : l.quality.rc ≠ .renegotiating) : l.abandonRate now = l := if_neg h

/-- With Rate Control in STEADY and nothing ahead of it, END goes to the free transmitter (R102). -/
theorem sendEnd_free {l : Line} (now : Ms) (hrc : l.quality.rc = .steady) (hrate : l.link.rateWait = [])
    (hend : l.link.endWait = []) (htx : l.link.txNow = none) (hsteady : l.link.endOnSteady = false) :
    l.sendEnd now = { l with link := { l.link with
      phase := .closing, drainTimer := none, endOkWait := some (now + 2000), sendQueue := [], resendWait := []
      newWait := [], resendTimer := .stopped, txNow := some .fin } } := by
  simp [Line.sendEnd, Line.kick, Link.choose, hrc, hrate, hend, htx, hsteady]

/-- A line that leaves STEADY or a renegotiation for the END of its link. -/
theorem linkEnded_eq {l : Line} (now : Ms)
    (hrc : l.quality.rc = .steady ∧ l.link.rateWait = [] ∨ l.quality.rc = .renegotiating) (htx : l.link.txNow = none)
    (hend : l.link.endWait = []) (hsteady : l.link.endOnSteady = false) : l.linkEnded now = { l with
      quality := { l.quality with
        rc := .steady, cause := (l.linkEnded now).quality.cause, target := (l.linkEnded now).quality.target
        oldStep := (l.linkEnded now).quality.oldStep, rateOkWait := (l.linkEnded now).quality.rateOkWait }
      link := { l.link with
        phase := .closing, drainTimer := none, endOkWait := some (now + 2000), sendQueue := [], resendWait := []
        newWait := [], rateWait := [], resendTimer := .stopped, txNow := some .fin } } := by
  unfold Line.linkEnded
  rcases hrc with ⟨hrc, hrate⟩ | hrc
  · rw [abandonRate_idle now (by simp [hrc]), sendEnd_free now hrc hrate hend htx hsteady, ← hrc, ← hrate]
  · have hab : l.abandonRate now = { l with
        quality := { l.quality with rc := .steady, cause := none, target := none, oldStep := none, rateOkWait := none }
        link := { l.link with rateWait := [], resendTimer := l.link.resendTimer.thaw now } } := if_pos hrc
    rw [sendEnd_free (l := l.abandonRate now) now (by rw [hab]) (by rw [hab]) (by rw [hab]; exact hend)
      (by rw [hab]; exact htx) (by rw [hab]; exact hsteady), hab]

theorem abandonRate_rc {l : Line} (now : Ms) (h : l.quality.rc = .steady ∨ l.quality.rc = .renegotiating) :
    (l.abandonRate now).quality.rc = .steady := by
  unfold Line.abandonRate
  split_ifs with hr
  · rfl
  · exact h.resolve_right hr

theorem abandonRate_link (now : Ms) (l : Line) : ∃ fs r,
    (l.abandonRate now).link = { l.link with rateWait := fs, resendTimer := r } := by
  unfold Line.abandonRate
  split_ifs
  · exact ⟨_, _, rfl⟩
  · exact ⟨_, _, rfl⟩

/-- A drain that begins with nothing left to send ends at once. -/
theorem endDrain_startDrain {l : Line} (now : Ms) (h : l.quality.rc = .steady) :
    (l.startDrain now).endDrain now = l.sendEnd now := by
  have hrc : (l.startDrain now).quality.rc = .steady := h
  unfold Line.endDrain
  rw [if_neg (by rw [hrc]; decide), abandonRate_idle now (by rw [hrc]; decide)]
  rfl

theorem kick_busy {l : Line} (now : Ms) {f : LinkFrame} (h : l.link.txNow = some f) : l.kick now = l := by
  simp [Line.kick, h]

theorem checkDrain_ends (h : (s.line i).link.phase = .draining) (hfar : (s.line i).link.farEnd = none)
    (hend : (s.line i).link.endOnSteady = false) (hsend : (s.line i).link.sendQueue = []) (htx : s.txEmpty i = true) :
    s.checkDrain i = s.modLine i (Line.endDrain s.now) := if_pos ⟨h, hfar, hend, hsend, htx⟩

theorem checkDrain_waits (h : (s.line i).link.sendQueue ≠ [] ∨ s.txEmpty i = false) : s.checkDrain i = s := by
  refine if_neg ?_
  rintro ⟨-, -, -, hsend, htx⟩
  simp [hsend, htx] at h

/-- The END of a link that has nothing to drain, or is not asked to (R113). -/
theorem hangUpData_ends (n : Nat) (hfar : (s.line i).link.farEnd = none)
    (hrc : (s.line i).quality.rc = .steady ∧ (s.line i).link.rateWait = [] ∨ (s.line i).quality.rc = .renegotiating)
    (htx : (s.line i).link.txNow = none) (hend : (s.line i).link.endWait = [])
    (hsteady : (s.line i).link.endOnSteady = false)
    (h : (s.line i).link.phase = .draining ∨ (s.line i).link.phase = .linked ∧
      (n = 0 ∨ (s.line i).link.sendQueue = [] ∧ s.txEmpty i = true)) (hn : n ≤ 1) :
    s.hangUpData i (n == 1) = s.modLine i (Line.linkEnded s.now) := by
  have hnot : (s.line i).quality.rc ≠ .retraining := by rcases hrc with ⟨hrc, -⟩ | hrc <;> simp [hrc]
  have hphase : (s.line i).link.phase = .linked ∨ (s.line i).link.phase = .draining :=
    h.elim .inr (fun h => .inl h.1)
  rw [hangUpData_eq _ hfar hphase hnot]
  split_ifs with hd
  · rfl
  obtain ⟨hdrain, hn1⟩ : (s.line i).link.phase ≠ .draining ∧ n = 1 := by
    constructor
    · exact fun h => hd (.inl h)
    · simpa using fun h => hd (.inr h)
  obtain ⟨hsend, hempty⟩ := ((h.resolve_left hdrain).2).resolve_left (by omega)
  obtain ⟨fs, r, hline⟩ := abandonRate_link s.now (s.line i)
  have hdone : (s.line i).linkEnded s.now = ((s.line i).abandonRate s.now).sendEnd s.now := rfl
  have hbusy : ((s.line i).linkEnded s.now).link.txNow = some .fin := by rw [linkEnded_eq s.now hrc htx hend hsteady]
  rw [State.pump, checkDrain_ends]
  · rw [modLine_modLine, modLine_modLine]
    refine modLine_congr s i ?_
    dsimp only [modLine_now]
    rw [endDrain_startDrain _ (abandonRate_rc _ (hrc.imp_left And.left)), ← hdone, kick_busy _ hbusy]
  · simp [Line.startDrain]
  · simp [Line.startDrain, hline, hfar]
  · simp [Line.startDrain, hline, hsteady]
  · simp [Line.startDrain, hline, hsend]
  · exact hempty

/-- A link with something left to send drains it first, behind the frame being sent (R113). -/
theorem hangUpData_drains {f : LinkFrame} (hfar : (s.line i).link.farEnd = none)
    (hphase : (s.line i).link.phase = .linked) (hrc : (s.line i).quality.rc = .steady)
    (h : (s.line i).link.sendQueue ≠ [] ∨ s.txEmpty i = false) (htx : (s.line i).link.txNow = some f) :
    s.hangUpData i true = s.modLine i (Line.startDrain s.now) := by
  have hidle : (s.line i).abandonRate s.now = s.line i := abandonRate_idle _ (by simp [hrc])
  rw [hangUpData_eq _ hfar (.inl hphase) (by simp [hrc]), if_neg (by simp [hphase]), State.pump, checkDrain_waits]
  · rw [modLine_modLine]
    refine modLine_congr s i ?_
    dsimp only [modLine_now]
    rw [hidle, kick_busy (f := f)]
    exact htx
  · rw [line_modLine_same, hidle]
    exact h

/-! ## A fax call (R136) -/

theorem hangUpFax_closing (hrole : (s.line i).fax.role = some .sender) (h : (s.line i).fax.phase = .close) :
    s.hangUpFax i = s := by
  simp [State.hangUpFax, State.endFax, hrole, Line.half, h]

theorem half_of_role {l : Line} {r : FaxRole} (h : l.fax.role = some r) : l.half r = some l.fax := by
  cases r <;> simp [Line.half, Line.receiver?, h]

theorem isEcho_of_role {l : Line} {r : FaxRole} (h : l.fax.role = some r) : l.isEcho r = false := by
  cases r <;> simp [Line.isEcho, h]

theorem modHalf_of_role {l : Line} {r : FaxRole} (f : Fax → Fax) (h : l.fax.role = some r) :
    l.modHalf r f = { l with fax := f l.fax } := by
  cases r <;> simp [Line.modHalf, Line.modReceiver, h]

theorem hangUpFax_release (hrole : (s.line i).fax.role.isSome = true) (hphase : (s.line i).fax.phase ≠ .close)
    (hterms : (s.line i).fax.terms = none) : s.hangUpFax i = s.release i .locally := by
  obtain ⟨r, hr⟩ := Option.isSome_iff_exists.1 hrole
  simp [State.hangUpFax, State.endFax, hr, half_of_role hr, isEcho_of_role hr, hphase, hterms]

/-- A fax line that closes its call by END. -/
def Line.closeFax (l : Line) : Line := { l with
  tone.gen := none, stage := if l.fax.role = some .sender then .idle else l.stage
  fax := { l.fax with
    phase := .close, closing := some .locally, sent := some .fin, awaited := none, recvWait := none, fill := none
    toneEnd := none, lockWait := none, checking := false } }

theorem hangUpFax_close (hrole : (s.line i).fax.role.isSome = true) (hphase : (s.line i).fax.phase ≠ .close)
    (hterms : (s.line i).fax.terms.isSome = true) : s.hangUpFax i = s.modLine i Line.closeFax := by
  obtain ⟨r, hr⟩ := Option.isSome_iff_exists.1 hrole
  simp only [State.hangUpFax, State.endFax, hr, half_of_role hr, hphase, hterms, if_true, if_false, State.modFax,
    modLine_modLine]
  refine modLine_congr s i ?_
  rw [modHalf_of_role _ hr]
  cases r <;> simp [Line.halfToneOff, Line.halfStageOff, Line.isEcho, Fax.close, Line.closeFax, hr]

/-! ## The obligation -/

/-- Settles O12: the dial by `takeDial_seize`, a release by `release_line`, `release_around` and `inHand_release`, the END
of a link by `hangUpData_ends`, the close of a fax by `hangUpFax_close`. -/
theorem dialAndHangUp : Obligations.DialAndHangUp := by
  unfold Obligations.DialAndHangUp
  refine ⟨fun s i d a es hs hl ha hst hes hdoc htone hready => ?_, fun s i d n hs hl ha hn hst => ?_,
    fun s i d n hs hl ha hst => ?_, fun s i d n hs hl ha hn hrow hfar hrc htx hend hsteady h => ?_,
    fun s i d n f hs hl ha hn hrow hfar hphase hrc hdrain hleft htx => ?_, fun s i d n hs hl ha hn h => ?_,
    fun s i d n hs hl ha hn h => ?_, fun s i d n hs hl ha hn hrow hrole hphase hterms => ?_,
    fun s i d n hs hl ha hn hst => ?_⟩
  · have hspec := takeDial_seize (s := s.inHand 0x15 d) (i := i) (a := a) (es := es) hdoc
    have hrun := runDial_idle (s := s.inHand 0x15 d) hl ha hst hes hdoc htone hready
    have hstore : (((s.inHand 0x15 d).takeDial i a es).seize i).store = s.store := (congrArg State.store hspec.1 :)
    generalize ((s.inHand 0x15 d).takeDial i a es).seize i = t at *
    obtain ⟨hfr, hstate, hrelay, hjob, hdir, hdl, hpos, hcall, hhook, hwait⟩ := hspec
    refine directive_apart hs hrun hfr rfl ?_
    simp only [handDone_line]
    exact ⟨handDone_eq_of_apart hs hfr, hstate, hrelay, hjob, hdir, hdl, hpos, hcall, hhook, hwait,
      handDone_othersSame_apart hfr, hstore⟩
  · have hnot : (s.line i).state ≠ .loopback := by rcases hst with h | h | h | h | h <;> simp [h]
    have hrun := runHangUp_release (s := s.inHand 0x16 d) hl ha hn hst
    have hfr := release_around (s.inHand 0x16 d) i .locally
    have hdram : (s.line i).stage.isWriting = false → ((s.inHand 0x16 d).release i .locally).dram = s.dram :=
      fun hw => release_dram (s := s.inHand 0x16 d) (.inr hw)
    obtain ⟨hstate, hrelay, hguard, hjob, -, hcall, -⟩ := release_line (s := s.inHand 0x16 d) .locally hnot
    generalize (s.inHand 0x16 d).release i .locally = t at *
    refine directive_around hs hrun hfr rfl ?_
    simp only [handDone_line]
    exact ⟨handDone_eq_of_outside hs (around_outside hfr), hstate, hrelay, hcall, hjob, hguard,
      profile_of_around hfr i, hdram⟩
  · refine congrArg _ (directive_refused hs (runHangUp_refused hl ha ?_) rfl)
    rcases hst with h | h | h | h <;> simp [Line.canHangUp, h]
  · have hrun := runHangUp_data (s := s.inHand 0x16 d) hl ha hn hrow
    rw [hangUpData_ends (s := s.inHand 0x16 d) n hfar hrc htx hend hsteady h hn] at hrun
    refine ⟨s.modLine i (Line.linkEnded s.now), congrArg Host.Outcome.next
      (directive_exact (t := s.modLine i (Line.linkEnded s.now)) hs hrun hs.1 rfl), rfl, rfl, ?_,
      fun j hj => line_modLine_ne s i j _ hj⟩
    rw [line_modLine_same]
    exact linkEnded_eq s.now hrc htx hend hsteady
  · have hrun := runHangUp_data (s := s.inHand 0x16 d) hl ha hn hrow
    subst hdrain
    rw [show (1 == 1) = true from rfl, hangUpData_drains (s := s.inHand 0x16 d) hfar hphase hrc hleft htx] at hrun
    exact congrArg Host.Outcome.next (directive_exact (t := s.modLine i (Line.startDrain s.now)) hs hrun hs.1 rfl)
  · refine congrArg _ (directive_exact (t := s) hs ?_ hs.1 rfl)
    rcases h with ⟨hrow, h⟩ | ⟨hrow, hphase, hrole⟩
    · rw [runHangUp_data (s := s.inHand 0x16 d) hl ha hn hrow, hangUpData_ending (s := s.inHand 0x16 d) _ h]
    · rw [runHangUp_fax (s := s.inHand 0x16 d) hl ha hn hrow, hangUpFax_closing (s := s.inHand 0x16 d) hrole hphase]
  · have hdec : (s.release i .locally).decoder = {} :=
      (congrArg State.decoder (around_outside (release_around s i .locally)) :).trans hs.1
    refine congrArg _ (directive_exact hs ?_ hdec rfl)
    rw [← inHand_release]
    rcases h with ⟨hrow, hfar, hclosing, h⟩ | ⟨hrow, hrole, hphase, hterms⟩
    · rw [runHangUp_data (s := s.inHand 0x16 d) hl ha hn hrow,
        hangUpData_release (s := s.inHand 0x16 d) _ hfar hclosing h]
    · rw [runHangUp_fax (s := s.inHand 0x16 d) hl ha hn hrow,
        hangUpFax_release (s := s.inHand 0x16 d) hrole hphase hterms]
  · have hrun := runHangUp_fax (s := s.inHand 0x16 d) hl ha hn hrow
    rw [hangUpFax_close (s := s.inHand 0x16 d) hrole hphase hterms] at hrun
    exact congrArg Host.Outcome.next (directive_exact (t := s.modLine i Line.closeFax) hs hrun hs.1 rfl)
  · refine congrArg _ (directive_refused hs (runHangUp_bad hl ha ?_ hn) rfl)
    simp only [List.mem_cons, List.not_mem_nil, or_false] at hst
    rcases hst with h | h | h | h | h | h | h <;> simp [Line.canHangUp, h]

end Sys2Proof.Machine
end

section
/-! SUPPORT. The line profile (R5): its fields by identifier, what a pair of SET_PROFILE does to them, and the pairs applied
in order. -/

namespace Sys2Proof.Machine

/-! ## The fields of a profile -/

/-- The values of a profile in the order of R5. -/
def Profile.fields (p : Profile) : List Nat :=
  [match p.dialMethod with | .tone => 0 | .pulse => 1, p.toneOnMs, p.toneOffMs, p.pulseBreakMs, p.pulseMakeMs,
    p.pulseInterdigitMs, p.flashMs, p.dialToneWaitMs, p.blindDial.toNat, p.answerWaitS, p.ringQualifyMs, p.ringGapMs,
    p.ringAbandonMs, p.cidWaitMs, p.cidSetsClock.toNat, p.answerEnable.toNat, p.defaultRings,
    p.defaultMask.data.toNat + 2 * p.defaultMask.fax.toNat + 4 * p.defaultMask.voice.toNat, p.defaultMailbox,
    p.classifyMs, p.speechMarginDb, p.silenceMarginDb, p.loopDropMs, p.carrierLossMs, p.dataFloor, p.dataStart,
    p.dataCeiling, p.faxFloor, p.faxCeiling, p.windowMax, p.resendMs, p.retryLimit, p.pauseLimitS, p.impulsePenalty,
    p.fbPersist, p.ffPersist, p.dropPersist, p.errLimit, p.blockCorrection.toNat, p.goodPct, p.acceptPct, p.runLimit,
    match p.faxTo with | .host => 0 | .store => 1, p.voiceBits, p.silenceEndS, p.maxRecordS, p.minRecordMs,
    p.faxWatchS, p.bargeIn.toNat, p.voiceHold.toNat, p.recordToneMs, p.noticeMask.toNat]

variable {p q : Profile} {id v : Nat}

theorem field_eq (p : Profile) (id : Nat) : p.field id = p.fields.getD id 0 := rfl

/-- A profile with one field set differs from the other in that field alone. -/
theorem field_of_set (h : q.fields = p.fields.set id v) (hid : id < 52) :
    q.field id = v ∧ ∀ j, j ≠ id → q.field j = p.field j := by
  have hlen : p.fields.length = 52 := rfl
  constructor
  · rw [field_eq, h]
    simp [hlen, hid]
  · intro j hj
    rw [field_eq, field_eq, h]
    simp [List.getD_eq_getElem?_getD, List.getElem?_set_ne hj.symm]

theorem setNum_fields (h : (fieldRange id).isSome = true) : (p.setNum id v).fields = p.fields.set id v := by
  unfold fieldRange at h
  split at h
  any_goals rfl
  cases h

theorem fieldRange_lt (h : (fieldRange id).isSome = true) : id < 52 := by
  by_contra hid
  have hnone : fieldRange id = none := by
    unfold fieldRange
    split
    any_goals omega
    rfl
  simp [hnone] at h

/-- The value is one of those named for the field (R5). -/
def isNamed (id v : Nat) : Prop :=
  (id ∈ [0, 8, 14, 15, 38, 42, 48, 49] ∧ v ≤ 1) ∨ (id = 17 ∧ 1 ≤ v ∧ v ≤ 7) ∨ (id = 43 ∧ 2 ≤ v ∧ v ≤ 4) ∨
    (id = 51 ∧ v < 262144)

theorem isNamed_range (h : isNamed id v) : fieldRange id = none ∧ id < 52 := by
  rcases h with ⟨hid, -⟩ | ⟨rfl, -⟩ | ⟨rfl, -⟩ | ⟨rfl, -⟩
  · simp only [List.mem_cons, List.not_mem_nil, or_false] at hid
    rcases hid with rfl | rfl | rfl | rfl | rfl | rfl | rfl | rfl <;> decide
  all_goals decide

theorem setNamed_fields (h : isNamed id v) : ∃ r, p.setNamed id v = some r ∧ r.fields = p.fields.set id v := by
  rcases h with ⟨hid, hv⟩ | ⟨rfl, h1, h7⟩ | ⟨rfl, h2, h4⟩ | ⟨rfl, hv⟩
  · simp only [List.mem_cons, List.not_mem_nil, or_false] at hid
    rcases hid with rfl | rfl | rfl | rfl | rfl | rfl | rfl | rfl <;> interval_cases v <;> exact ⟨_, rfl, rfl⟩
  · interval_cases v <;> exact ⟨_, rfl, rfl⟩
  · interval_cases v <;> exact ⟨_, rfl, rfl⟩
  · refine ⟨_, if_pos hv, ?_⟩
    have hmask : (BitVec.ofNat 18 v).toNat = v := by simpa using hv
    simp [Profile.fields, hmask]

theorem bool_none (h : 1 < v) : bool? v = none := by
  obtain ⟨m, rfl⟩ := Nat.exists_eq_add_of_le' (Nat.succ_le_of_lt h)
  rfl

theorem setNamed_none (h : ¬ isNamed id v) : p.setNamed id v = none := by
  simp only [isNamed, not_or, not_and, List.mem_cons, List.not_mem_nil, or_false] at h
  obtain ⟨hbit, hmask, hbits, hnotice⟩ := h
  unfold Profile.setNamed
  split
  case h_1 => rw [if_neg (by have := hbit (by simp); omega), if_neg (by have := hbit (by simp); omega)]
  case h_5 =>
    have hm : mask? v = none := by
      unfold mask? jobSet?
      split_ifs with h0 h8
      · rfl
      · exact absurd (hmask rfl (Nat.pos_of_ne_zero h0)) (by omega)
      · rfl
    rw [hm]
    rfl
  case h_7 => rw [if_neg (by have := hbit (by simp); omega), if_neg (by have := hbit (by simp); omega)]
  case h_8 =>
    rw [within, if_neg (fun h => hbits rfl h.1 h.2)]
    rfl
  case h_11 => exact if_neg (hnotice rfl)
  case h_12 => rfl
  all_goals rw [bool_none (by have := hbit (by simp); omega)]; rfl

/-! ## The pairs in order -/

theorem apply_append (xs ys : List (Nat × Nat)) : ∀ (p : Profile) (c : List Nat),
    p.apply c (xs ++ ys) = (p.apply c xs).bind (fun r => r.1.apply r.2 ys) := by
  induction xs with
  | nil => exact fun p c => rfl
  | cons x xs ih =>
    intro p c
    rw [List.cons_append, Profile.apply, Profile.apply]
    split
    · exact ih _ _
    · split
      · exact ih _ _
      · rfl

theorem apply_range {c : List Nat} {lo hi : Nat} (h : fieldRange id = some (lo, hi)) : p.apply c [(id, v)] =
    some (p.setNum id (max lo (min hi v)), if max lo (min hi v) = v ∨ id ∈ c then c else c ++ [id]) := by
  simp [Profile.apply, h, clampTo]

theorem apply_named {c : List Nat} (h : fieldRange id = none) :
    p.apply c [(id, v)] = (p.setNamed id v).map (fun r => (r, c)) := by
  rw [Profile.apply, h]
  dsimp only
  cases p.setNamed id v <;> rfl

/-! ## SET_PROFILE -/

variable {s : State} {i : LineId} {d : Directive} {pairs : List (Nat × Nat)}

theorem newProfile_some {c : List Nat} (h : (s.line i).profile.apply [] pairs = some (p, c)) (hc : p.consistent = true) :
    s.newProfile pairs i = some (p, c) := by
  simp [State.newProfile, h, hc]

theorem newProfile_none (h : ∀ q ∈ (s.line i).profile.apply [] pairs, q.1.consistent = false) :
    s.newProfile pairs i = none := by
  unfold State.newProfile
  split
  · rename_i p c hp
    rw [if_neg]
    simp [h (p, c) hp]
  · rfl

theorem consistent_iff (p : Profile) : p.consistent = true ↔
    p.dataFloor ≤ p.dataStart ∧ p.dataStart ≤ p.dataCeiling ∧ p.faxFloor ≤ p.faxCeiling := by
  simp only [Profile.consistent, Bool.and_eq_true, decide_eq_true_eq]
  omega

/-- The list of fields clamped, as its reply carries it. -/
theorem encList_bytes (c : List Nat) : encList (fun n => [byte n]) c = byte c.length :: c.map (fun k => byte k) := by
  rw [encList, List.map_eq_flatMap]

/-- The reply to a SET_PROFILE that is taken, with the fields it clamped. -/
def profileStatus (c : List Nat) : Status := if c = [] then .ok else .clamped

def profileResults (c : List Nat) : List Byte := if c = [] then [] else byte c.length :: c.map (fun k => byte k)

theorem profileStatus_resets (c : List Nat) : resets 0x13 (profileStatus c) = false := by
  unfold profileStatus
  split <;> rfl

/-- What a SET_PROFILE does with its pairs on the lines it names. -/
def State.takeProfiles (pairs : List (Nat × Nat)) (ls : List LineId) (s : State) : Answer :=
  if ls.all (fun i => (s.newProfile pairs i).isSome) then
    let clamped := (ls.head?.bind (s.newProfile pairs)).elim [] Prod.snd
    (ls.foldl (State.setProfileOf pairs) s).answer (if clamped.isEmpty then .ok else .clamped)
      (if clamped.isEmpty then [] else encList (fun n => [byte n]) clamped)
  else s.refuse .refusedArg

theorem runSetProfile_one (hl : lineOf? d.line = some i) (ha : argProfile.read d.args = .good pairs) :
    runSetProfile d s = s.takeProfiles pairs [i] := onLines_one hl ha

theorem runSetProfile_all (hl : d.line = 0x0F) (ha : argProfile.read d.args = .good pairs) :
    runSetProfile d s = s.takeProfiles pairs allLines := onLines_all hl ha

theorem takeProfiles_taken {ls : List LineId} {c : List Nat} (hi : ls.head? = some i)
    (h : ∀ j ∈ ls, (s.newProfile pairs j).isSome = true) (hc : s.newProfile pairs i = some (p, c)) :
    s.takeProfiles pairs ls = ⟨profileStatus c, profileResults c, ls.foldl (State.setProfileOf pairs) s⟩ := by
  unfold State.takeProfiles
  rw [if_pos (List.all_eq_true.2 h), hi]
  simp only [Option.bind_some, hc, Option.elim_some, List.isEmpty_iff, encList_bytes]
  rfl

theorem takeProfiles_refused {ls : List LineId} (hi : i ∈ ls) (h : s.newProfile pairs i = none) :
    s.takeProfiles pairs ls = s.refuse .refusedArg := by
  refine if_neg fun hall => ?_
  simpa [h] using List.all_eq_true.1 hall i hi

theorem setProfileOf_taken {c : List Nat} (h : s.newProfile pairs i = some (p, c)) :
    State.setProfileOf pairs s i = s.modLine i (fun l => { l with profile := p }) := by
  simp [State.setProfileOf, h]

theorem setProfileOf_other {j : LineId} (h : i ≠ j) : (State.setProfileOf pairs s j).line i = s.line i := by
  unfold State.setProfileOf
  split
  · rw [line_modLine_ne _ _ _ _ h]
  · rfl

/-- The part but for its lines. -/
def State.beside (s : State) : State := { s with lines := Vector.replicate 4 {} }

theorem eq_of_beside {t : State} (h : t.beside = s.beside) : t = { s with lines := t.lines } :=
  congrArg (fun o : State => { o with lines := t.lines }) h

theorem setProfileOf_beside (j : LineId) : (State.setProfileOf pairs s j).beside = s.beside := by
  unfold State.setProfileOf
  split <;> rfl

/-- Every line takes its profile, each by its own. -/
theorem setProfiles_all : let t := allLines.foldl (State.setProfileOf pairs) s
    t.beside = s.beside ∧
    ∀ i p c, s.newProfile pairs i = some (p, c) → t.line i = { s.line i with profile := p } := by
  refine ⟨foldl_keeps State.beside (fun j _ t => setProfileOf_beside j) s, fun i p c h => ?_⟩
  obtain ⟨as, bs, has, hbs, hsplit⟩ := foldl_allLines (State.setProfileOf pairs) s i
  have hkeep : ∀ ls : List LineId, i ∉ ls → ∀ t : State, (ls.foldl (State.setProfileOf pairs) t).line i = t.line i :=
    fun ls hls t => foldl_keeps (fun t => t.line i) (fun j hj t => setProfileOf_other fun h => hls (h ▸ hj)) t
  set t := as.foldl (State.setProfileOf pairs) s with ht
  have hline : t.line i = s.line i := hkeep as has s
  have hnew : t.newProfile pairs i = some (p, c) := by rw [← h]; simp only [State.newProfile, hline]
  dsimp only
  rw [hsplit, hkeep bs hbs, setProfileOf_taken hnew, line_modLine_same, hline]

/-! ## LOAD_RING_PATTERNS (R11) -/

theorem any_lines (p : LineId → Prop) [DecidablePred p] : allLines.any (fun i => decide (p i)) = true ↔ ∃ i, p i := by
  simp only [List.any_eq_true, decide_eq_true_eq]
  exact ⟨fun ⟨i, _, h⟩ => ⟨i, h⟩, fun ⟨i, h⟩ => ⟨i, mem_allLines i, h⟩⟩

theorem patternLegal_iff (p : List (Ms × Ms)) : patternLegal p = true ↔
    1 ≤ p.length ∧ p.length ≤ 3 ∧ ∀ b ∈ p, b.1 ≤ b.2 ∧ b.2 ≤ 10000 := by
  simp only [patternLegal, Bool.and_eq_true, decide_eq_true_eq, List.all_eq_true, and_assoc]

theorem runLoadRingPatterns_eq {ps : List (List (Ms × Ms))} (hl : d.line = 0x0E)
    (ha : argPatterns.read d.args = .good ps) : runLoadRingPatterns d s =
      if allLines.any (fun i => decide ((s.line i).state = .alerting)) then s.refuse .refusedBusy
      else if 4 < ps.length ∨ ps.all patternLegal = false then s.refuse .refusedTable
      else ({ s with patterns := ps } : State).answer .ok [] := onPart_good hl ha

theorem loadRingPatterns_reply {ps : List (List (Ms × Ms))} (hs : s.takes) (hl : d.line = 0x0E)
    (ha : argPatterns.read d.args = .good ps) [Decidable (∃ i, (s.line i).state = .alerting)] :
    exec (.loadRingPatterns d) s = .next (
      if ∃ i, (s.line i).state = .alerting then s.reply ⟨0x14, d.tag, .refusedBusy, []⟩
      else if 4 < ps.length ∨ ps.all patternLegal = false then s.reply ⟨0x14, d.tag, .refusedTable, []⟩
      else ({ s with patterns := ps } : State).reply ⟨0x14, d.tag, .ok, []⟩) := by
  have hrun := runLoadRingPatterns_eq (s := s.inHand 0x14 d) hl ha
  have hbusy := any_lines (fun i => ((s.inHand 0x14 d).line i).state = .alerting)
  refine congrArg Host.Outcome.next ?_
  by_cases hb : ∃ i, (s.line i).state = .alerting
  · rw [if_pos hb]
    rw [if_pos (hbusy.2 hb)] at hrun
    exact directive_refused hs hrun rfl
  · rw [if_neg hb]
    rw [if_neg (mt hbusy.1 hb)] at hrun
    by_cases ht : 4 < ps.length ∨ ps.all patternLegal = false
    · rw [if_pos ht]
      rw [if_pos ht] at hrun
      exact directive_refused hs hrun rfl
    · rw [if_neg ht]
      rw [if_neg ht] at hrun
      exact directive_exact (t := { s with patterns := ps }) hs hrun hs.1 rfl

/-! ## LOAD_TONES (R24) -/

theorem noRepeat_iff : ∀ ns : List Nat, noRepeat ns = true ↔ ns.Nodup
  | [] => by simp [noRepeat]
  | n :: ns => by simp [noRepeat, noRepeat_iff ns]

theorem allSome_iff {α : Type} : ∀ (xs : List (Option α)) (ys : List α), allSome xs = some ys ↔ xs = ys.map some
  | [], ys => by cases ys <;> simp [allSome]
  | none :: xs, ys => by cases ys <;> simp [allSome]
  | some x :: xs, [] => by simp [allSome]
  | some x :: xs, y :: ys => by simp [allSome, allSome_iff xs ys, and_comm]

theorem toneTable_iff (as : List ToneArgs) (es : List ToneEntry) : toneTable? as = some es ↔
    as.length ≤ 16 ∧ (as.map ToneArgs.id).Nodup ∧ as.map ToneArgs.entry = es.map some := by
  unfold toneTable?
  rw [← noRepeat_iff, ← allSome_iff]
  split_ifs with h
  · simp only [false_iff, Config.tonesMax] at h ⊢
    rintro ⟨hlen, hrep, -⟩
    simp [hrep] at h
    omega
  · simp only [not_or, Nat.not_lt, Bool.not_eq_false] at h
    exact ⟨fun he => ⟨h.1, h.2, he⟩, fun he => he.2.2⟩

theorem segmentLegal_iff (g : Segment) : segmentLegal g = true ↔
    g.onMin ≤ g.onMax ∧ g.onMax ≤ 10000 ∧ g.offMin ≤ g.offMax ∧ g.offMax ≤ 10000 := by
  simp only [segmentLegal, Bool.and_eq_true, decide_eq_true_eq]
  tauto

theorem frequencyLegal_iff (f : Nat) : frequencyLegal f = true ↔ 300 ≤ f ∧ f ≤ 3400 := by
  simp [frequencyLegal]

/-- A continuous entry, among entries whose segments are legal, needs no check of its off-min. -/
theorem continuousLegal_iff {a : ToneArgs} (h : a.cadence.all segmentLegal = true) : a.continuousLegal = true ↔
    ((∃ g ∈ a.cadence, g.offMax = 0) → a.cadence.length = 1 ∧ a.confirm = 1) := by
  unfold ToneArgs.continuousLegal
  by_cases hc : ∃ g ∈ a.cadence, g.offMax = 0
  · rw [if_pos (by simpa using hc)]
    simp only [Bool.and_eq_true, decide_eq_true_eq, hc, true_imp_iff]
    refine ⟨fun hp => ⟨hp.1.1, hp.2⟩, fun hp => ⟨⟨hp.1, ?_⟩, hp.2⟩⟩
    obtain ⟨g, hg⟩ := List.length_eq_one_iff.1 hp.1
    obtain ⟨g', hg', hoff⟩ := hc
    rw [hg] at h hg' ⊢
    obtain rfl := List.mem_singleton.1 hg'
    have hle := ((segmentLegal_iff g').1 (by simpa using h)).2.2.1
    simpa using Nat.le_zero.1 (hoff ▸ hle)
  · rw [if_neg (by simpa using hc)]
    simp [hc]

/-- A tone entry may be loaded (R23, R24). -/
theorem toneLegal_iff (a : ToneArgs) :
    (a.id ≤ 15 ∧ frequencyLegal a.f1 ∧ a.f2.all frequencyLegal ∧ -45 ≤ a.level ∧ a.level ≤ -10 ∧
      1 ≤ a.cadence.length ∧ a.cadence.length ≤ 4 ∧ a.cadence.all segmentLegal ∧ a.continuousLegal ∧
      1 ≤ a.confirm ∧ a.confirm ≤ 4) ↔
    (a.id ≤ 15 ∧ 300 ≤ a.f1 ∧ a.f1 ≤ 3400 ∧ (∀ f ∈ a.f2, 300 ≤ f ∧ f ≤ 3400) ∧ -45 ≤ a.level ∧ a.level ≤ -10 ∧
      1 ≤ a.cadence.length ∧ a.cadence.length ≤ 4 ∧
      (∀ g ∈ a.cadence, g.onMin ≤ g.onMax ∧ g.onMax ≤ 10000 ∧ g.offMin ≤ g.offMax ∧ g.offMax ≤ 10000) ∧
      ((∃ g ∈ a.cadence, g.offMax = 0) → a.cadence.length = 1 ∧ a.confirm = 1) ∧ 1 ≤ a.confirm ∧ a.confirm ≤ 4) := by
  have hf2 : a.f2.all frequencyLegal = true ↔ ∀ f ∈ a.f2, 300 ≤ f ∧ f ≤ 3400 := by
    cases a.f2 <;> simp [frequencyLegal_iff]
  have hseg : a.cadence.all segmentLegal = true ↔
      ∀ g ∈ a.cadence, g.onMin ≤ g.onMax ∧ g.onMax ≤ 10000 ∧ g.offMin ≤ g.offMax ∧ g.offMax ≤ 10000 := by
    simp only [List.all_eq_true, segmentLegal_iff]
  rw [frequencyLegal_iff, hf2]
  constructor
  · rintro ⟨hid, ⟨hlo, hhi⟩, h2, hlev, hlev', hlen, hlen', hs, hc, hconf⟩
    exact ⟨hid, hlo, hhi, h2, hlev, hlev', hlen, hlen', hseg.1 hs, (continuousLegal_iff hs).1 hc, hconf⟩
  · rintro ⟨hid, hlo, hhi, h2, hlev, hlev', hlen, hlen', hs, hc, hconf⟩
    exact ⟨hid, ⟨hlo, hhi⟩, h2, hlev, hlev', hlen, hlen', hseg.2 hs, (continuousLegal_iff (hseg.2 hs)).2 hc, hconf⟩

theorem toneEntry_iff (a : ToneArgs) (e : ToneEntry) : a.entry = some e ↔
    toneClass? a.cls = some e.cls ∧ e = ⟨a.id, e.cls, a.f1, a.f2, a.level, a.cadence, a.confirm⟩ ∧
    a.id ≤ 15 ∧ 300 ≤ a.f1 ∧ a.f1 ≤ 3400 ∧ (∀ f ∈ a.f2, 300 ≤ f ∧ f ≤ 3400) ∧ -45 ≤ a.level ∧ a.level ≤ -10 ∧
    1 ≤ a.cadence.length ∧ a.cadence.length ≤ 4 ∧
    (∀ g ∈ a.cadence, g.onMin ≤ g.onMax ∧ g.onMax ≤ 10000 ∧ g.offMin ≤ g.offMax ∧ g.offMax ≤ 10000) ∧
    ((∃ g ∈ a.cadence, g.offMax = 0) → a.cadence.length = 1 ∧ a.confirm = 1) ∧ 1 ≤ a.confirm ∧ a.confirm ≤ 4 := by
  rw [← toneLegal_iff]
  unfold ToneArgs.entry
  cases toneClass? a.cls with
  | none => simp
  | some c =>
    dsimp only
    split_ifs with hlegal
    · refine ⟨?_, ?_⟩
      · rintro ⟨⟩
        exact ⟨rfl, rfl, hlegal⟩
      · rintro ⟨hc, he, -⟩
        rw [he, Option.some.inj hc]
    · exact ⟨(fun h => nomatch h), fun h => absurd h.2.2 hlegal⟩

theorem runLoadTones_eq {as : List ToneArgs} (hl : d.line = 0x0E) (ha : argTone.list.read d.args = .good as) :
    runLoadTones d s = match toneTable? as with
      | some t => (s.loadTones t).answer .ok []
      | none => s.refuse .refusedTable := onPart_good hl ha

theorem loadTones_line (es : List ToneEntry) (i : LineId) : (s.loadTones es).line i = { s.line i with
    tone := { (s.line i).tone with
      matchers := if (s.line i).row.matching then es.map (fun e => ⟨e.id, false, .waiting, 0, 0, 0⟩) else [] } } := by
  simp only [State.loadTones, State.line, Fin.getElem_fin, Vector.getElem_map]
  rfl

/-! ## LOAD_LADDER (R79) -/

/-- A step is in range, with D below U (R78). -/
theorem ladderLegal_cons (a : LadderStep) (st : List LadderStep) : ladderLegal (a :: st) = true ↔
    (300 ≤ a.rate ∧ a.rate ≤ 33600 ∧ a.d < a.u ∧ a.u ≤ 160) ∧
    (∀ b, st[0]? = some b → a.rate < b.rate ∧ a.d ≤ b.d ∧ a.u ≤ b.u) ∧ ladderLegal st = true := by
  cases st <;> simp [ladderLegal] <;> tauto

theorem ladderLegal_iff : ∀ st : List LadderStep, ladderLegal st = true ↔
    (∀ a ∈ st, 300 ≤ a.rate ∧ a.rate ≤ 33600 ∧ a.d < a.u ∧ a.u ≤ 160) ∧
    ∀ n a b, st[n]? = some a → st[n + 1]? = some b → a.rate < b.rate ∧ a.d ≤ b.d ∧ a.u ≤ b.u
  | [] => by simp [ladderLegal]
  | x :: st => by
    rw [ladderLegal_cons, ladderLegal_iff st]
    constructor
    · rintro ⟨hx, hnext, hst, hpairs⟩
      refine ⟨List.forall_mem_cons.2 ⟨hx, hst⟩, fun n a b ha hb => ?_⟩
      cases n with
      | zero =>
        obtain rfl : x = a := by simpa using ha
        exact hnext b (by simpa using hb)
      | succ n => exact hpairs n a b (by simpa using ha) (by simpa using hb)
    · rintro ⟨hall, hpairs⟩
      obtain ⟨hx, hst⟩ := List.forall_mem_cons.1 hall
      exact ⟨hx, fun b hb => hpairs 0 x b rfl (by simpa using hb), hst,
        fun n a b ha hb => hpairs (n + 1) a b (by simpa using ha) (by simpa using hb)⟩

/-- The job that uses a ladder. -/
def ladderJob (fax : Bool) : Job := if fax then .fax else .data

theorem runLoadLadder_eq {fax : Bool} {steps : List LadderStep} (hl : d.line = 0x0E)
    (ha : argLadder.read d.args = .good (fax, steps)) : runLoadLadder d s =
      if allLines.any (fun i => decide ((s.line i).job = ladderJob fax)) then s.refuse .refusedBusy
      else if (if fax then 6 else 8) < steps.length ∨ ladderLegal steps = false then s.refuse .refusedTable
      else (if fax then { s with faxLadder := steps } else { s with dataLadder := steps } : State).answer .ok [] :=
  onPart_good hl ha

/-! ## The obligation -/

/-- A SET_PROFILE on one line (R5). -/
theorem setProfile_one {c : List Nat} (hs : s.takes) (hl : lineOf? d.line = some i)
    (ha : argProfile.read d.args = .good pairs) (hp : s.newProfile pairs i = some (p, c)) : exec (.setProfile d) s =
      .next ((s.modLine i (fun l => { l with profile := p })).reply
        ⟨0x13, d.tag, profileStatus c, profileResults c⟩) := by
  have hrun : runSetProfile d (s.inHand 0x13 d) = ⟨profileStatus c, profileResults c,
      (s.modLine i (fun l => { l with profile := p })).inHand 0x13 d⟩ := by
    rw [runSetProfile_one hl ha, takeProfiles_taken (s := s.inHand 0x13 d) (i := i) rfl _ hp]
    · rw [List.foldl_cons, List.foldl_nil, setProfileOf_taken (s := s.inHand 0x13 d) hp]
      rfl
    · intro j hj
      rw [List.mem_singleton.1 hj]
      exact Option.isSome_iff_exists.2 ⟨_, hp⟩
  exact congrArg Host.Outcome.next (directive_exact (t := s.modLine i (fun l => { l with profile := p })) hs hrun hs.1
    (profileStatus_resets c))

/-- A SET_PROFILE on all lines (R5). -/
theorem setProfile_all {c : List Nat} (hs : s.takes) (hl : d.line = 0x0F)
    (ha : argProfile.read d.args = .good pairs) (hp : s.newProfile pairs 0 = some (p, c))
    (hall : ∀ i, (s.newProfile pairs i).isSome = true) :
    repliesWith (exec (.setProfile d) s) s ⟨0x13, d.tag, profileStatus c, profileResults c⟩ (fun t =>
      t = { s with lines := t.lines } ∧
      ∀ i p k, s.newProfile pairs i = some (p, k) → t.line i = { s.line i with profile := p }) := by
  have hrun : runSetProfile d (s.inHand 0x13 d) = _ := (runSetProfile_all hl ha).trans
    (takeProfiles_taken (s := s.inHand 0x13 d) (i := 0) rfl (fun j _ => hall j) hp)
  obtain ⟨hfr, hline⟩ := setProfiles_all (s := s.inHand 0x13 d) (pairs := pairs)
  generalize allLines.foldl (State.setProfileOf pairs) (s.inHand 0x13 d) = t at *
  exact directive_repliesWith hs hrun (congrArg State.decoder hfr :) (congrArg State.replies hfr :)
    (profileStatus_resets c) ⟨handDone_eq_of_lines hs (eq_of_beside hfr), hline⟩

theorem setProfile_refused {ls : List LineId} (hs : s.takes) (hi : i ∈ ls)
    (hrun : runSetProfile d (s.inHand 0x13 d) = (s.inHand 0x13 d).takeProfiles pairs ls)
    (h : ∀ q ∈ (s.line i).profile.apply [] pairs, q.1.consistent = false) :
    exec (.setProfile d) s = .next (s.reply ⟨0x13, d.tag, .refusedArg, []⟩) :=
  congrArg Host.Outcome.next (directive_refused hs
    (hrun.trans (takeProfiles_refused (s := s.inHand 0x13 d) hi (newProfile_none h))) rfl)

theorem loadTones_reply {as : List ToneArgs} {es : List ToneEntry} (hs : s.takes) (hl : d.line = 0x0E)
    (ha : argTone.list.read d.args = .good as) (h : toneTable? as = some es) :
    exec (.loadTones d) s = .next ((s.loadTones es).reply ⟨0x20, d.tag, .ok, []⟩) := by
  have hrun := runLoadTones_eq (s := s.inHand 0x20 d) hl ha
  rw [h] at hrun
  exact congrArg Host.Outcome.next (directive_exact (t := s.loadTones es) hs hrun hs.1 rfl)

theorem loadTones_refused {as : List ToneArgs} (hs : s.takes) (hl : d.line = 0x0E)
    (ha : argTone.list.read d.args = .good as) (h : toneTable? as = none) :
    exec (.loadTones d) s = .next (s.reply ⟨0x20, d.tag, .refusedTable, []⟩) := by
  have hrun := runLoadTones_eq (s := s.inHand 0x20 d) hl ha
  rw [h] at hrun
  exact congrArg Host.Outcome.next (directive_refused hs hrun rfl)

/-- The ladders after a LOAD_LADDER. -/
def State.loadLadder (s : State) (fax : Bool) (steps : List LadderStep) : State :=
  { s with
    faxLadder := if fax then steps else s.faxLadder, dataLadder := if fax then s.dataLadder else steps }

theorem loadLadder_reply {fax : Bool} {steps : List LadderStep} (hs : s.takes) (hl : d.line = 0x0E)
    (ha : argLadder.read d.args = .good (fax, steps)) (hidle : ∀ i, (s.line i).job ≠ ladderJob fax)
    (hlen : steps.length ≤ (if fax then 6 else 8)) (hlegal : ladderLegal steps = true) :
    exec (.loadLadder d) s = .next ((s.loadLadder fax steps).reply ⟨0x40, d.tag, .ok, []⟩) := by
  have hrun := runLoadLadder_eq (s := s.inHand 0x40 d) hl ha
  have hbusy := any_lines (fun i => ((s.inHand 0x40 d).line i).job = ladderJob fax)
  rw [if_neg (fun h => by obtain ⟨i, hi⟩ := hbusy.1 h; exact hidle i hi), if_neg (by simp [hlegal, hlen])] at hrun
  refine congrArg Host.Outcome.next (directive_exact (t := s.loadLadder fax steps) hs (hrun.trans ?_) hs.1 rfl)
  cases fax <;> rfl

theorem loadLadder_refused {fax : Bool} {steps : List LadderStep} (hs : s.takes) (hl : d.line = 0x0E)
    (ha : argLadder.read d.args = .good (fax, steps)) [Decidable (∃ i, (s.line i).job = ladderJob fax)]
    (h : (∃ i, (s.line i).job = ladderJob fax) ∨ (if fax then 6 else 8) < steps.length ∨ ladderLegal steps = false) :
    exec (.loadLadder d) s = .next (s.reply ⟨0x40, d.tag,
      if ∃ i, (s.line i).job = ladderJob fax then .refusedBusy else .refusedTable, []⟩) := by
  have hrun := runLoadLadder_eq (s := s.inHand 0x40 d) hl ha
  have hbusy := any_lines (fun i => ((s.inHand 0x40 d).line i).job = ladderJob fax)
  refine congrArg Host.Outcome.next ?_
  by_cases hb : ∃ i, (s.line i).job = ladderJob fax
  · rw [if_pos (hbusy.2 hb)] at hrun
    rw [if_pos hb]
    exact directive_refused hs hrun rfl
  · rw [if_neg (mt hbusy.1 hb), if_pos (h.resolve_left hb)] at hrun
    rw [if_neg hb]
    exact directive_refused hs hrun rfl

/-- Settles O11: a pair by `field_of_set`, `setNum_fields` and `setNamed_fields`, the pairs in order by `apply_append`, and
one rule for each directive's answers. -/
theorem profileAndTablesReplaced : Obligations.ProfileAndTablesReplaced := by
  unfold Obligations.ProfileAndTablesReplaced
  refine ⟨fun s i d pairs p c hs hl ha hp h1 h2 h3 => ?_, fun s i d pairs hs hl ha h => ?_,
    fun s d ps hs hl ha hidle hlen hlegal => ?_, fun s d as es hs hl ha h => ?_,
    fun s d fax steps hs hl ha hidle hlen hlegal => ?_, by rfl, fun p => rfl,
    fun p q pairs c id v lo hi hp hr => ?_, fun p q pairs c id v hp hv => ?_, fun p pairs id v hr hv => ?_,
    fun p pairs x hp => ?_, fun s d pairs q c hs hl ha hp hall => ?_, fun s d pairs i hs hl ha h => ?_,
    fun s d as hs hl ha h => loadTones_refused hs hl ha h, toneTable_iff, toneEntry_iff,
    fun s d ps hs hl ha => loadRingPatterns_reply hs hl ha, patternLegal_iff,
    fun s d fax steps hs hl ha h => loadLadder_refused hs hl ha h, ladderLegal_iff⟩
  · exact setProfile_one hs hl ha (newProfile_some hp ((consistent_iff p).2 ⟨h1, h2, h3⟩))
  · refine setProfile_refused hs List.mem_cons_self (runSetProfile_one hl ha) fun q hq => ?_
    have := mt (consistent_iff q.1).1
    have hbad := h q hq
    simp only [Bool.not_eq_true] at this
    exact this (by omega)
  · have hreply := loadRingPatterns_reply hs hl ha
    rw [if_neg (fun ⟨i, hi⟩ => hidle i hi), if_neg (by simp [hlegal, hlen])] at hreply
    exact hreply
  · exact ⟨s.loadTones es, loadTones_reply hs hl ha h, rfl, rfl, loadTones_line es⟩
  · exact ⟨s.loadLadder fax steps, loadLadder_reply hs hl ha hidle hlen hlegal, rfl, rfl, rfl, rfl, rfl, rfl, rfl, rfl⟩
  · have hsome : (fieldRange id).isSome = true := by rw [hr]; rfl
    rw [apply_append, hp]
    exact ⟨_, apply_range hr, field_of_set (setNum_fields hsome) (fieldRange_lt hsome)⟩
  · obtain ⟨hr, hid⟩ := isNamed_range hv
    obtain ⟨r, hset, hfields⟩ := setNamed_fields (p := q) hv
    refine ⟨r, ?_, field_of_set hfields hid⟩
    rw [apply_append, hp]
    exact (apply_named hr).trans (by rw [hset]; rfl)
  · rw [apply_append]
    cases p.apply [] pairs with
    | none => rfl
    | some r => exact (apply_named hr).trans (by rw [setNamed_none hv]; rfl)
  · rw [apply_append, hp]
    rfl
  · have hnew : ∀ i p k, (s.line i).profile.apply [] pairs = some (p, k) → s.newProfile pairs i = some (p, k) :=
      fun i p k h => by
        obtain ⟨p', k', h', hc⟩ := hall i
        obtain ⟨rfl, rfl⟩ : p' = p ∧ k' = k := by simpa [h'] using h
        exact newProfile_some h' hc
    have hsome : ∀ i, (s.newProfile pairs i).isSome = true := fun i => by
      obtain ⟨p, k, h, -⟩ := hall i
      rw [hnew i p k h]
      rfl
    obtain ⟨t, ht, hrep, hfr, hline⟩ := setProfile_all hs hl ha (hnew 0 q c hp) hsome
    exact ⟨t, ht, hrep, hfr, fun i p k h => hline i p k (hnew i p k h)⟩
  · exact setProfile_refused hs (mem_allLines i) (runSetProfile_all hl ha) h

end Sys2Proof.Machine
end

section
/-! SUPPORT. What a line reset may do to the areas and to the lines it does not name: areas stay joined and only empty, and
a line without a block request waiting stands as it is (R72, R144). -/

namespace Sys2Proof.Machine

/-! ## The areas -/

/-- An area holds nothing. -/
def Area.cleared (a : Area) : Prop := a.fifo = [] ∧ a.marks = []

/-- Each area is joined as before, and holds nothing where it held nothing. -/
def State.emptier (s t : State) : Prop :=
  ∀ k, (t.area k).join = (s.area k).join ∧ ((s.area k).cleared → (t.area k).cleared)

variable {s t u : State} {i j : LineId} {k : AreaId}

theorem emptier_refl (s : State) : s.emptier s := fun _ => ⟨rfl, id⟩

theorem State.emptier.trans (h : s.emptier t) (h' : t.emptier u) : s.emptier u :=
  fun k => ⟨(h' k).1.trans (h k).1, (h' k).2 ∘ (h k).2⟩

theorem emptier_of_areas (h : t.areas = s.areas) : s.emptier t := by
  have harea : ∀ k, t.area k = s.area k := fun k => by simp only [State.area, h]
  exact fun k => by rw [harea]; exact ⟨rfl, id⟩

theorem emptier_of_without (h : t.without i = s.without i) : s.emptier t := emptier_of_areas (areas_of_without h)

theorem modArea_emptier {f : Area → Area} (hj : ∀ a, (f a).join = a.join) (hc : ∀ a, a.cleared → (f a).cleared) :
    s.emptier (s.modArea k f) := fun b => by
  by_cases hb : b = k
  · subst hb
    rw [area_modArea_same]
    exact ⟨hj _, hc _⟩
  · rw [area_modArea_ne _ _ _ _ hb]
    exact ⟨rfl, id⟩

/-- What an area emptied holds (R72). -/
theorem emptyArea_area (s : State) (k b : AreaId) : (s.emptyArea k).area b =
    if b = k then { s.area k with fifo := [], marks := [], flow := .go } else s.area b := by
  unfold State.emptyArea
  rw [setFlow_area]
  by_cases hb : b = k
  · simp [hb]
  · simp [hb]

theorem emptyArea_emptier (s : State) (k : AreaId) : s.emptier (s.emptyArea k) := fun b => by
  rw [emptyArea_area]
  by_cases hb : b = k
  · subst hb
    simp [Area.cleared]
  · simp [hb]

theorem emptyStage_emptier (s : State) (i : LineId) : s.emptier (s.emptyStage i) := by
  unfold State.emptyStage
  split
  · exact emptyArea_emptier s _
  · exact emptier_refl s

theorem refuseBlock_emptier (s : State) (i : LineId) (r : RequestKind) : s.emptier (s.refuseBlock i r) := by
  have hstage : s.emptier ((s.modLine i (fun l => { l with stage := l.stage.answered true })).emptyStage i) :=
    emptyStage_emptier (s.modLine i (fun l => { l with stage := l.stage.answered true })) i
  unfold State.refuseBlock
  dsimp only
  split
  · exact hstage
  · exact hstage

theorem allocate_areas (s : State) (id n : Nat) : (s.allocate id n).areas = s.areas := by
  unfold State.allocate
  split <;> rfl

theorem serveRequest_emptier (s : State) : s.emptier s.serveRequest := by
  rw [serveRequest_eq]
  split
  · exact emptier_refl s
  · split
    · exact emptier_of_areas (allocate_areas (s.popRequest _) _ _)
    · exact emptier_of_areas (allocate_areas (s.popRequest _) _ _)
    · exact refuseBlock_emptier (s.popRequest _) _ _
    · exact emptier_refl s

theorem serveMany_emptier : ∀ (n : Nat) (s : State), s.emptier (serveMany n s)
  | 0, s => emptier_refl s
  | n + 1, s => (serveRequest_emptier s).trans (serveMany_emptier n _)

theorem unlinkTail_areas (s : State) (id n : Nat) : (s.unlinkTail id n).areas = s.areas := by
  unfold State.unlinkTail
  split <;> rfl

theorem freeTail_emptier (s : State) (id n : Nat) : s.emptier (s.freeTail id n) :=
  (serveMany_emptier _ s).trans (emptier_of_areas (unlinkTail_areas _ _ _))

theorem closeEntry_emptier (s : State) (id : Nat) (why : EntryEnd) : s.emptier (s.closeEntry id why) := by
  unfold State.closeEntry
  split
  · exact emptier_refl s
  · split
    · exact freeTail_emptier s id 0
    · unfold State.finishEntry
      split
      · exact emptier_refl s
      · exact freeTail_emptier (s.modEntry id _) id _

theorem resetArea_emptier (s : State) (i : LineId) (k : AreaId) : s.emptier (State.resetArea i s k) := by
  unfold State.resetArea
  split
  · split
    · exact (emptyArea_emptier s k).trans (modArea_emptier (fun _ => rfl) (fun _ h => h))
    · exact emptier_refl s
  · exact emptier_refl s

theorem resetArea_cleared {p : Purpose} (h : (s.area k).join = some (i, p)) :
    ((State.resetArea i s k).area k).cleared := by
  unfold State.resetArea
  rw [h]
  simp [emptyArea_area, Area.cleared]

theorem foldl_emptier {α : Type} {f : State → α → State} (h : ∀ (s : State) (a : α), s.emptier (f s a)) (as : List α) :
    ∀ s : State, s.emptier (as.foldl f s) := by
  induction as with
  | nil => exact emptier_refl
  | cons a as ih => exact fun s => (h s a).trans (ih _)

/-- A line reset empties each area joined to its line (R72). -/
theorem resetAreas_cleared {p : Purpose} (h : (s.area k).join = some (i, p)) : ((s.resetAreas i).area k).cleared := by
  obtain ⟨as, bs, hsplit⟩ := List.append_of_mem (show k ∈ allAreas from List.mem_finRange k)
  unfold State.resetAreas
  rw [hsplit, List.foldl_append, List.foldl_cons]
  refine (foldl_emptier (resetArea_emptier · i) bs _ k).2 (resetArea_cleared (p := p) ?_)
  rw [(foldl_emptier (resetArea_emptier · i) as s k).1, h]

theorem resetAreas_emptier (s : State) (i : LineId) : s.emptier (s.resetAreas i) :=
  foldl_emptier (resetArea_emptier · i) _ s

theorem releaseAreas_emptier (s : State) (i : LineId) : s.emptier (s.releaseAreas i) := fun k => by
  simp only [State.releaseAreas, State.area, Fin.getElem_fin, Vector.getElem_map, Area.cleared]
  split_ifs <;> simp

/-! ## Lines with no request waiting -/

/-- No block request of the line waits. -/
def State.unasked (s : State) (i : LineId) : Prop := ∀ r ∈ s.store.requests, r.line ≠ some i

/-- A line with no block request waiting stands as it is, and gets none. -/
def State.spares (i : LineId) (s t : State) : Prop := s.unasked i → t.line i = s.line i ∧ t.unasked i

theorem spares_refl (s : State) : State.spares i s s := fun h => ⟨rfl, h⟩

theorem State.spares.trans (h : State.spares i s t) (h' : State.spares i t u) : State.spares i s u := fun hs => by
  obtain ⟨hl, ht⟩ := h hs
  obtain ⟨hl', hu⟩ := h' ht
  exact ⟨hl'.trans hl, hu⟩

theorem spares_of_eq (hl : t.line i = s.line i) (hr : t.store.requests = s.store.requests) : State.spares i s t :=
  fun h => ⟨hl, by rw [State.unasked, hr]; exact h⟩

/-- An operation on another line alone. -/
theorem spares_of_without (h : t.without j = s.without j) (hj : i ≠ j) : State.spares i s t :=
  spares_of_eq (othersSame_of_without h i hj) (by rw [store_of_without h])

theorem allocate_line (s : State) (id n : Nat) : (s.allocate id n).line i = s.line i := by
  unfold State.allocate
  split <;> rfl

theorem allocate_requests (s : State) (id n : Nat) : (s.allocate id n).store.requests = s.store.requests := by
  unfold State.allocate
  split <;> rfl

/-- The STAGE area of a line emptied tells that line alone. -/
theorem emptyStage_without_line (s : State) (hj : i ≠ j) : (s.emptyStage j).line i = s.line i := by
  unfold State.emptyStage
  split
  · rename_i k h
    exact othersSame_of_apart (emptyArea_apart (joined_join h)) i hj
  · rfl

theorem refuseBlock_line (s : State) (r : RequestKind) (hj : i ≠ j) : (s.refuseBlock j r).line i = s.line i := by
  unfold State.refuseBlock
  dsimp only
  split <;> rw [line_modLine_ne _ _ _ _ hj, emptyStage_without_line _ hj, line_modLine_ne _ _ _ _ hj]

theorem serveRequest_requests (s : State) : s.serveRequest.store.requests = s.store.requests.tail := by
  rw [serveRequest_eq]
  split
  · rename_i h; simp [h]
  · rename_i r rest h
    rw [h]
    split
    · exact allocate_requests (s.popRequest rest) _ _
    · exact allocate_requests (s.popRequest rest) _ _
    · rw [refuseBlock_store]; rfl
    · rfl

theorem serveRequest_spares (s : State) : State.spares i s s.serveRequest := fun hs => by
  refine ⟨?_, ?_⟩
  · rw [serveRequest_eq]
    split
    · rfl
    · rename_i r rest h
      have hr : r.line ≠ some i := hs r (by rw [h]; exact List.mem_cons_self)
      split
      · rename_i m j hgrant hline
        have hj : i ≠ j := fun he => hr (by rw [hline, he])
        rw [line_modLine_ne _ _ _ _ hj]
        exact allocate_line (s.popRequest rest) _ _
      · exact allocate_line (s.popRequest rest) _ _
      · rename_i j hgrant hline
        have hj : i ≠ j := fun he => hr (by rw [hline, he])
        exact refuseBlock_line (s.popRequest rest) _ hj
      · rfl
  · rw [State.unasked, serveRequest_requests]
    exact fun r hr => hs r (List.mem_of_mem_tail hr)

theorem serveMany_spares : ∀ (n : Nat) (s : State), State.spares i s (serveMany n s)
  | 0, s => spares_refl s
  | n + 1, s => (serveRequest_spares s).trans (serveMany_spares n _)

theorem unlinkTail_spares (s : State) (id n : Nat) : State.spares i s (s.unlinkTail id n) := by
  unfold State.unlinkTail
  split
  · exact spares_refl s
  · exact spares_of_eq rfl rfl

theorem freeTail_spares (s : State) (id n : Nat) : State.spares i s (s.freeTail id n) :=
  (serveMany_spares _ s).trans (unlinkTail_spares _ _ _)

theorem closeEntry_spares (s : State) (id : Nat) (why : EntryEnd) : State.spares i s (s.closeEntry id why) := by
  unfold State.closeEntry
  split
  · exact spares_refl s
  · split
    · exact freeTail_spares s id 0
    · unfold State.finishEntry
      split
      · exact spares_refl s
      · exact freeTail_spares (s.modEntry id _) id _

theorem resetArea_spares (s : State) (k : AreaId) (hj : i ≠ j) : State.spares i s (State.resetArea j s k) := by
  unfold State.resetArea
  split
  · rename_i m p h
    split
    · rename_i hm
      exact spares_of_eq (othersSame_of_apart (emptyArea_apart (by rw [h, hm])) i hj) (by simp)
    · exact spares_refl s
  · exact spares_refl s

theorem resetAreas_spares (s : State) (hj : i ≠ j) : State.spares i s (s.resetAreas j) := by
  unfold State.resetAreas
  induction allAreas generalizing s with
  | nil => exact spares_refl s
  | cons k ks ih => exact (resetArea_spares s k hj).trans (ih _)

end Sys2Proof.Machine
end

section
/-! SUPPORT. Notice queues that have room: what a few notices offered leave of them (R178 to R180). -/

namespace Sys2Proof.Machine

/-- Notices of the kinds given have been offered to a queue, no more than the number given. -/
inductive Offered (K : NoticeKind → Prop) : Nat → NoticeQueue → NoticeQueue → Prop
  | keep (n : Nat) (q : NoticeQueue) : Offered K n q q
  | add {n : Nat} {q r : NoticeQueue} {m : Notice} : Offered K n q r → K m.kind → Offered K (n + 1) q (r.offer m)

variable {K : NoticeKind → Prop} {n n' : Nat} {q r q' : NoticeQueue} {m x : Notice}

theorem Offered.trans (h : Offered K n q r) (h' : Offered K n' r q') : Offered K (n + n') q q' := by
  induction h' with
  | keep k r =>
    induction h with
    | keep a q => exact .keep _ _
    | @add a q r m _ hm ih =>
      rw [show a + 1 + k = a + k + 1 by omega]
      exact .add ih hm
  | add _ hm ih => exact .add (ih h) hm

/-- A notice keeps the kind of the entry it updates. -/
theorem merge_kind {a b c : Notice} (h : a.merge b = some c) : c.kind = b.kind := by
  unfold Notice.merge at h
  split at h <;> simp_all [Notice.kind] <;> subst h <;> rfl

theorem mergeInto_kinds : ∀ {es es' : List Notice}, mergeInto m es = some es' →
    ∀ x ∈ es', x.kind = m.kind ∨ x ∈ es
  | [], _, h => by simp [mergeInto] at h
  | a :: es, es', h => by
    rw [mergeInto] at h
    split at h
    · rename_i c hc
      obtain rfl : _ :: es = es' := by simpa using h
      intro x hx
      rcases List.mem_cons.1 hx with rfl | hx
      · exact .inl (merge_kind hc)
      · exact .inr (List.mem_cons_of_mem _ hx)
    · obtain ⟨es₁, h₁, rfl⟩ : ∃ es₁, mergeInto m es = some es₁ ∧ a :: es₁ = es' := by simpa using h
      intro x hx
      rcases List.mem_cons.1 hx with rfl | hx
      · exact .inr List.mem_cons_self
      · exact (mergeInto_kinds h₁ x hx).imp_right (List.mem_cons_of_mem _)

theorem offer_room (h : q.entries.length < Config.noticeQueueMax) : (q.offer m).lost = q.lost ∧
    ∀ x ∈ (q.offer m).entries, x.kind = m.kind ∨ x ∈ q.entries := by
  unfold NoticeQueue.offer
  split
  · rename_i es hes
    exact ⟨rfl, mergeInto_kinds hes⟩
  · rw [NoticeQueue.enter, if_pos h]
    refine ⟨rfl, fun x hx => ?_⟩
    rcases List.mem_append.1 hx with hx | hx
    · exact .inr hx
    · rw [List.mem_singleton.1 hx]
      exact .inl rfl

/-- An entry with which nothing coalesces stays the first of a queue that has room. -/
theorem offer_first {rest : List Notice} (h : q.entries = x :: rest) (hx : x.merge m = none)
    (hroom : q.entries.length < Config.noticeQueueMax) : ∃ rest', (q.offer m).entries = x :: rest' := by
  unfold NoticeQueue.offer
  split
  · rename_i es hes
    rw [h, mergeInto, hx] at hes
    obtain ⟨es₁, -, rfl⟩ : ∃ es₁, mergeInto m rest = some es₁ ∧ x :: es₁ = es := by simpa using hes
    exact ⟨es₁, rfl⟩
  · rw [NoticeQueue.enter, if_pos hroom, h]
    exact ⟨rest ++ [m], rfl⟩

theorem Offered.length_le (h : Offered K n q r) : r.entries.length ≤ q.entries.length + n := by
  induction h with
  | keep n q => exact Nat.le_add_right _ _
  | add _ _ ih => exact (offer_length _ _).trans (Nat.succ_le_succ ih)

/-- A few notices offered to a queue with room: nothing is lost, and what is new is of their kinds. -/
theorem Offered.room (h : Offered K n q r) (hroom : q.entries.length + n ≤ Config.noticeQueueMax) :
    r.lost = q.lost ∧ ∀ x ∈ r.entries, K x.kind ∨ x ∈ q.entries := by
  induction h with
  | keep n q => exact ⟨rfl, fun x hx => .inr hx⟩
  | @add n q r m h hm ih =>
    obtain ⟨hlost, hmem⟩ := ih (by omega)
    have hlen := h.length_le
    obtain ⟨hlost', hmem'⟩ := offer_room (q := r) (m := m) (by omega)
    refine ⟨hlost'.trans hlost, fun x hx => ?_⟩
    rcases hmem' x hx with hk | hx
    · exact .inl (hk ▸ hm)
    · exact hmem x hx

theorem Offered.first {rest : List Notice} (h : Offered K n q r) (hq : q.entries = x :: rest)
    (hx : ∀ m : Notice, x.merge m = none) (hroom : q.entries.length + n ≤ Config.noticeQueueMax) :
    ∃ rest', r.entries = x :: rest' := by
  induction h with
  | keep n q => exact ⟨rest, hq⟩
  | @add n q r m h _ ih =>
    obtain ⟨rest', hr⟩ := ih hq (by omega)
    have hlen := h.length_le
    exact offer_first hr (hx m) (by omega)

theorem callEnded_merge (c : CallRecord) (m : Notice) : (Notice.callEnded c).merge m = none := by cases m <;> rfl

/-- One notice of a line, offered where its kind is wanted. -/
theorem notify_offered {l : Line} (hq : l.queue = q) (h : K m.kind) : Offered K 1 q (l.notify m).queue := by
  rw [notify_queue, hq]
  split
  · exact .add (.keep 0 _) h
  · exact .keep 1 _

theorem pass_offered (s : State) (i : LineId) (st : LineState) (h : K .signals) :
    Offered K 1 (s.line i).queue ((s.pass i st).line i).queue := by
  rcases pass_queue (s := s) (i := i) st with hq | ⟨r, hq⟩
  · rw [hq]; exact .keep 1 _
  · rw [hq]; exact .add (.keep 0 _) h

end Sys2Proof.Machine
end

section
/-! SUPPORT. A call dropped by a line reset (R4, R155): the engine stopped with nothing completed, the areas emptied, the
report put into an empty queue. -/

namespace Sys2Proof.Machine

variable {s : State} {i j : LineId}

/-! ## The stages of a drop -/

/-- A line reset's call is over: its window is closed and its engine stopped (R4 steps 1 and 2). -/
def State.stopByReset (s : State) (i : LineId) : State :=
  let s1 := (s.leaveAlerting i).modLine i (fun l => l.modCall (fun c => { c with endReason := some .reset }))
  if (s1.line i).call.isSome then s1.stopEngine i .reset else s1

/-- A line with its queue emptied, its marks cleared and its areas let go. -/
def State.unmarked (s : State) (i : LineId) : State :=
  (((s.modLine i (fun l => { l with queue := {} })).clearFaxing i).clearPlaying i).releaseAreas i

/-- What a line reset clears behind the call: its requests, its open entry, its areas, its queue and its marks (R4 step
3). -/
def State.clearByReset (s : State) (i : LineId) : State :=
  (((s.withdraw i).closeOpenByReset i).resetAreas i).unmarked i

theorem dropByReset_eq :
    s.dropByReset i = (((s.stopByReset i).clearByReset i).reportEnd i).modLine i Line.noCall := rfl

/-- The engine of a line stopped with nothing completed. -/
def Line.stopped (l : Line) : Line := { l.writeFaxPages with
  carrier := false, stage := .idle
  tone := { l.tone with gen := none, echoGen := none, digitTx := none, sendQueue := [] } }

theorem stopEngine_reset :
    s.stopEngine i .reset = ((s.withdraw i).modLine i Line.stopped).signalCarrier i false := rfl

/-! ## The part around the line -/

@[simp] theorem closeOpenByReset_around : (s.closeOpenByReset i).around j = s.around j := by
  unfold State.closeOpenByReset
  split
  · exact closeEntry_around s j _ _
  · rfl

@[simp] theorem closeOpenByReset_dram : (s.closeOpenByReset i).dram = s.dram := by
  unfold State.closeOpenByReset
  split
  · exact closeEntry_dram s _ _
  · rfl

@[simp] theorem resetAreas_dram : (s.resetAreas i).dram = s.dram := by
  unfold State.resetAreas
  induction allAreas generalizing s with
  | nil => rfl
  | cons k ks ih =>
    rw [List.foldl_cons, ih]
    unfold State.resetArea
    split
    · split <;> simp
    · rfl

@[simp] theorem resetAreas_store : (s.resetAreas i).store = s.store := by
  unfold State.resetAreas
  induction allAreas generalizing s with
  | nil => rfl
  | cons k ks ih =>
    rw [List.foldl_cons, ih]
    unfold State.resetArea
    split
    · split <;> simp
    · rfl

theorem stopByReset_around : (s.stopByReset i).around i = s.around i := by
  have hcall : ∀ t : State, (t.modLine i (fun l => l.modCall (fun c => { c with endReason := some .reset }))).around i =
      t.around i := fun t => modLine_around t i fun _ => rfl
  unfold State.stopByReset
  dsimp only
  split
  · rw [stopEngine_around, hcall, leaveAlerting_around]
  · rw [hcall, leaveAlerting_around]

theorem stopByReset_dram : (s.stopByReset i).dram = s.dram := by
  have hdram : (s.leaveAlerting i).dram = s.dram := (congrArg State.dram (leaveAlerting_without s i) :)
  unfold State.stopByReset
  dsimp only
  split
  · rw [stopEngine_dram (.inl rfl)]; exact hdram
  · exact hdram

/-- What is cleared behind a call lies around every line, but for its own queue. -/
theorem clearByReset_around : (s.clearByReset i).around j = s.around j := by
  have hqueue : ∀ t : State, (t.modLine i (fun l => { l with queue := {} })).around j = t.around j := fun t =>
    modLine_around_settled t j i fun _ => rfl
  unfold State.clearByReset State.unmarked
  rw [releaseAreas_around, clearPlaying_around, clearFaxing_around, hqueue, resetAreas_around,
    closeOpenByReset_around, withdraw_around]

theorem clearByReset_dram : (s.clearByReset i).dram = s.dram := by
  simp [State.clearByReset, State.unmarked]

theorem dropByReset_around : (s.dropByReset i).around i = s.around i := by
  rw [dropByReset_eq, modLine_around, reportEnd_around, clearByReset_around, stopByReset_around]
  exact fun _ => rfl

theorem dropByReset_dram : (s.dropByReset i).dram = s.dram := by
  rw [dropByReset_eq, modLine_dram, reportEnd_dram, clearByReset_dram, stopByReset_dram]

/-! ## The areas -/

theorem closeOpenByReset_emptier : s.emptier (s.closeOpenByReset i) := by
  unfold State.closeOpenByReset
  split
  · exact closeEntry_emptier s _ _
  · exact emptier_refl s

theorem stopByReset_areas : (s.stopByReset i).areas = s.areas := by
  have hareas : (s.leaveAlerting i).areas = s.areas := areas_of_without (leaveAlerting_without s i)
  unfold State.stopByReset
  dsimp only
  split
  · rw [stopEngine_reset]
    exact (areas_of_without (signalCarrier_without _ i false)).trans hareas
  · exact hareas

theorem withdraw_emptier : s.emptier (s.withdraw i) := emptier_of_areas rfl

theorem unmarked_emptier : s.emptier (s.unmarked i) := releaseAreas_emptier s i

theorem unmarked_line : (s.unmarked j).line i = (s.modLine j (fun l => { l with queue := {} })).line i := by
  simp [State.unmarked]

theorem unmarked_spares (hj : i ≠ j) : State.spares i s (s.unmarked j) :=
  spares_of_eq (unmarked_line.trans (line_modLine_ne s j i _ hj)) rfl

theorem unmarked_requests : (s.unmarked i).store.requests = s.store.requests := rfl

theorem clearByReset_emptier : s.emptier (s.clearByReset i) :=
  ((withdraw_emptier.trans closeOpenByReset_emptier).trans (resetAreas_emptier _ i)).trans unmarked_emptier

theorem clearByReset_cleared {k : AreaId} {p : Purpose} (h : (s.area k).join = some (i, p)) :
    ((s.clearByReset i).area k).cleared := by
  have hclose : s.emptier ((s.withdraw i).closeOpenByReset i) := withdraw_emptier.trans closeOpenByReset_emptier
  exact (unmarked_emptier k).2 (resetAreas_cleared (p := p) ((hclose k).1.trans h))

theorem reportEnd_areas : (s.reportEnd i).areas = s.areas := by
  unfold State.reportEnd
  split <;> rfl

theorem dropByReset_areas : (s.dropByReset i).areas = ((s.stopByReset i).clearByReset i).areas := by
  rw [dropByReset_eq, modLine_areas, reportEnd_areas]

theorem dropByReset_emptier : s.emptier (s.dropByReset i) :=
  (emptier_of_areas stopByReset_areas).trans (clearByReset_emptier.trans (emptier_of_areas dropByReset_areas))

theorem dropByReset_cleared {k : AreaId} {p : Purpose} (h : (s.area k).join = some (i, p)) :
    ((s.dropByReset i).area k).cleared := by
  refine (emptier_of_areas dropByReset_areas k).2 (clearByReset_cleared (p := p) ?_)
  rw [(emptier_of_areas stopByReset_areas k).1, h]

/-! ## The lines without a request -/

theorem withdraw_spares : State.spares i s (s.withdraw j) := fun h =>
  ⟨rfl, fun r hr => h r (List.mem_filter.1 hr).1⟩

theorem withdraw_unasked : (s.withdraw i).unasked i := fun r hr => by
  simpa using (List.mem_filter.1 hr).2

theorem closeOpenByReset_spares : State.spares i s (s.closeOpenByReset j) := by
  unfold State.closeOpenByReset
  split
  · exact closeEntry_spares s _ _
  · exact spares_refl s

theorem stopByReset_spares (hj : i ≠ j) : State.spares i s (s.stopByReset j) := by
  set s1 := (s.leaveAlerting j).modLine j (fun l => l.modCall (fun c => { c with endReason := some .reset })) with hs1
  have hleft : State.spares i s s1 :=
    spares_of_without ((modLine_without _ j _).trans (leaveAlerting_without s j)) hj
  have heq : s.stopByReset j = if (s1.line j).call.isSome then s1.stopEngine j .reset else s1 := rfl
  rw [heq]
  split
  · rw [stopEngine_reset]
    have hstop : (((s1.withdraw j).modLine j Line.stopped).signalCarrier j false).without j = (s1.withdraw j).without j :=
      by simp
    exact hleft.trans (withdraw_spares.trans (spares_of_without hstop hj))
  · exact hleft

theorem clearByReset_spares (hj : i ≠ j) : State.spares i s (s.clearByReset j) :=
  ((withdraw_spares.trans closeOpenByReset_spares).trans (resetAreas_spares _ hj)).trans (unmarked_spares hj)

theorem clearByReset_unasked : (s.clearByReset i).unasked i := by
  obtain ⟨-, h⟩ := closeOpenByReset_spares (j := i) (withdraw_unasked (s := s) (i := i))
  rw [State.unasked, State.clearByReset, unmarked_requests, resetAreas_store]
  exact h

theorem reportEnd_without : (s.reportEnd i).without i = s.without i := by
  unfold State.reportEnd
  split <;> simp

theorem unasked_of_without (h : s.unasked i) {t : State} (hfr : t.without j = s.without j) : t.unasked i := by
  rw [State.unasked, store_of_without hfr]
  exact h

theorem dropByReset_spares (hj : i ≠ j) : State.spares i s (s.dropByReset j) :=
  (stopByReset_spares hj).trans ((clearByReset_spares hj).trans
    ((spares_of_without reportEnd_without hj).trans (spares_of_without (modLine_without _ j _) hj)))

theorem dropByReset_unasked : (s.dropByReset i).unasked i :=
  unasked_of_without (unasked_of_without clearByReset_unasked reportEnd_without) (modLine_without _ i _)

/-! ## The line -/

theorem closeWindow_start : ((s.closeWindow i).line i).call.map CallRecord.start =
    (s.line i).call.map CallRecord.start := by
  unfold State.closeWindow State.closeWindowOn
  simp only [unfinished_date]
  split_ifs
  · rfl
  · rw [line_modLine_same]
    simp [Line.modCall, Function.comp_def]
  · rw [line_notifyLine_same, line_modLine_same, notify_eq]
    simp [Line.modCall, Function.comp_def]

theorem leaveAlerting_start : ((s.leaveAlerting i).line i).call.map CallRecord.start =
    (s.line i).call.map CallRecord.start := by
  unfold State.leaveAlerting
  split
  · exact closeWindow_start
  · rfl

/-- A call that a reset has ended, with the start it had. -/
def endedByReset (start : Option CallRecord) (c : Option CallRecord) : Prop :=
  c.map CallRecord.start = start.map CallRecord.start ∧ ∀ r ∈ c, r.endReason = some .reset

theorem stopped_call {l : Line} {c : Option CallRecord} (h : endedByReset c l.call) : endedByReset c l.stopped.call := by
  obtain ⟨hstart, hreason⟩ := h
  have hcall : l.stopped.call = l.writeFaxPages.call := rfl
  rw [hcall, writeFaxPages_call]
  split_ifs
  · refine ⟨by simp [Function.comp_def, hstart], ?_⟩
    rintro r hr
    obtain ⟨c', hc', rfl⟩ := Option.mem_map.1 hr
    exact hreason c' hc'
  · exact ⟨hstart, hreason⟩

/-- The line whose call a reset has stopped. -/
theorem stopByReset_line : let l := (s.stopByReset i).line i
    endedByReset (s.line i).call l.call ∧ l.base = (s.line i).base ∧ l.signals.ring = (s.line i).signals.ring ∧
    l.signals.loop = (s.line i).signals.loop ∧ l.signals.hook = (s.line i).signals.hook ∧
    ((s.line i).call = none → l.signals = (s.line i).signals) := by
  set s1 := (s.leaveAlerting i).modLine i (fun l => l.modCall (fun c => { c with endReason := some .reset })) with hs1
  have hstart := leaveAlerting_start (s := s) (i := i)
  have hcall : endedByReset (s.line i).call (s1.line i).call := by
    rw [hs1, line_modLine_same]
    refine ⟨by simpa [Line.modCall, Function.comp_def] using hstart, ?_⟩
    rintro r hr
    obtain ⟨c', -, rfl⟩ := Option.mem_map.1 hr
    rfl
  have hbase : (s1.line i).base = (s.line i).base := by
    rw [hs1, line_modLine_same, leaveAlerting_line_eq]; rfl
  have hsig : (s1.line i).signals = (s.line i).signals := by
    rw [hs1, line_modLine_same, leaveAlerting_line_eq]; rfl
  have heq : s.stopByReset i = if (s1.line i).call.isSome then s1.stopEngine i .reset else s1 := rfl
  rw [heq]
  split
  · rename_i hsome
    have hnone : (s.line i).call ≠ none := fun h => by
      obtain ⟨c, hc⟩ := Option.isSome_iff_exists.1 hsome
      have := hcall.1
      simp [hc, h] at this
    obtain ⟨hring, hloop, -, hhook⟩ := setSignals_values ((s1.withdraw i).modLine i Line.stopped) i
      (((s1.withdraw i).modLine i Line.stopped).line i).signals.ring
      (((s1.withdraw i).modLine i Line.stopped).line i).signals.loop false
      (((s1.withdraw i).modLine i Line.stopped).line i).signals.hook false
    have hstop : (((s1.withdraw i).modLine i Line.stopped).line i).signals = (s.line i).signals := by
      rw [line_modLine_same, withdraw_line, ← hsig]
      unfold Line.stopped Line.writeFaxPages
      split_ifs <;> rfl
    refine ⟨?_, (stopEngine_base s1 i .reset).trans hbase, ?_, ?_, ?_, fun h => absurd h hnone⟩
    · rw [stopEngine_reset, State.signalCarrier, setSignals_line_call, line_modLine_same, withdraw_line]
      exact stopped_call hcall
    · rw [stopEngine_reset, State.signalCarrier, hring, hstop]
    · rw [stopEngine_reset, State.signalCarrier, hloop, hstop]
    · rw [stopEngine_reset, State.signalCarrier, hhook, hstop]
  · exact ⟨hcall, hbase, by rw [hsig], by rw [hsig], by rw [hsig], fun _ => hsig⟩

/-- The line behind which all is cleared is settled as before, with an empty queue. -/
theorem clearByReset_line : ((s.clearByReset i).line i).settled = (s.line i).settled ∧
    ((s.clearByReset i).line i).queue = {} := by
  refine ⟨settled_of_all (fun k => clearByReset_around) i, ?_⟩
  simp [State.clearByReset, State.unmarked]

/-- The queue of a line whose call a reset has ended: the report alone, or nothing. -/
def reportQueue (wanted : Bool) : Option CallRecord → NoticeQueue
  | some c => if wanted then { entries := [.callEnded c] } else {}
  | none => {}

theorem reportEnd_queue (h : (s.line i).queue = {}) : ((s.reportEnd i).line i).queue =
    reportQueue ((s.line i).profile.wants .callEnded) (s.line i).call := by
  unfold State.reportEnd
  cases hc : (s.line i).call with
  | none => exact h
  | some c =>
    dsimp only [reportQueue]
    rw [line_notifyLine_same, notify_queue, h]
    rfl

/-- What a dropped call leaves of its line: the context of no call, over a line with its base, its signal values, and the
report of the end in a queue that was emptied. -/
theorem dropByReset_line : ∃ (l : Line) (c : Option CallRecord), (s.dropByReset i).line i = l.noCall ∧
    l.base = (s.line i).base ∧ l.signals.ring = (s.line i).signals.ring ∧
    l.signals.loop = (s.line i).signals.loop ∧ l.signals.hook = (s.line i).signals.hook ∧
    ((s.line i).call = none → l.signals = (s.line i).signals) ∧ endedByReset (s.line i).call c ∧
    l.queue = reportQueue ((s.line i).profile.wants .callEnded) c := by
  obtain ⟨hcall, hbase, hring, hloop, hhook, hsig⟩ := stopByReset_line (s := s) (i := i)
  obtain ⟨hset, hqueue⟩ := clearByReset_line (s := s.stopByReset i) (i := i)
  rw [dropByReset_eq]
  generalize (s.stopByReset i).clearByReset i = u at *
  have hbase' : (u.line i).base = (s.line i).base := (congrArg Line.base hset :).trans hbase
  have hsame : (u.line i).signals = ((s.stopByReset i).line i).signals := (congrArg Line.signals hset :)
  have hc : (u.line i).call = ((s.stopByReset i).line i).call := (congrArg Line.call hset :)
  have hprofile : (u.line i).profile = (s.line i).profile := (congrArg Line.profile hbase' :)
  have hrep : ((u.reportEnd i).line i).signals = (u.line i).signals := by
    unfold State.reportEnd
    split <;> simp
  refine ⟨(u.reportEnd i).line i, (u.line i).call, ?_, ?_, ?_, ?_, ?_, ?_, ?_, ?_⟩
  · rw [line_modLine_same]
  · rw [reportEnd_base, hbase']
  · rw [hrep, hsame, hring]
  · rw [hrep, hsame, hloop]
  · rw [hrep, hsame, hhook]
  · intro h
    rw [hrep, hsame, hsig h]
  · rw [hc]
    exact hcall
  · rw [reportEnd_queue hqueue, hprofile]

end Sys2Proof.Machine
end

section
/-! SUPPORT. LINE_RESET (R4): a line's call dropped, its engines and signals reset, and its entry to IDLE. -/

namespace Sys2Proof.Machine

variable {s u : State} {i j : LineId}

/-! ## The line once its call is dropped -/

/-- The engines, signals and measurement of a line reset (R4 steps 5 and 6). -/
def Line.resetDone (l : Line) : Line :=
  { l.resetEngines.realSignals.noLoopback with signals := l.realSignals.signals.clear, ring := l.ringAfterReset }

theorem resetLine_eq : s.resetLine i = if (s.line i).state = .offline then (s.dropByReset i).modLine i Line.resetDone
    else ((s.dropByReset i).modLine i Line.resetDone).enterIdle i := by
  unfold State.resetLine
  simp only [decide_eq_true_eq]
  rfl

/-- A line's job, its engines, its dialling, its loopback signals, its guard and its profile. -/
def Line.context (l : Line) : Line :=
  { job := l.job, dialList := l.dialList, dialPos := l.dialPos, faxSource := l.faxSource, substRing := l.substRing
    substLoop := l.substLoop, loopCount := l.loopCount, loopClass := l.loopClass, quality := l.quality, link := l.link
    fax := l.fax, voice := l.voice, guard := l.guard, profile := l.profile }

theorem realSignals_eq (l : Line) : l.realSignals = { l with signals := l.realSignals.signals } := by
  unfold Line.realSignals
  split <;> rfl

theorem resetDone_context (l : Line) : l.noCall.resetDone.context = { profile := l.profile } := by
  unfold Line.resetDone Line.realSignals
  split <;> rfl

theorem resetDone_ring (l : Line) : l.resetDone.ring = l.ringAfterReset := rfl

theorem resetDone_signals (l : Line) : l.resetDone.signals =
    if l.state = .loopback then ({ l.signals with ring := false, loop := l.realLoop } : Signals).clear
    else l.signals.clear := by
  change l.realSignals.signals.clear = _
  unfold Line.realSignals
  split <;> rfl

/-- What else the reset of a line's engines leaves alone. -/
theorem resetDone_kept (l : Line) : l.resetDone.state = l.state ∧ l.resetDone.relay = l.relay ∧
    l.resetDone.call = l.call ∧ l.resetDone.direction = l.direction ∧ l.resetDone.queue = l.queue ∧
    l.resetDone.realLoop = l.realLoop := by
  unfold Line.resetDone
  rw [realSignals_eq]
  exact ⟨rfl, rfl, rfl, rfl, rfl, rfl⟩

/-- The line a line reset leaves, before its entry to IDLE. -/
theorem dropDone_line : ∃ c, endedByReset (s.line i).call c ∧
    let l := ((s.dropByReset i).modLine i Line.resetDone).line i
    l.context = { profile := (s.line i).profile } ∧ l.state = (s.line i).state ∧ l.relay = (s.line i).relay ∧
    l.call = none ∧ l.direction = .none ∧ l.realLoop = (s.line i).realLoop ∧
    l.queue = reportQueue ((s.line i).profile.wants .callEnded) c ∧
    l.ring = (if (s.line i).state = .loopback then {} else (s.line i).ring.inputs) ∧
    (l.signals.ring = if (s.line i).state = .loopback then false else (s.line i).signals.ring) ∧
    ((s.line i).state ≠ .loopback → l.signals.loop = (s.line i).signals.loop) ∧
    l.signals.hook = (s.line i).signals.hook ∧ l.signals = l.signals.clear ∧
    ((s.line i).state = .offline → (s.line i).call = none → l.signals = (s.line i).signals.clear) := by
  obtain ⟨l, c, hl, hbase, hring, hloop, hhook, hsig, hc, hq⟩ := dropByReset_line (s := s) (i := i)
  obtain ⟨hstate, hrelay, hcall, hdir, hqueue, hreal⟩ := resetDone_kept l.noCall
  have hst : l.state = (s.line i).state := (congrArg Line.state hbase :)
  have hst' : l.noCall.state = (s.line i).state := hst
  refine ⟨c, hc, ?_⟩
  rw [line_modLine_same, hl]
  refine ⟨(resetDone_context l).trans ?_, hstate.trans hst, hrelay.trans (congrArg Line.relay hbase :), hcall, hdir,
    hreal.trans (congrArg Line.realLoop hbase :), hqueue.trans hq, ?_, ?_, fun h => ?_, ?_, ?_, fun h hno => ?_⟩
  · rw [show l.profile = (s.line i).profile from (congrArg Line.profile hbase :)]
  · rw [resetDone_ring, Line.ringAfterReset, hst']
    rw [show l.noCall.ring = (s.line i).ring from (congrArg Line.ring hbase :)]
  · rw [resetDone_signals, hst']
    split
    · rfl
    · exact hring
  · rw [resetDone_signals, hst', if_neg h]
    exact hloop
  · rw [resetDone_signals]
    split <;> exact hhook
  · rw [resetDone_signals]
    split <;> rfl
  · rw [resetDone_signals, hst', if_neg (by rw [h]; decide)]
    exact congrArg Signals.clear (hsig hno)

/-! ## The entry to IDLE -/

theorem pass_context (st : LineState) : ((u.pass i st).line i).context = (u.line i).context := by
  rw [pass_line_eq]
  rfl

theorem resumeRing_context (l : Line) (now : Ms) : (l.resumeRing now).context = l.context := by
  rw [resumeRing_eq]
  rfl

theorem enterAlerting_context : ((u.enterAlerting i).line i).context = (u.line i).context := by
  rw [enterAlerting_line, notify_eq, ← pass_context (u := u) .alerting]
  rfl

theorem linePass_loopIn {l : Line} (table : List ToneEntry) (now : Ms) {st : LineState} (h : st ≠ .loopback) :
    (l.pass table now st).loopIn = l.realLoop := by
  rw [linePass_eq]
  exact if_neg h

/-- The change flags of a line that passes to a state: a value that changes sets its own (R20). -/
theorem pass_flags (u : State) (i : LineId) {st : LineState} (hst : st ≠ .loopback) :
    let r := (u.line i).signals
    let r' := ((u.pass i st).line i).signals
    r'.fRing = (r.fRing || (r.ring != ((u.line i).pass u.toneTable u.now st).ring.burst.isSome)) ∧
    r'.fLoop = (r.fLoop || (r.loop != (st != .offline && (u.line i).realLoop))) ∧
    r'.fHook = (r.fHook || (r.hook != st.offHook)) ∧ r'.trailing = r.trailing := by
  have hline : ((u.line i).pass u.toneTable u.now st).signals = (u.line i).signals := by rw [linePass_eq]
  have hpass : ((u.pass i st).line i).signals = _ := setSignals_line_signals _ _ _ _ _ _ _
  rw [line_setLine_same, hline, linePass_loopIn _ _ hst] at hpass
  dsimp only
  rw [hpass]
  split
  · rename_i h
    simp_all [Signals.same]
  · simp [Signals.update]

/-- A line with no burst enters IDLE. -/
theorem enterIdle_clear (h : (u.line i).ring.burst = none) : let l := (u.enterIdle i).line i
    l.state = .idle ∧ l.relay = false ∧ l.call = (u.line i).call ∧ l.direction = (u.line i).direction ∧
    l.context = (u.line i).context ∧ l.signals = ((u.pass i .idle).line i).signals ∧
    l.queue = ((u.pass i .idle).line i).queue := by
  have hburst := linePass_burst_kept u.toneTable u.now .idle h
  obtain ⟨r, hring⟩ : ∃ r, ((u.pass i .idle).line i).resumeRing u.now = { (u.pass i .idle).line i with ring := r } :=
    ⟨_, resumeRing_eq _ _⟩
  rw [enterIdle_of_pass hburst, line_modLine_same]
  dsimp only
  refine ⟨?_, ?_, ?_, ?_, ?_, ?_, ?_⟩
  case refine_5 => rw [resumeRing_context, pass_context]
  all_goals simp [hring, LineState.offHook]

theorem enterIdle_offered {K : NoticeKind → Prop} (hs : K .signals) (hr : K .ring) :
    Offered K 3 (u.line i).queue ((u.enterIdle i).line i).queue := by
  have hpass := pass_offered u i .idle hs
  unfold State.enterIdle
  dsimp only
  split
  · rw [enterAlerting_line]
    refine Offered.trans (n := 2) (n' := 1) (Offered.trans (n := 1) (n' := 1) hpass (pass_offered _ i .alerting hs)) ?_
    exact notify_offered (m := .ring 1 .pending) rfl hr
  · rw [line_modLine_same, resumeRing_eq]
    exact hpass.trans (.keep 2 _)

theorem enterIdle_around : (u.enterIdle i).around i = u.around i := by
  refine around_of_without (enterIdle_without u i) ?_
  unfold State.enterIdle
  dsimp only
  split
  · have hcontext := (enterAlerting_context (u := u.pass i .idle) (i := i)).trans (pass_context .idle)
    exact (congrArg Line.profile hcontext :)
  · rw [line_modLine_same, resumeRing_eq]
    simp

/-! ## One line reset -/

theorem resetLine_around : (s.resetLine i).around i = s.around i := by
  have hdone : ((s.dropByReset i).modLine i Line.resetDone).around i = s.around i := by
    rw [modLine_around, dropByReset_around]
    intro l
    unfold Line.resetDone
    rw [realSignals_eq]
    rfl
  rw [resetLine_eq]
  split
  · exact hdone
  · exact enterIdle_around.trans hdone

/-- What a line reset's entry to IDLE adds lies on the line alone. -/
theorem resetLine_without : (s.resetLine i).without i = (s.dropByReset i).without i := by
  rw [resetLine_eq]
  split
  · exact modLine_without _ i _
  · exact (enterIdle_without _ i).trans (modLine_without _ i _)

theorem dram_of_without {t : State} (h : t.without i = s.without i) : t.dram = s.dram :=
  (congrArg State.dram h :)

theorem resetLine_dram : (s.resetLine i).dram = s.dram := (dram_of_without resetLine_without).trans dropByReset_dram

theorem resetLine_emptier : s.emptier (s.resetLine i) :=
  dropByReset_emptier.trans (emptier_of_without resetLine_without)

theorem resetLine_cleared {k : AreaId} {p : Purpose} (h : (s.area k).join = some (i, p)) :
    ((s.resetLine i).area k).cleared := by
  have hlater : (s.dropByReset i).emptier (s.resetLine i) := emptier_of_without resetLine_without
  exact (hlater k).2 (dropByReset_cleared h)

theorem resetLine_spares (hj : i ≠ j) : State.spares i s (s.resetLine j) :=
  (dropByReset_spares hj).trans (spares_of_without resetLine_without hj)

theorem resetLine_unasked : (s.resetLine i).unasked i := unasked_of_without dropByReset_unasked resetLine_without

/-- The notices that may stand in the queue of a line reset, behind the report of its call. -/
def ofReset (k : NoticeKind) : Prop := k = .signals ∨ k = .ring

theorem reportQueue_short (w : Bool) (c : Option CallRecord) :
    (reportQueue w c).lost = false ∧ (reportQueue w c).entries.length ≤ 1 := by
  unfold reportQueue
  cases c with
  | none => exact ⟨rfl, Nat.zero_le _⟩
  | some c => cases w <;> simp

/-- The queue of a line reset: the report of its call, and what its entry to IDLE adds (R4). -/
theorem resetLine_queue : ∃ c, endedByReset (s.line i).call c ∧
    Offered ofReset 3 (reportQueue ((s.line i).profile.wants .callEnded) c) ((s.resetLine i).line i).queue := by
  obtain ⟨c, hc, -, -, -, -, -, -, hq, -⟩ := dropDone_line (s := s) (i := i)
  refine ⟨c, hc, ?_⟩
  rw [resetLine_eq, ← hq]
  split
  · exact .keep 3 _
  · exact enterIdle_offered (.inl rfl) (.inr rfl)

theorem resetLine_lost : ((s.resetLine i).line i).queue.lost = false := by
  obtain ⟨c, -, hq⟩ := resetLine_queue (s := s) (i := i)
  obtain ⟨hlost, hlen⟩ := reportQueue_short ((s.line i).profile.wants .callEnded) c
  exact (hq.room (by simp [Config.noticeQueueMax]; omega)).1.trans hlost

/-- The report of a dropped call stands first in its line's queue. -/
theorem resetLine_report {c : CallRecord} (hc : (s.line i).call = some c)
    (hw : (s.line i).profile.wants .callEnded = true) : ∃ c' rest,
    ((s.resetLine i).line i).queue.entries = .callEnded c' :: rest ∧ c'.endReason = some .reset ∧ c'.start = c.start := by
  obtain ⟨c', ⟨hstart, hreason⟩, hq⟩ := resetLine_queue (s := s) (i := i)
  obtain ⟨r, rfl, hr⟩ : ∃ r, c' = some r ∧ r.start = c.start := by
    rw [hc] at hstart
    exact Option.map_eq_some_iff.1 hstart
  rw [hw] at hq
  obtain ⟨rest, hrest⟩ := hq.first (x := .callEnded r) (rest := []) rfl (callEnded_merge r)
    (by simp [reportQueue, Config.noticeQueueMax])
  exact ⟨r, rest, hrest, hreason r rfl, hr⟩

/-- With no call to report, the queue of a line reset holds signals and ringing alone. -/
theorem resetLine_kinds (hc : (s.line i).call = none) :
    ∀ n ∈ ((s.resetLine i).line i).queue.entries, n.kind = .signals ∨ n.kind = .ring := by
  obtain ⟨c', ⟨hstart, -⟩, hq⟩ := resetLine_queue (s := s) (i := i)
  obtain rfl : c' = none := by simpa [hc] using hstart
  intro n hn
  rcases (hq.room (by simp [reportQueue, Config.noticeQueueMax])).2 n hn with hk | hmem
  · exact hk
  · simp [reportQueue] at hmem

/-- A line without a burst, reset: it is in IDLE (R4). -/
theorem resetLine_idle (hst : (s.line i).state ≠ .offline) (hb : (s.line i).ring.burst = none)
    (hr : (s.line i).signals.ring = false) : let l := (s.resetLine i).line i
    l.state = .idle ∧ l.relay = false ∧ l.call = none ∧ l.direction = .none ∧
    l.context = { profile := (s.line i).profile } ∧ l.signals.fRing = false ∧ l.signals.trailing = false ∧
    ((s.line i).state ≠ .loopback → (s.line i).signals.loop = (s.line i).realLoop → l.signals.fLoop = false) ∧
    ((s.line i).signals.hook = false → l.signals.fHook = false) ∧
    ((s.line i).call = none → ∀ n ∈ l.queue.entries, n.kind = .signals) := by
  obtain ⟨c, hc, hcontext, -, -, hcall, hdir, hreal, hq, hring, hsring, hsloop, hshook, hclear, -⟩ :=
    dropDone_line (s := s) (i := i)
  rw [resetLine_eq, if_neg hst]
  generalize (s.dropByReset i).modLine i Line.resetDone = u at *
  have hburst : (u.line i).ring.burst = none := by
    rw [hring]
    split
    · rfl
    · exact hb
  have hpass := linePass_burst_kept u.toneTable u.now .idle hburst
  have hring0 : (u.line i).signals.ring = false := by
    rw [hsring]
    split
    · rfl
    · exact hr
  obtain ⟨hstate, hrelay, hcall', hdir', hcontext', hsig, hqueue⟩ := enterIdle_clear hburst
  obtain ⟨hfring, hfloop, hfhook, htrail⟩ := pass_flags u i (st := .idle) (by decide)
  have hoffered := pass_offered (K := (· = .signals)) u i .idle rfl
  dsimp only
  rw [hsig, hqueue]
  refine ⟨hstate, hrelay, hcall'.trans hcall, hdir'.trans hdir, hcontext'.trans hcontext, ?_, ?_, fun h hl => ?_,
    fun hh => ?_, fun hno n hn => ?_⟩
  · rw [hfring, hpass, hring0, hclear]; rfl
  · rw [htrail, hclear]; rfl
  · rw [hfloop, hsloop h, hl, hreal, hclear]
    simp [Signals.clear]
  · rw [hfhook, hshook, hh, hclear]; rfl
  · obtain rfl : c = none := by simpa [hno] using hc.1
    rw [hq] at hoffered
    exact ((hoffered.room (by simp [reportQueue, Config.noticeQueueMax])).2 n hn).resolve_right (by simp [reportQueue])

theorem incomingCall_of_outside {t : State} (h : t.outside = s.outside) : t.incomingCall = s.incomingCall :=
  (congrArg State.incomingCall h :)

theorem enterAlerting_signals : ((u.enterAlerting i).line i).signals = ((u.pass i .alerting).line i).signals := by
  rw [enterAlerting_line, notify_eq]

/-- A line with a burst in progress, reset: the burst is the first of a new incoming call (R4, R13). -/
theorem resetLine_ringing
    (hst : (s.line i).state = .idle ∨ (s.line i).state = .alerting ∨ (s.line i).state = .release)
    (hb : (s.line i).ring.burst.isSome = true) (hr : (s.line i).signals.ring = true) : let l := (s.resetLine i).line i
    l.state = .alerting ∧ l.relay = false ∧ l.call = some s.incomingCall ∧ l.direction = .incoming ∧
    l.ring.burst = (s.line i).ring.burst ∧ l.ring.closed = 0 ∧
    l.context = { profile := (s.line i).profile } ∧ l.signals.fRing = false ∧ l.signals.trailing = false ∧
    ((s.line i).signals.loop = (s.line i).realLoop → l.signals.fLoop = false) ∧
    ((s.line i).signals.hook = false → l.signals.fHook = false) := by
  have hnot : (s.line i).state ≠ .loopback ∧ (s.line i).state ≠ .offline := by
    rcases hst with h | h | h <;> rw [h] <;> decide
  have hout : ((s.dropByReset i).modLine i Line.resetDone).outside = s.outside :=
    (modLine_outside _ i _).trans (around_outside dropByReset_around)
  obtain ⟨c, -, hcontext, hstate, -, -, -, hreal, -, hring, hsring, hsloop, hshook, hclear, -⟩ :=
    dropDone_line (s := s) (i := i)
  rw [resetLine_eq, if_neg hnot.2]
  generalize (s.dropByReset i).modLine i Line.resetDone = u at *
  rw [if_neg hnot.1] at hring hsring
  have hmeasure : (u.line i).measuresRing = true := by
    unfold Line.measuresRing
    rw [hstate]
    rcases hst with h | h | h <;> rw [h]
  have hkept : ((u.line i).pass u.toneTable u.now .idle).ring = (u.line i).ring :=
    linePass_ring_kept _ _ hmeasure rfl
  have hvring : ((u.pass i .idle).line i).ring = (u.line i).ring := (pass_line_ring u i .idle).trans hkept
  have hvstate : ((u.pass i .idle).line i).state = .idle := by rw [pass_line_eq]
  have hvmeasure : ((u.pass i .idle).line i).measuresRing = true := by
    unfold Line.measuresRing
    rw [hvstate]
  have hburst : (u.line i).ring.burst = (s.line i).ring.burst := by rw [hring]; rfl
  have hvout : (u.pass i .idle).outside = s.outside := (around_outside (pass_around u i .idle)).trans hout
  have hvreal : ((u.pass i .idle).line i).realLoop = (s.line i).realLoop := by
    rw [pass_line_eq]
    exact hreal
  have hvcontext : ((u.pass i .idle).line i).context = { profile := (s.line i).profile } :=
    (pass_context .idle).trans hcontext
  obtain ⟨hfring, hfloop, hfhook, htrail⟩ := pass_flags u i (st := .idle) (by decide)
  obtain ⟨hvr, hvl, -, hvh⟩ := pass_signals u i .idle
  rw [enterIdle_burst hmeasure (by rw [hburst]; exact hb)]
  rw [linePass_loopIn _ _ (by decide)] at hvl
  generalize u.pass i .idle = v at *
  obtain ⟨hfring', hfloop', hfhook', htrail'⟩ := pass_flags v i (st := .alerting) (by decide)
  have hkept' : ((v.line i).pass v.toneTable v.now .alerting).ring = (v.line i).ring :=
    linePass_ring_kept _ _ hvmeasure rfl
  obtain ⟨hastate, hadir, hacall, -, haring, -, harelay, -⟩ := enterAlerting_spec hvmeasure
  dsimp only
  rw [enterAlerting_signals]
  refine ⟨hastate, harelay, hacall.trans (congrArg some (incomingCall_of_outside hvout)), hadir, ?_, ?_,
    enterAlerting_context.trans hvcontext, ?_, ?_, fun hl => ?_, fun hh => ?_⟩
  · rw [haring, hvring, hring]; rfl
  · rw [haring]; rfl
  · rw [hfring', hfring, hkept', hvr, hkept, hvring, hburst, hsring, hr, hb, hclear]; rfl
  · rw [htrail', htrail, hclear]; rfl
  · rw [hfloop', hfloop, hvreal, hvl, hreal, hsloop hnot.1, hl, hclear]
    simp only [Signals.clear, Bool.false_or]
    cases (s.line i).realLoop <;> rfl
  · rw [hfhook', hfhook, hvh, hshook, hh, hclear]; rfl

/-- An OFFLINE line, reset: it stays there (R4). -/
theorem resetLine_offline (hst : (s.line i).state = .offline) : ((s.resetLine i).line i).state = .offline ∧
    ((s.line i).call = none → ((s.resetLine i).line i).relay = (s.line i).relay ∧
      ((s.resetLine i).line i).call = none ∧ ((s.resetLine i).line i).queue = {} ∧
      ((s.resetLine i).line i).signals = (s.line i).signals.clear) := by
  obtain ⟨c, hc, -, hstate, hrelay, hcall, -, -, hq, -, -, -, -, -, hoff⟩ := dropDone_line (s := s) (i := i)
  rw [resetLine_eq, if_pos hst]
  refine ⟨hstate.trans hst, fun hno => ⟨hrelay, hcall, hq.trans ?_, hoff hst hno⟩⟩
  obtain rfl : c = none := by simpa [hno] using hc.1
  rfl

/-! ## All lines reset -/

/-- A line reset among all of them: the others before it leave it settled, and those after it as it stands. -/
theorem foldl_resetLine (s : State) (i : LineId) : ∃ u : State, (u.line i).settled = (s.line i).settled ∧
    (allLines.foldl State.resetLine s).line i = (u.resetLine i).line i := by
  obtain ⟨as, bs, has, hbs, hsplit⟩ := foldl_allLines State.resetLine s i
  refine ⟨as.foldl State.resetLine s, foldl_settled (fun _ _ => resetLine_around) has s, ?_⟩
  have hkeep : ∀ (ls : List LineId), i ∉ ls → ∀ t : State, State.spares i t (ls.foldl State.resetLine t) := by
    intro ls
    induction ls with
    | nil => exact fun _ t => spares_refl t
    | cons j ls ih =>
      intro hi t
      exact (resetLine_spares (fun h : i = j => hi (h ▸ List.mem_cons_self))).trans
        (ih (fun h => hi (List.mem_cons_of_mem _ h)) _)
  rw [hsplit]
  exact (hkeep bs hbs _ resetLine_unasked).1

theorem foldl_resetLine_cleared {k : AreaId} (h : (s.area k).join ≠ none) :
    ((allLines.foldl State.resetLine s).area k).cleared := by
  obtain ⟨⟨i, p⟩, hip⟩ := Option.ne_none_iff_exists'.1 h
  obtain ⟨as, bs, -, -, hsplit⟩ := foldl_allLines State.resetLine s i
  have hall : ∀ (ls : List LineId) (t : State), t.emptier (ls.foldl State.resetLine t) :=
    foldl_emptier fun _ _ => resetLine_emptier
  rw [hsplit]
  refine (hall bs _ k).2 (resetLine_cleared (p := p) ?_)
  rw [(hall as s k).1, hip]

/-! ## The obligation -/

theorem runLineReset_one {d : Directive} (hl : lineOf? d.line = some i) (ha : d.args = []) :
    runLineReset d s = ⟨.ok, [], s.resetLine i⟩ := by
  rw [runLineReset, onLines_one (v := ()) hl (by rw [ha]; rfl)]
  rfl

theorem runLineReset_all {d : Directive} (hl : d.line = 0x0F) (ha : d.args = []) :
    runLineReset d s = ⟨.ok, [], allLines.foldl State.resetLine s⟩ := by
  rw [runLineReset, onLines_all (v := ()) hl (by rw [ha]; rfl)]
  rfl

/-- What the context of a line reset says of its fields. -/
theorem fields_of_context {l : Line} {p : Profile} (h : l.context = { profile := p }) :
    l.guard = none ∧ l.profile = p ∧ l.job = .none ∧ l.dialList = [] ∧ l.dialPos = 0 ∧ l.faxSource = none ∧
    l.substRing = false ∧ l.substLoop = true ∧ l.loopCount = 0 ∧ l.loopClass = none ∧ l.quality = {} ∧ l.link = {} ∧
    l.fax = {} ∧ l.voice = {} :=
  ⟨(congrArg Line.guard h :), (congrArg Line.profile h :), (congrArg Line.job h :), (congrArg Line.dialList h :),
    (congrArg Line.dialPos h :), (congrArg Line.faxSource h :), (congrArg Line.substRing h :),
    (congrArg Line.substLoop h :), (congrArg Line.loopCount h :), (congrArg Line.loopClass h :),
    (congrArg Line.quality h :), (congrArg Line.link h :), (congrArg Line.fax h :), (congrArg Line.voice h :)⟩

/-- A LINE_RESET of one line: what it leaves around the line, of the areas and of the DRAM. -/
theorem lineReset_one {d : Directive} {p : State → Prop} (hs : s.takes) (hl : lineOf? d.line = some i) (ha : d.args = [])
    (hp : ∀ t : State, t = { s with lines := t.lines, areas := t.areas, store := t.store, dram := t.dram } →
      tablesSame s t → t.dram = s.dram →
      (∀ k p, (s.area k).join = some (i, p) → (t.area k).fifo = [] ∧ (t.area k).marks = []) →
      t.line i = ((s.inHand 0x12 d).resetLine i).line i → p t) :
    repliesWith (exec (.lineReset d) s) s ⟨0x12, d.tag, .ok, []⟩ p := by
  have hrun := runLineReset_one (s := s.inHand 0x12 d) hl ha
  have hfr := resetLine_around (s := s.inHand 0x12 d) (i := i)
  have hdram := resetLine_dram (s := s.inHand 0x12 d) (i := i)
  have hareas : ∀ k p, (s.area k).join = some (i, p) → (((s.inHand 0x12 d).resetLine i).area k).cleared :=
    fun k p h => resetLine_cleared (s := s.inHand 0x12 d) (p := p) h
  generalize (s.inHand 0x12 d).resetLine i = t at *
  exact directive_around hs hrun hfr rfl (hp t.handDone (handDone_eq_of_outside hs (around_outside hfr))
    (handDone_tablesSame (around_outside hfr)) hdram hareas rfl)

/-- Settles O13: the part around the line by `resetLine_around`, the areas by `resetLine_cleared`, the line by
`resetLine_idle`, `resetLine_ringing` and `resetLine_offline`, its queue by `resetLine_report`. -/
theorem lineResetLeaves : Obligations.LineResetLeaves := by
  unfold Obligations.LineResetLeaves
  refine ⟨fun s i d hs hl ha hst hb hr => lineReset_one hs hl ha fun t heq htables hdram hareas hline => ?_,
    fun s i d hs hl ha hst hb hr => lineReset_one hs hl ha fun t heq htables hdram hareas hline => ?_,
    fun s i d hs hl ha hst hc => lineReset_one hs hl ha fun t heq htables hdram hareas hline => ?_,
    fun s d hs hl ha => ?_⟩
  · have hlost := resetLine_lost (s := s.inHand 0x12 d) (i := i)
    have hreport := fun c => resetLine_report (s := s.inHand 0x12 d) (i := i) (c := c)
    obtain ⟨hstate, hrelay, hcall, hdir, hcontext, hfring, htrail, hfloop, hfhook, hkinds⟩ :=
      resetLine_idle (s := s.inHand 0x12 d) (i := i) hst hb hr
    generalize ((s.inHand 0x12 d).resetLine i).line i = l at *
    obtain ⟨hguard, hprofile, hjob, hlist, hpos, hsource, hsring, hsloop, hcount, hcls, hquality, hlink, hfax, hvoice⟩ :=
      fields_of_context hcontext
    rw [hline]
    exact ⟨heq, hstate, hrelay, hcall, hdir, hguard, hprofile, hjob, hlist, hpos, hsource, hsring, hsloop, hcount, hcls,
      hquality, hlink, hfax, hvoice, hlost, htables, hdram, hfring, htrail, hfloop, hfhook, hreport,
      hkinds, hareas⟩
  · have hlost := resetLine_lost (s := s.inHand 0x12 d) (i := i)
    have hreport := fun c => resetLine_report (s := s.inHand 0x12 d) (i := i) (c := c)
    have hkinds := resetLine_kinds (s := s.inHand 0x12 d) (i := i)
    obtain ⟨hstate, hrelay, hcall, hdir, hburst, hclosed, hcontext, hfring, htrail, hfloop, hfhook⟩ :=
      resetLine_ringing (s := s.inHand 0x12 d) (i := i) hst hb hr
    generalize ((s.inHand 0x12 d).resetLine i).line i = l at *
    obtain ⟨hguard, hprofile, hjob, hlist, hpos, hsource, hsring, hsloop, hcount, hcls, hquality, hlink, hfax, hvoice⟩ :=
      fields_of_context hcontext
    rw [hline]
    exact ⟨heq, hstate, hrelay, hcall, hdir, hburst, hclosed, hguard, hprofile, hjob, hlist, hpos, hsource, hsring,
      hsloop, hcount, hcls, hquality, hlink, hfax, hvoice, hlost, htables, hdram, hfring, htrail, fun _ => hfloop,
      hfhook, hreport, hkinds, hareas⟩
  · obtain ⟨hstate, hrest⟩ := resetLine_offline (s := s.inHand 0x12 d) (i := i) hst
    obtain ⟨hrelay, hcall, hqueue, hsig⟩ := hrest hc
    have hprofile := profile_of_around (resetLine_around (s := s.inHand 0x12 d) (i := i)) i
    generalize ((s.inHand 0x12 d).resetLine i).line i = l at *
    rw [hline]
    exact ⟨heq, hstate, hrelay, hcall, hprofile, hqueue, hsig, htables, hdram, hareas⟩
  · have hrun := runLineReset_all (s := s.inHand 0x12 d) hl ha
    have hfr : (allLines.foldl State.resetLine (s.inHand 0x12 d)).outside = (s.inHand 0x12 d).outside :=
      foldl_outside (fun _ _ => resetLine_around) _ _
    have hdram : (allLines.foldl State.resetLine (s.inHand 0x12 d)).dram = s.dram :=
      foldl_keeps State.dram (fun _ _ _ => resetLine_dram) (s.inHand 0x12 d)
    have hareas : ∀ k, (s.area k).join ≠ none →
        ((allLines.foldl State.resetLine (s.inHand 0x12 d)).area k).cleared :=
      fun k h => foldl_resetLine_cleared (s := s.inHand 0x12 d) h
    have hline := foldl_resetLine (s.inHand 0x12 d)
    generalize allLines.foldl State.resetLine (s.inHand 0x12 d) = t at *
    refine directive_repliesWith hs hrun (decoder_of_outside hfr) (replies_of_outside hfr) rfl ?_
    simp only [handDone_line, handDone_dram, handDone_area]
    refine ⟨handDone_eq_of_outside hs hfr, handDone_tablesSame hfr, hdram, hareas, fun i => ?_⟩
    obtain ⟨u, hset, hu⟩ := hline i
    have hset' : (u.line i).settled = (s.line i).settled := hset
    have hstate : (u.line i).state = (s.line i).state := (congrArg Line.state hset' :)
    have hprofile : (u.line i).profile = (s.line i).profile := (congrArg Line.profile hset' :)
    have hcall : (u.line i).call = (s.line i).call := (congrArg Line.call hset' :)
    have hring : (u.line i).ring = (s.line i).ring := (congrArg Line.ring hset' :)
    have hsig : (u.line i).signals = (s.line i).signals := (congrArg Line.signals hset' :)
    rw [hu]
    refine ⟨(profile_of_around resetLine_around i).trans hprofile, resetLine_lost, fun h => ?_, fun hst hb hr => ?_⟩
    · exact (resetLine_offline (by rw [hstate, h])).1
    · obtain ⟨hidle, hrelay, hnone, hdir, hcontext, -⟩ :=
        resetLine_idle (s := u) (i := i) (by rwa [hstate]) (by rw [hring, hb]) (by rw [hsig, hr])
      obtain ⟨-, -, hjob, hlist, -, hsource, hsring, hsloop, -, -, hquality, hlink, hfax, hvoice⟩ :=
        fields_of_context hcontext
      exact ⟨hidle, hrelay, hnone, hdir, hjob, hsource, hlist, hlink, hfax, hvoice, hquality, hsring, hsloop,
        fun c hc hw => resetLine_report (by rw [hcall, hc]) (by rw [hprofile, hw])⟩

end Sys2Proof.Machine
end

section
/-! SUPPORT. The line profile (R5) is no line operation's to change: each function on a line keeps it. -/

namespace Sys2Proof.Machine

variable (l : Line)

@[simp] theorem modReceiver_profile (f : Fax → Fax) : (l.modReceiver f).profile = l.profile := by
  unfold Line.modReceiver
  split_ifs <;> rfl

@[simp] theorem truncatePage_profile : (l.truncatePage).profile = l.profile := by simp [Line.truncatePage]
@[simp] theorem sendDigit_profile (now : Ms) (d : Digit) : (l.sendDigit now d).profile = l.profile := by rfl
@[simp] theorem startQualifying_profile (now : Ms) : (l.startQualifying now).profile = l.profile := by rfl

@[simp] theorem ringChange_profile (now : Ms) (active : Bool) : (l.ringChange now active).profile = l.profile := by
  unfold Line.ringChange
  dsimp only
  split_ifs <;> (split <;> simp)

@[simp] theorem loopChange_profile (now : Ms) : (l.loopChange now).profile = l.profile := by rfl
@[simp] theorem recordsFrom_profile (now : Ms) : (l.recordsFrom now).profile = l.profile := by rfl
@[simp] theorem aim_profile (now : Ms) : (l.aim now).profile = l.profile := by rfl

@[simp] theorem noteData_profile (now : Ms) (seq : Nat) : (l.noteData now seq).profile = l.profile := by
  unfold Line.noteData
  dsimp only
  split_ifs <;> simp

@[simp] theorem kick_profile (now : Ms) : (l.kick now).profile = l.profile := by
  unfold Line.kick
  split
  · rfl
  · split
    · rfl
    · dsimp only
      split <;> simp

@[simp] theorem renegotiate_profile (now : Ms) (target : Nat) (cause : RateCause) :
    (l.renegotiate now target cause).profile = l.profile := by
  simp [Line.renegotiate]

@[simp] theorem retrain_profile (now : Ms) (target : Nat) (kind : TryKind) :
    (l.retrain now target kind).profile = l.profile := by
  rfl

@[simp] theorem abandonRate_profile (now : Ms) : (l.abandonRate now).profile = l.profile := by
  unfold Line.abandonRate
  split <;> rfl

@[simp] theorem sendEnd_profile (now : Ms) : (l.sendEnd now).profile = l.profile := by simp [Line.sendEnd]

@[simp] theorem endDrain_profile (now : Ms) : (l.endDrain now).profile = l.profile := by
  unfold Line.endDrain
  dsimp only
  split_ifs <;> simp

@[simp] theorem enterOutcome_profile (now : Ms) (o : TryOutcome) : (l.enterOutcome now o).profile = l.profile := by
  unfold Line.enterOutcome
  dsimp only
  split_ifs <;> simp

theorem foldl_enterOutcome_profile {α : Type} (now : Ms) (f : α → TryOutcome) (es : List α) :
    (es.foldl (fun acc e => Line.enterOutcome now acc (f e)) l).profile = l.profile := by
  induction es generalizing l with
  | nil => rfl
  | cons e es ih => rw [List.foldl_cons, ih, enterOutcome_profile]

@[simp] theorem acknowledge_profile (now : Ms) (n : Nat) : (l.acknowledge now n).profile = l.profile := by
  unfold Line.acknowledge
  dsimp only
  split
  · rfl
  · rw [aim_profile, foldl_enterOutcome_profile]

@[simp] theorem makeAckDue_profile (now : Ms) : (l.makeAckDue now).profile = l.profile := by
  unfold Line.makeAckDue
  split <;> rfl

@[simp] theorem pausePeer_profile : (l.pausePeer).profile = l.profile := by
  unfold Line.pausePeer
  split <;> rfl

@[simp] theorem holdFrame_profile (q : Nat) (bs : List Byte) : (l.holdFrame q bs).profile = l.profile := by
  unfold Line.holdFrame
  dsimp only
  split_ifs <;> simp

@[simp] theorem trained_profile (now : Ms) (qt : Nat) : (l.trained now qt).profile = l.profile := by rfl

@[simp] theorem modHalf_profile (r : FaxRole) (f : Fax → Fax) : (l.modHalf r f).profile = l.profile := by
  unfold Line.modHalf
  split
  · split_ifs <;> rfl
  · simp

@[simp] theorem halfToneOff_profile (r : FaxRole) : (l.halfToneOff r).profile = l.profile := by
  unfold Line.halfToneOff
  split <;> rfl

@[simp] theorem noEcho_profile : (l.noEcho).profile = l.profile := by rfl

@[simp] theorem halfStageOff_profile (r : FaxRole) : (l.halfStageOff r).profile = l.profile := by
  unfold Line.halfStageOff
  split <;> rfl

@[simp] theorem bindFax_profile (ladder : List LadderStep) : (l.bindFax ladder).profile = l.profile := by rfl

@[simp] theorem faxRecord_profile (r : MeasRecord) : (l.faxRecord r).profile = l.profile := by
  unfold Line.faxRecord
  split
  · rfl
  · split
    · exact modReceiver_profile _ _
    · rfl

@[simp] theorem startCoding_profile (r : Recording) : (l.startCoding r).profile = l.profile := by rfl

@[simp] theorem openWindow_profile : (l.openWindow).profile = l.profile := by
  unfold Line.openWindow
  split <;> rfl

@[simp] theorem closeCycle_profile (now : Ms) (patterns : List (List (Ms × Ms))) :
    (l.closeCycle now patterns).profile = l.profile := by
  unfold Line.closeCycle
  split_ifs <;> rfl

@[simp] theorem countRingback_profile : (l.countRingback).profile = l.profile := by rfl
@[simp] theorem noLoopback_profile : (l.noLoopback).profile = l.profile := by rfl
@[simp] theorem resetEngines_profile : (l.resetEngines).profile = l.profile := by rfl

@[simp] theorem realSignals_profile : (l.realSignals).profile = l.profile := by
  unfold Line.realSignals
  split <;> rfl

@[simp] theorem takeOverride_profile (o : HostOverride) (mark : RoutingCopy → RoutingCopy) :
    (l.takeOverride o mark).profile = l.profile := by
  rfl

@[simp] theorem sendNext_profile (now : Ms) : (l.sendNext now).profile = l.profile := by
  unfold Line.sendNext
  split <;> rfl

@[simp] theorem steadyRecord_profile (ladder : List LadderStep) (r : MeasRecord) :
    (l.steadyRecord ladder r).profile = l.profile := by
  unfold Line.steadyRecord Quality.updateRuns
  rfl

@[simp] theorem unscoredCheck_profile : (l.unscoredCheck).profile = l.profile := by simp [Line.unscoredCheck]

@[simp] theorem nextInterval_profile (now : Ms) : (l.nextInterval now).profile = l.profile := by
  unfold Line.nextInterval
  split <;> rfl

@[simp] theorem trainRecord_profile (now : Ms) (r : MeasRecord) : (l.trainRecord now r).profile = l.profile := by
  unfold Line.trainRecord
  split <;> rfl

@[simp] theorem sendRateOk_profile (p : Nat) : (l.sendRateOk p).profile = l.profile := by rfl
@[simp] theorem peerRate_profile : (l.peerRate).profile = l.profile := by rfl
@[simp] theorem dataCarrier_profile (now : Ms) (on : Bool) : (l.dataCarrier now on).profile = l.profile := by rfl
@[simp] theorem resend_profile (e : SendEntry) : (l.resend e).profile = l.profile := by rfl
@[simp] theorem resume_profile : (l.resume).profile = l.profile := by rfl
@[simp] theorem farCloses_profile (now : Ms) : (l.farCloses now).profile = l.profile := by simp [Line.farCloses]
@[simp] theorem countCoded_profile (n : Nat) : (l.countCoded n).profile = l.profile := by rfl
@[simp] theorem busyFrame_profile : (l.busyFrame).profile = l.profile := by rfl
@[simp] theorem endFrame_profile (now : Ms) (p : Int) : (l.endFrame now p).profile = l.profile := by rfl

end Sys2Proof.Machine
end

section
/-! SUPPORT. What only its own directives change (R5, R11, R24, R47, R79), with the time and the commands waiting: the
tables and the profiles, as one projection that every other operation keeps. -/

namespace Sys2Proof.Machine

/-- The time, the commands waiting, the tables and the line profiles. -/
structure Fixed where
  now : Ms
  pending : List Instr
  toneTable : List ToneEntry
  patterns : List (List (Ms × Ms))
  routes : List RouteEntry
  dataLadder : List LadderStep
  faxLadder : List LadderStep
  profiles : LineId → Profile

def State.fixed (s : State) : Fixed :=
  ⟨s.now, s.pending, s.toneTable, s.patterns, s.routes, s.dataLadder, s.faxLadder, fun i => (s.line i).profile⟩

variable {s t : State} {i j : LineId}

theorem fixed_of_around (h : t.around i = s.around i) : t.fixed = s.fixed := by
  have hout := around_outside h
  have hprofile : (fun j => (t.line j).profile) = fun j => (s.line j).profile := funext (profile_of_around h)
  have heq : t.fixed = { t.outside.fixed with profiles := fun j => (t.line j).profile } := rfl
  rw [heq, hout, hprofile]
  rfl

theorem fixed_of_without (h : t.without i = s.without i) (hp : (t.line i).profile = (s.line i).profile) :
    t.fixed = s.fixed := fixed_of_around (around_of_without h hp)

variable (s i j)

@[simp] theorem ite_fixed (c : Prop) [Decidable c] : (if c then s else t).fixed = if c then s.fixed else t.fixed :=
  apply_ite State.fixed c s t

@[simp] theorem modLine_fixed {f : Line → Line} (h : ∀ l, (f l).profile = l.profile) :
    (s.modLine i f).fixed = s.fixed := fixed_of_around (modLine_around s i h)

@[simp] theorem setArea_fixed (k : AreaId) (a : Area) : (s.setArea k a).fixed = s.fixed := rfl
@[simp] theorem modArea_fixed (k : AreaId) (f : Area → Area) : (s.modArea k f).fixed = s.fixed := rfl
@[simp] theorem modEntry_fixed (id : Nat) (f : Entry → Entry) : (s.modEntry id f).fixed = s.fixed := rfl
@[simp] theorem request_fixed (r : BlockRequest) : (s.request r).fixed = s.fixed := rfl
@[simp] theorem reply_fixed (r : Reply) : (s.reply r).fixed = s.fixed := rfl
@[simp] theorem notifyPart_fixed (n : Notice) : (s.notifyPart n).fixed = s.fixed := rfl

/-! ## The operations of lines, areas and the store, and the end of a call -/

@[simp] theorem notifyLine_fixed (n : Notice) : (s.notifyLine i n).fixed = s.fixed :=
  fixed_of_around (i := i) (by simp)

@[simp] theorem dropHost_fixed (n : Nat) : (s.dropHost i n).fixed = s.fixed := fixed_of_around (i := i) (by simp)
@[simp] theorem overrun_fixed (n : Nat) : (s.overrun i n).fixed = s.fixed := fixed_of_around (i := i) (by simp)

@[simp] theorem setSignals_fixed (ring loop carrier hook trail : Bool) :
    (s.setSignals i ring loop carrier hook trail).fixed = s.fixed :=
  fixed_of_around (i := i) (by simp)

@[simp] theorem signalRing_fixed (v trail : Bool) : (s.signalRing i v trail).fixed = s.fixed :=
  fixed_of_around (i := i) (by simp)

@[simp] theorem signalLoop_fixed (v : Bool) : (s.signalLoop i v).fixed = s.fixed := fixed_of_around (i := i) (by simp)

@[simp] theorem signalCarrier_fixed (v : Bool) : (s.signalCarrier i v).fixed = s.fixed :=
  fixed_of_around (i := i) (by simp)

@[simp] theorem setFlow_fixed (k : AreaId) (f : FlowState) : (s.setFlow k f).fixed = s.fixed :=
  fixed_of_around (i := 0) (by simp)

@[simp] theorem takeMark_fixed (k : AreaId) : (s.takeMark k).fixed = s.fixed := rfl
@[simp] theorem emptyArea_fixed (k : AreaId) : (s.emptyArea k).fixed = s.fixed := fixed_of_around (i := 0) (by simp)
@[simp] theorem emptyStage_fixed : (s.emptyStage i).fixed = s.fixed := fixed_of_around (i := i) (by simp)

@[simp] theorem setContent_fixed (p : Purpose) (k : AreaId) (c : ContentKind) :
    (s.setContent i p k c).fixed = s.fixed :=
  fixed_of_around (i := i) (by simp)

@[simp] theorem useArea_fixed (c : ContentKind) (p : Purpose) : (State.useArea c i s p).fixed = s.fixed :=
  fixed_of_around (i := i) (by simp)

@[simp] theorem useAreas_fixed (ps : List Purpose) (c : ContentKind) : (s.useAreas i ps c).fixed = s.fixed :=
  fixed_of_around (i := i) (by simp)

@[simp] theorem releaseAreas_fixed : (s.releaseAreas i).fixed = s.fixed := rfl

@[simp] theorem resetArea_fixed (k : AreaId) : (State.resetArea i s k).fixed = s.fixed :=
  fixed_of_around (i := i) (by simp)

@[simp] theorem resetAreas_fixed : (s.resetAreas i).fixed = s.fixed := fixed_of_around (resetAreas_around s i i)

@[simp] theorem storeBytes_fixed (id : Nat) (bs : List Byte) : (s.storeBytes id bs).fixed = s.fixed :=
  fixed_of_around (i := 0) (by simp)

@[simp] theorem allocate_fixed (id n : Nat) : (s.allocate id n).fixed = s.fixed := fixed_of_around (i := 0) (by simp)
@[simp] theorem markPlaying_fixed (id : Nat) : (s.markPlaying id i).fixed = s.fixed := rfl
@[simp] theorem markFaxing_fixed (id : Nat) : (s.markFaxing id i).fixed = s.fixed := rfl
@[simp] theorem clearPlaying_fixed : (s.clearPlaying i).fixed = s.fixed := rfl
@[simp] theorem clearFaxing_fixed : (s.clearFaxing i).fixed = s.fixed := rfl

@[simp] theorem refuseBlock_fixed (k : RequestKind) : (s.refuseBlock i k).fixed = s.fixed :=
  fixed_of_around (i := i) (by simp)

@[simp] theorem serveRequest_fixed : s.serveRequest.fixed = s.fixed := fixed_of_around (i := 0) (by simp)
@[simp] theorem serveAll_fixed : s.serveAll.fixed = s.fixed := fixed_of_around (i := 0) (by simp)
@[simp] theorem withdraw_fixed : (s.withdraw i).fixed = s.fixed := rfl

@[simp] theorem unlinkTail_fixed (id keep : Nat) : (s.unlinkTail id keep).fixed = s.fixed :=
  fixed_of_around (i := 0) (by simp)

@[simp] theorem freeTail_fixed (id keep : Nat) : (s.freeTail id keep).fixed = s.fixed :=
  fixed_of_around (i := 0) (by simp)

@[simp] theorem trimEntry_fixed (id n : Nat) : (s.trimEntry id n).fixed = s.fixed :=
  fixed_of_around (i := 0) (by simp)

@[simp] theorem deleteEntry_fixed (id : Nat) : (s.deleteEntry id).fixed = s.fixed :=
  fixed_of_around (i := 0) (by simp)

@[simp] theorem finishEntry_fixed (id : Nat) (why : EntryEnd) : (s.finishEntry id why).fixed = s.fixed :=
  fixed_of_around (i := 0) (by simp)

@[simp] theorem closeEntry_fixed (id : Nat) (why : EntryEnd) : (s.closeEntry id why).fixed = s.fixed :=
  fixed_of_around (i := 0) (by simp)

@[simp] theorem stageWrite_fixed : (s.stageWrite i).fixed = s.fixed := fixed_of_around (i := i) (by simp)
@[simp] theorem stageFill_fixed : (s.stageFill i).fixed = s.fixed := fixed_of_around (i := i) (by simp)

@[simp] theorem startWriting_fixed (id : Nat) : (s.startWriting i id).fixed = s.fixed :=
  fixed_of_around (i := i) (by simp)

@[simp] theorem startReading_fixed (id pos len : Nat) : (s.startReading i id pos len).fixed = s.fixed :=
  fixed_of_around (i := i) (by simp)

@[simp] theorem leaveStage_fixed : (s.leaveStage i).fixed = s.fixed := fixed_of_around (i := i) (by simp)
@[simp] theorem stopStage_fixed : (s.stopStage i).fixed = s.fixed := fixed_of_around (i := i) (by simp)

@[simp] theorem generate_fixed (c : ToneClass) (len : Ms) : (s.generate i c len).fixed = s.fixed :=
  fixed_of_around (i := i) (by simp)

@[simp] theorem generateEcho_fixed (c : ToneClass) (len : Ms) : (s.generateEcho i c len).fixed = s.fixed :=
  fixed_of_around (i := i) (by simp)

@[simp] theorem pass_fixed (st : LineState) : (s.pass i st).fixed = s.fixed := fixed_of_around (i := i) (by simp)
@[simp] theorem openRelay_fixed : (s.openRelay i).fixed = s.fixed := fixed_of_around (i := i) (by simp)
@[simp] theorem closeRelay_fixed : (s.closeRelay i).fixed = s.fixed := fixed_of_around (i := i) (by simp)

@[simp] theorem completeStored_fixed (r : Recording) (id : Nat) (why : RecEnd) (newLen : Nat) :
    (s.completeStored i r id why newLen).fixed = s.fixed :=
  fixed_of_around (i := i) (by simp)

@[simp] theorem discardRecording_fixed (r : Recording) : (s.discardRecording i r).fixed = s.fixed :=
  fixed_of_around (i := i) (by simp)

@[simp] theorem completeHost_fixed (r : Recording) (why : RecEnd) : (s.completeHost i r why).fixed = s.fixed :=
  fixed_of_around (i := i) (by simp)

@[simp] theorem completeRecording_fixed : (s.completeRecording i).fixed = s.fixed :=
  fixed_of_around (i := i) (by simp)

@[simp] theorem endRecording_fixed (why : RecEnd) (newLen : Nat) (next : AfterRec) :
    (s.endRecording i why newLen next).fixed = s.fixed :=
  fixed_of_around (i := i) (by simp)

@[simp] theorem endPlayback_fixed (why : PlayEnd) : (s.endPlayback i why).fixed = s.fixed :=
  fixed_of_around (i := i) (by simp)

@[simp] theorem leaveGreeting_fixed : (s.leaveGreeting i).fixed = s.fixed := fixed_of_around (i := i) (by simp)
@[simp] theorem stopGreeting_fixed : (s.stopGreeting i).fixed = s.fixed := fixed_of_around (i := i) (by simp)

@[simp] theorem stopVoice_fixed (rec : RecEnd) (pl : PlayEnd) : (s.stopVoice i rec pl).fixed = s.fixed :=
  fixed_of_around (i := i) (by simp)

@[simp] theorem addPage_fixed (id : Nat) (p : PageRecord) : (s.addPage id p).fixed = s.fixed := rfl

@[simp] theorem closeFaxEntry_fixed (why : EndReason) : (s.closeFaxEntry i why).fixed = s.fixed :=
  fixed_of_around (i := i) (by simp)

@[simp] theorem stopEngine_fixed (why : EndReason) : (s.stopEngine i why).fixed = s.fixed :=
  fixed_of_around (i := i) (by simp)

@[simp] theorem reportEnd_fixed : (s.reportEnd i).fixed = s.fixed := fixed_of_around (i := i) (by simp)

@[simp] theorem callEnd_fixed (why : EndReason) : (s.callEnd i why).fixed = s.fixed :=
  fixed_of_around (i := i) (by simp)

@[simp] theorem enterRelease_fixed : (s.enterRelease i).fixed = s.fixed := fixed_of_around (i := i) (by simp)

@[simp] theorem release_fixed (why : EndReason) : (s.release i why).fixed = s.fixed :=
  fixed_of_around (i := i) (by simp)

@[simp] theorem checkDrain_fixed : (s.checkDrain i).fixed = s.fixed := by simp [State.checkDrain]
@[simp] theorem pump_fixed : (s.pump i).fixed = s.fixed := by simp [State.pump]

end Sys2Proof.Machine
end

section
/-! SUPPORT. The data calls keep the tables, the profiles and the commands waiting (R81 to R116). -/

namespace Sys2Proof.Machine

variable (s : State) (i : LineId)

theorem setLine_fixed {l : Line} (h : l.profile = (s.line i).profile) : (s.setLine i l).fixed = s.fixed :=
  fixed_of_around (setLine_around s i h)

@[simp] theorem append_fixed (k : AreaId) (bs : List Byte) : (s.append k bs).1.fixed = s.fixed :=
  fixed_of_around (append_around s 0 k bs)

@[simp] theorem remove_fixed (k : AreaId) (n : Nat) : (s.remove k n).2.fixed = s.fixed :=
  fixed_of_around (remove_around s 0 k n)

theorem afterRaise_fixed (raised : List Nat) {l : Line} (h : l.profile = (s.line i).profile) :
    (s.afterRaise i raised l).fixed = s.fixed := by
  unfold State.afterRaise
  split_ifs
  · rw [release_fixed, setLine_fixed s i h]
  · exact setLine_fixed s i ((kick_profile l s.now).trans h)

@[simp] theorem appendRx_fixed (bs : List Byte) : (s.appendRx i bs).fixed = s.fixed := by
  unfold State.appendRx
  split
  · exact append_fixed s _ _
  · rfl

@[simp] theorem deliver_fixed (payload : List Byte) : (s.deliver i payload).fixed = s.fixed := by simp [State.deliver]

@[simp] theorem deliverHeld_fixed : ∀ (n : Nat) (s : State), (deliverHeld i n s).fixed = s.fixed
  | 0, _ => rfl
  | n + 1, s => by
    rw [deliverHeld]
    split
    · rfl
    · dsimp only
      split_ifs
      · rfl
      · rw [deliverHeld_fixed n]; simp
      · simp

@[simp] theorem receiveData_fixed (q : Nat) (bs : List Byte) : (s.receiveData i q bs).fixed = s.fixed := by
  unfold State.receiveData
  dsimp only
  split_ifs <;> simp

@[simp] theorem checkResume_fixed : (s.checkResume i).fixed = s.fixed := by
  unfold State.checkResume
  split <;> simp

@[simp] theorem formFrame_fixed : (s.formFrame i).fixed = s.fixed := by
  unfold State.formFrame
  split
  · rfl
  · dsimp only
    rw [pump_fixed, modLine_fixed, remove_fixed]
    exact fun _ => rfl

@[simp] theorem startData_fixed (role : LinkRole) : (s.startData i role).fixed = s.fixed := by
  unfold State.startData
  dsimp only
  split
  · simp
  · split <;> simp

@[simp] theorem completeExchange_fixed (peer : Capability) : (s.completeExchange i peer).fixed = s.fixed := by
  unfold State.completeExchange
  dsimp only
  split <;> simp

@[simp] theorem tryFailed_fixed : (s.tryFailed i).fixed = s.fixed := by simp [State.tryFailed]

@[simp] theorem trySucceeded_fixed (qt : Nat) : (s.trySucceeded i qt).fixed = s.fixed := by
  unfold State.trySucceeded
  dsimp only
  split <;> simp

@[simp] theorem hangUpData_fixed (drain : Bool) : (s.hangUpData i drain).fixed = s.fixed := by
  unfold State.hangUpData
  dsimp only
  split
  · rfl
  · split
    · rfl
    · split_ifs <;> simp
    · split_ifs <;> simp
    · simp

end Sys2Proof.Machine
end

section
/-! SUPPORT. The fax calls keep the tables, the profiles and the commands waiting (R117 to R138). -/

namespace Sys2Proof.Machine

variable (s : State) (i : LineId)

@[simp] theorem modFax_fixed (r : FaxRole) (f : Fax → Fax) : (s.modFax i r f).fixed = s.fixed := by simp [State.modFax]

@[simp] theorem endFax_fixed (r : FaxRole) (why : EndReason) : (s.endFax i r why).fixed = s.fixed := by
  unfold State.endFax
  split <;> simp

@[simp] theorem hangUpFax_fixed : (s.hangUpFax i).fixed = s.fixed := by
  unfold State.hangUpFax
  split <;> simp

@[simp] theorem startFaxReceiver_fixed : (s.startFaxReceiver i).fixed = s.fixed := by simp [State.startFaxReceiver]
@[simp] theorem startFaxEcho_fixed : (s.startFaxEcho i).fixed = s.fixed := by simp [State.startFaxEcho]
@[simp] theorem startFaxSender_fixed : (s.startFaxSender i).fixed = s.fixed := by simp [State.startFaxSender]

@[simp] theorem beginStorePage_fixed : (s.beginStorePage i).fixed = s.fixed := by
  unfold State.beginStorePage
  dsimp only
  split <;> simp

@[simp] theorem nextPage_fixed : (s.nextPage i).fixed = s.fixed := by
  unfold State.nextPage
  dsimp only
  split <;> simp

@[simp] theorem pageEnds_fixed (m : PageMark) : (s.pageEnds i m).fixed = s.fixed := by simp [State.pageEnds]
@[simp] theorem faxTxArrives_fixed : (s.faxTxArrives i).fixed = s.fixed := by simp [State.faxTxArrives]
@[simp] theorem retrainFax_fixed (q : Nat) : (s.retrainFax i q).fixed = s.fixed := by simp [State.retrainFax]

theorem openEntry_fixed {s t : State} {kind : MsgKind} {mailbox id : Nat} {o : Option LineId} {cid : Option CidRecord}
    {bits : Option Nat} (h : s.openEntry kind mailbox o cid bits = .ok (id, t)) : t.fixed = s.fixed :=
  fixed_of_around (i := 0) (openEntry_around s 0 h)

theorem addMark_fixed {s t : State} {k : AreaId} {m : PageMark} (h : s.addMark k m = some t) : t.fixed = s.fixed := by
  unfold State.addMark at h
  split_ifs at h
  obtain rfl := Option.some.inj h
  rfl

theorem foldl_fixed {α : Type} {f : State → α → State} (h : ∀ s a, (f s a).fixed = s.fixed) (as : List α) (s : State) :
    (as.foldl f s).fixed = s.fixed := by
  induction as generalizing s with
  | nil => rfl
  | cons a as ih => rw [List.foldl_cons, ih, h]

@[simp] theorem drainStage_fixed (n : Nat) : (State.drainStage i n s).fixed = s.fixed :=
  fixed_of_around (drainStage_around i i n s)

@[simp] theorem openFaxEntry_fixed : (s.openFaxEntry i).fixed = s.fixed := by
  unfold State.openFaxEntry
  dsimp only
  split
  · rfl
  · split
    · simp
    · rename_i h
      simp [openEntry_fixed h]

@[simp] theorem beginStoredPage_fixed : (s.beginStoredPage i).fixed = s.fixed := by
  unfold State.beginStoredPage
  dsimp only
  split <;> simp

@[simp] theorem beginReceived_fixed : (s.beginReceived i).fixed = s.fixed := by simp [State.beginReceived]

@[simp] theorem ensurePage_fixed : (s.ensurePage i).fixed = s.fixed := by
  unfold State.ensurePage
  split <;> simp

@[simp] theorem putPage_fixed (bs : List Byte) : (s.putPage i bs).1.fixed = s.fixed := by
  unfold State.putPage
  dsimp only
  split
  · split
    · rfl
    · split <;> simp
  · split
    · split
      · rfl
      · split <;> simp
    · rfl

@[simp] theorem receivePage_fixed (bs : List Byte) : (s.receivePage i bs).fixed = s.fixed := by
  unfold State.receivePage
  simp

theorem deliverFrame_fixed (s : State) (payload : List Byte) : (State.deliverFrame i s payload).fixed = s.fixed := by
  unfold State.deliverFrame
  dsimp only
  split <;> simp

@[simp] theorem deliverBlock_fixed (count : Nat) : (s.deliverBlock i count).fixed = s.fixed := by
  unfold State.deliverBlock
  split
  · rfl
  · dsimp only
    split <;> simp [foldl_fixed (deliverFrame_fixed i)]

@[simp] theorem beginBlock_fixed (number : Nat) : (s.beginBlock i number).fixed = s.fixed := by
  unfold State.beginBlock
  dsimp only
  split <;> simp

@[simp] theorem recordPage_fixed (v : Verdict) : (s.recordPage i v).fixed = s.fixed := by
  unfold State.recordPage
  dsimp only
  split <;> simp

@[simp] theorem markPage_fixed (m : PageMark) : (s.markPage i m).fixed = s.fixed := by
  unfold State.markPage
  split
  · dsimp only
    split
    · simp
    · split
      · rename_i h
        obtain ⟨k, -, hk⟩ := Option.bind_eq_some_iff.1 h
        exact addMark_fixed hk
      · simp
  · rfl

@[simp] theorem addHeldMark_fixed : (s.addHeldMark i).fixed = s.fixed := by
  unfold State.addHeldMark
  split
  · split
    · rename_i h
      simp [addMark_fixed h]
    · rfl
  · rfl

@[simp] theorem reportPage_fixed (v : Verdict) : (s.reportPage i v).fixed = s.fixed := by
  unfold State.reportPage
  split <;> simp

@[simp] theorem closeReceived_fixed (last : Bool) : (s.closeReceived i last).fixed = s.fixed := by
  unfold State.closeReceived
  dsimp only
  split <;> simp

@[simp] theorem faxConnected_fixed (r : FaxRole) (f : Fax) : (s.faxConnected i r f).fixed = s.fixed := by
  simp [State.faxConnected]

@[simp] theorem trainGood_fixed (f : Fax) (qt : Nat) : (s.trainGood i f qt).fixed = s.fixed := by
  unfold State.trainGood
  dsimp only
  split <;> (split <;> simp)

@[simp] theorem trainBad_fixed : (s.trainBad i).fixed = s.fixed := by simp [State.trainBad]
@[simp] theorem handOver_fixed : (s.handOver i).fixed = s.fixed := by simp [State.handOver]
@[simp] theorem afterAuto_fixed : (s.afterAuto i).fixed = s.fixed := by simp [State.afterAuto]
@[simp] theorem afterStop_fixed : (s.afterStop i).fixed = s.fixed := by simp [State.afterStop]
@[simp] theorem switchToFax_fixed : (s.switchToFax i).fixed = s.fixed := by simp [State.switchToFax]

end Sys2Proof.Machine
end

section
/-! SUPPORT. Voice calls, routing, ringing, dialling and tones keep the tables, the profiles and the commands
waiting. -/

namespace Sys2Proof.Machine

variable (s : State) (i : LineId)

@[simp] theorem modLine_modCall_fixed (f : Line → CallRecord → CallRecord) :
    (s.modLine i fun l => l.modCall (f l)).fixed = s.fixed := modLine_fixed s i fun _ => rfl

@[simp] theorem afterRecording_fixed (next : AfterRec) : (s.afterRecording i next).fixed = s.fixed := by
  cases next
  · exact afterAuto_fixed s i
  · exact switchToFax_fixed s i
  · exact afterStop_fixed s i
  · rfl

@[simp] theorem finishRecording_fixed (why : RecEnd) (newLen : Nat) (next : AfterRec) :
    (s.finishRecording i why newLen next).fixed = s.fixed := by
  unfold State.finishRecording
  split
  · rfl
  · dsimp only
    split_ifs <;> simp

@[simp] theorem beginStored_fixed (kind : MsgKind) (mailbox : Nat) (watch : Bool) :
    (s.beginStored i kind mailbox watch).fixed = s.fixed := by
  unfold State.beginStored
  dsimp only
  split
  · simp
  · rename_i h
    simp [openEntry_fixed h]

@[simp] theorem beginHosted_fixed : (s.beginHosted i).fixed = s.fixed := by simp [State.beginHosted]

@[simp] theorem beginAutoRecording_fixed : (s.beginAutoRecording i).fixed = s.fixed := by
  simp [State.beginAutoRecording]

@[simp] theorem startRecordTone_fixed : (s.startRecordTone i).fixed = s.fixed := by simp [State.startRecordTone]

@[simp] theorem startGreeting_fixed : (s.startGreeting i).1.fixed = s.fixed := by
  unfold State.startGreeting
  dsimp only
  split <;> simp

theorem startGreeting_eq_fixed {s t : State} {i : LineId} {b : Bool} (h : s.startGreeting i = (t, b)) :
    s.fixed = t.fixed := by
  rw [← startGreeting_fixed s i, h]

@[simp] theorem openingTone_fixed (c : ToneClass) : (s.openingTone i c).fixed = s.fixed := by simp [State.openingTone]

@[simp] theorem recordingTone_fixed (r : Recording) (c : ToneClass) (first : Nat) :
    (s.recordingTone i r c first).fixed = s.fixed := by
  simp [State.recordingTone]

@[simp] theorem voiceTone_fixed (c : ToneClass) (first : Nat) : (s.voiceTone i c first).fixed = s.fixed := by
  unfold State.voiceTone
  dsimp only
  split_ifs
  · rfl
  · simp
  · split <;> simp

@[simp] theorem bargeIn_fixed : (s.bargeIn i).fixed = s.fixed := by
  unfold State.bargeIn
  dsimp only
  split <;> simp

@[simp] theorem voiceDigit_fixed (d : Digit) : (s.voiceDigit i d).fixed = s.fixed := by
  unfold State.voiceDigit
  dsimp only
  split
  · rfl
  · split
    · split <;> simp
    · split <;> simp
    · split <;> simp
    · simp
    · rfl

@[simp] theorem playEntry_fixed (e : Entry) (pos : Nat) : (s.playEntry i e pos).fixed = s.fixed := by
  simp [State.playEntry]

@[simp] theorem playFrom_fixed : ∀ (ids : List Nat) (pos : Nat) (s : State),
    (State.playFrom i ids pos s).fixed = s.fixed
  | [], _, s => endPlayback_fixed s i .done
  | id :: ids, pos, s => by
    rw [State.playFrom]
    split
    · simp
    · rw [playFrom_fixed ids, modLine_fixed]
      exact fun _ => rfl

@[simp] theorem entryPlayed_fixed : (s.entryPlayed i).fixed = s.fixed := by
  unfold State.entryPlayed
  split
  · rfl
  · split
    · rfl
    · simp

@[simp] theorem recordFrame_fixed (silent : Bool) : (s.recordFrame i silent).fixed = s.fixed := by
  unfold State.recordFrame
  split <;> simp

@[simp] theorem clockFromCid_fixed (d : CidDate) : (s.clockFromCid d).fixed = s.fixed := rfl

@[simp] theorem closeWindowOn_fixed (r : CidRecord) : (s.closeWindowOn i r).fixed = s.fixed := by
  unfold State.closeWindowOn
  dsimp only
  split
  · rfl
  · split
    · split <;> simp
    · split <;> simp

@[simp] theorem closeWindow_fixed : (s.closeWindow i).fixed = s.fixed := fixed_of_around (i := i) (by simp)

@[simp] theorem enterJob_fixed (j : Job) : (s.enterJob i j).fixed = s.fixed := by
  unfold State.enterJob
  split <;> simp

@[simp] theorem classResult_fixed (j : Job) (b : Basis) : (s.classResult i j b).fixed = s.fixed := by
  simp [State.classResult]

@[simp] theorem finding_fixed (j : Job) (b : Basis) : (s.finding i j b).fixed = s.fixed := by simp [State.finding]

@[simp] theorem greetingOver_fixed : (s.greetingOver i).fixed = s.fixed := by
  unfold State.greetingOver
  dsimp only
  split <;> simp

@[simp] theorem enterClassify_fixed : (s.enterClassify i).fixed = s.fixed := by
  unfold State.enterClassify
  dsimp only
  split
  · simp
  · split_ifs
    · simp
    · split
      · rename_i h
        rw [← startGreeting_eq_fixed h]
        simp
      · rename_i h
        rw [finding_fixed, ← startGreeting_eq_fixed h]
        simp
    · simp
    · simp

@[simp] theorem tryAnswer_fixed : (s.tryAnswer i).fixed = s.fixed := by
  unfold State.tryAnswer
  dsimp only
  split <;> simp

@[simp] theorem makeCopy_fixed : (s.makeCopy i).fixed = s.fixed := by simp [State.makeCopy]
@[simp] theorem decide_fixed : (s.decide? i).fixed = s.fixed := by simp [State.decide?]

@[simp] theorem hostAnswer_fixed : (s.hostAnswer i).fixed = s.fixed := by
  unfold State.hostAnswer
  dsimp only
  split <;> simp

@[simp] theorem enterAlerting_fixed : (s.enterAlerting i).fixed = s.fixed := by simp [State.enterAlerting]
@[simp] theorem enterIdle_fixed : (s.enterIdle i).fixed = s.fixed := by simp [State.enterIdle]

@[simp] theorem nextCycle_fixed : (s.nextCycle i).fixed = s.fixed := by
  unfold State.nextCycle
  dsimp only
  split <;> (split <;> simp)

@[simp] theorem loopCycle_fixed : (s.loopCycle i).fixed = s.fixed := by simp [State.loopCycle]

@[simp] theorem burstBegins_fixed (t : Ms) : (s.burstBegins i t).fixed = s.fixed := by
  unfold State.burstBegins
  dsimp only
  split <;> simp

@[simp] theorem burstEnds_fixed (t u : Ms) : (s.burstEnds i t u).fixed = s.fixed := by simp [State.burstEnds]

@[simp] theorem windowAtClose_fixed : (s.windowAtClose i).fixed = s.fixed := by
  unfold State.windowAtClose
  split <;> simp

@[simp] theorem alertingClose_fixed (first : Bool) : (s.alertingClose i first).fixed = s.fixed := by
  simp [State.alertingClose]

@[simp] theorem enterProgress_fixed : (s.enterProgress i).fixed = s.fixed := by simp [State.enterProgress]

@[simp] theorem dialDigit_fixed (d : Digit) : (s.dialDigit i d).fixed = s.fixed := by
  unfold State.dialDigit
  dsimp only
  split <;> simp

@[simp] theorem startElement_fixed : (s.startElement i).fixed = s.fixed := by
  unfold State.startElement
  dsimp only
  split <;> simp

@[simp] theorem endElement_fixed : (s.endElement i).fixed = s.fixed := by simp [State.endElement]
@[simp] theorem beginDialling_fixed : (s.beginDialling i).fixed = s.fixed := by simp [State.beginDialling]
@[simp] theorem seize_fixed : (s.seize i).fixed = s.fixed := by simp [State.seize]
@[simp] theorem startHostVoice_fixed : (s.startHostVoice i).fixed = s.fixed := by simp [State.startHostVoice]

@[simp] theorem answered_fixed : (s.answered i).fixed = s.fixed := by
  unfold State.answered
  dsimp only
  split <;> simp

@[simp] theorem progressTone_fixed (c : ToneClass) : (s.progressTone i c).fixed = s.fixed := by
  simp [State.progressTone]

@[simp] theorem lineTone_fixed (c : ToneClass) : (s.lineTone i c).fixed = s.fixed := by
  unfold State.lineTone
  split <;> simp

@[simp] theorem confirmed_fixed (c : ToneClass) (first : Nat) : (s.confirmed i c first).fixed = s.fixed := by
  simp [State.confirmed]

@[simp] theorem ringbackStops_fixed : (s.ringbackStops i).fixed = s.fixed := by
  refine modLine_fixed s i fun l => ?_
  split <;> rfl

@[simp] theorem applyMatch_fixed (e : ToneEntry) (first : Nat) (r : MatchResult) :
    (s.applyMatch i e first r).fixed = s.fixed := by
  simp [State.applyMatch]

@[simp] theorem matchEvent_fixed (id : Nat) (f : ToneEntry → Matcher → MatchResult) :
    (s.matchEvent i id f).fixed = s.fixed := by
  unfold State.matchEvent
  split <;> simp

@[simp] theorem speechFound_fixed : (s.speechFound i).fixed = s.fixed := by simp [State.speechFound]

@[simp] theorem watchFrame_fixed (silent : Bool) : (s.watchFrame i silent).fixed = s.fixed := by
  unfold State.watchFrame
  split <;> simp

@[simp] theorem digitRecognised_fixed (d : Digit) : (State.digitRecognised i s d).fixed = s.fixed := by
  simp [State.digitRecognised]

end Sys2Proof.Machine
end

section
/-! SUPPORT. Fax events, the host link, the directives of lines, areas and voice keep the tables, the profiles and the
commands waiting. -/

namespace Sys2Proof.Machine

variable (s : State) (i : LineId)

@[simp] theorem takeOffer_fixed (rate : Nat) (resolutions : List Resolution) (bc : Bool) :
    (s.takeOffer i rate resolutions bc).fixed = s.fixed := by
  unfold State.takeOffer
  dsimp only
  split <;> simp

@[simp] theorem senderTrained_fixed (f : Fax) : (s.senderTrained i f).fixed = s.fixed := by
  unfold State.senderTrained
  dsimp only
  rw [ite_fixed, faxConnected_fixed, ite_self]
  refine modLine_fixed s i fun l => ?_
  rw [modHalf_profile]
  split <;> rfl

@[simp] theorem afterTraining_fixed (a : AfterTrain) : (s.afterTraining i a).fixed = s.fixed := by
  cases a
  · exact nextPage_fixed s i
  · exact modFax_fixed s i _ _

theorem reachedEnd_fixed {s t : State} {i : LineId} {f : Fax} {k : AreaId} {m : PageMark}
    (h : s.reachedEnd i f k = some (m, t)) : t.fixed = s.fixed := by
  unfold State.reachedEnd at h
  split at h
  · split_ifs at h
    obtain ⟨-, rfl⟩ := h
    exact stopStage_fixed s i
  · obtain ⟨_, -, hm⟩ := Option.map_eq_some_iff.1 h
    obtain ⟨-, rfl⟩ := Prod.mk.inj hm
    rfl

@[simp] theorem retryTraining_fixed (f : Fax) : (s.retryTraining i f).fixed = s.fixed := by simp [State.retryTraining]
@[simp] theorem startFill_fixed : (s.startFill i).fixed = s.fixed := by simp [State.startFill]

@[simp] theorem noteVerdict_fixed (f : Fax) (v : Verdict) (stop : Bool) (q : Nat) :
    (s.noteVerdict i f v stop q).fixed = s.fixed := by
  unfold State.noteVerdict
  dsimp only
  rw [modFax_fixed, notifyLine_fixed, modLine_fixed]
  intro l
  split <;> rfl

@[simp] theorem actOnVerdict_fixed (v : Verdict) (stop : Bool) (q : Nat) :
    (s.actOnVerdict i v stop q).fixed = s.fixed := by
  simp [State.actOnVerdict]

@[simp] theorem ensureBlock_fixed (number : Option Nat) : (s.ensureBlock i number).fixed = s.fixed := by
  unfold State.ensureBlock
  dsimp only
  split <;> simp

@[simp] theorem answerBlock_fixed (number count : Nat) : (s.answerBlock i number count).fixed = s.fixed := by
  unfold State.answerBlock
  dsimp only
  split <;> simp

@[simp] theorem roundLimit_fixed (f : Fax) (missing : List Nat) : (s.roundLimit i f missing).fixed = s.fixed := by
  simp [State.roundLimit]

@[simp] theorem actOnMap_fixed (f : Fax) (missing : List Nat) : (s.actOnMap i f missing).fixed = s.fixed := by
  simp [State.actOnMap]

@[simp] theorem cutOffPage_fixed (f : Fax) : (s.cutOffPage i f).fixed = s.fixed := by simp [State.cutOffPage]

@[simp] theorem releaseFax_fixed (r : FaxRole) (why : EndReason) : (s.releaseFax i r why).fixed = s.fixed := by
  simp [State.releaseFax]

@[simp] theorem arrive_fixed (h : Handed) : (s.arrive h).fixed = s.fixed := by
  unfold State.arrive
  split_ifs <;> rfl

/-- What its block keeps of the tables, the directive in hand keeps. -/
theorem deal_agrees {β : Type} (g : Fixed → β) {h : Handed} {run : Directive → State → Answer}
    (hr : ∀ u, g (run h.dir u).state.fixed = g u.fixed) : g (s.deal h run).fixed = g s.fixed := by
  unfold State.deal
  split
  · exact hr s
  · rfl

theorem directive_agrees {β : Type} (g : Fixed → β) {code : Byte} {d : Directive} {run : Directive → State → Answer}
    (hr : ∀ u, g (run d u).state.fixed = g u.fixed) : g (s.directive code d run).fixed = g s.fixed := by
  unfold State.directive
  split_ifs
  · exact deal_agrees s g hr
  · exact deal_agrees _ g hr
  · exact congrArg g (arrive_fixed s _)

@[simp] theorem hostData_fixed (k : DataKind) (payload : List Byte) : (s.hostData i k payload).fixed = s.fixed := by
  unfold State.hostData
  split <;> simp

@[simp] theorem hostPageEnd_fixed (payload : List Byte) : (s.hostPageEnd i payload).fixed = s.fixed := by
  unfold State.hostPageEnd
  split
  · rfl
  split
  · split
    · split
      next h => simp [addMark_fixed h]
      next => simp
    · simp
  · simp

@[simp] theorem endDownload_fixed (id : Nat) (why : TransferEnd) : (s.endDownload id why).fixed = s.fixed :=
  closeEntry_fixed s id _

@[simp] theorem dropStore_fixed (n : Nat) : (s.dropStore n).fixed = s.fixed := by simp [State.dropStore]

@[simp] theorem hostStoreData_fixed (payload : List Byte) : (s.hostStoreData payload).fixed = s.fixed := by
  unfold State.hostStoreData
  split <;> simp

@[simp] theorem hostStoreEnd_fixed : s.hostStoreEnd.fixed = s.fixed := by
  unfold State.hostStoreEnd
  split <;> simp

@[simp] theorem badFrame_fixed : s.badFrame.fixed = s.fixed := rfl

@[simp] theorem handOn_fixed (channel kind : Nat) (payload : List Byte) :
    (s.handOn channel kind payload).fixed = s.fixed := by
  unfold State.handOn
  dsimp only
  split
  · split
    · exact arrive_fixed _ _
    · exact badFrame_fixed _
  · exact hostStoreData_fixed _ _
  · exact hostStoreEnd_fixed _
  · exact hostData_fixed _ _ _ _
  · exact hostData_fixed _ _ _ _
  · exact hostPageEnd_fixed _ _ _
  · exact hostData_fixed _ _ _ _

@[simp] theorem parsing_fixed (p : ParserState) : (s.parsing p).fixed = s.fixed := rfl

@[simp] theorem takeByte_fixed (b : Byte) : (s.takeByte b).fixed = s.fixed := by
  unfold State.takeByte
  split <;> simp

@[simp] theorem rx_fixed (b : RxByte) : (s.rx b).fixed = s.fixed := by
  unfold State.rx
  split
  · rfl
  · split
    · exact takeByte_fixed s _
    · split <;> simp

@[simp] theorem feed_fixed (bs : List RxByte) :
    (s.feed bs).fixed = s.fixed := foldl_fixed (fun u b => rx_fixed u b) bs s

@[simp] theorem sendFrame_fixed (f : OutFrame) : (s.sendFrame f).fixed = s.fixed := rfl

@[simp] theorem serveRx_fixed : (s.serveRx i).fixed = s.fixed := by
  unfold State.serveRx
  split
  · rfl
  · split <;> simp

@[simp] theorem serveTransfer_fixed : s.serveTransfer.fixed = s.fixed := by
  unfold State.serveTransfer
  split
  · split
    · dsimp only
      split <;> rfl
    · rfl
  · rfl
  · rfl

@[simp] theorem serveSource_fixed (d : DataSource) : (s.serveSource d).fixed = s.fixed := by
  cases d
  · exact serveRx_fixed s _
  · exact serveTransfer_fixed s

@[simp] theorem choose_fixed : s.choose.fixed = s.fixed := by
  unfold State.choose
  split
  · rfl
  · split
    · rfl
    · split
      · split
        · exact modLine_fixed s _ (f := fun l => { l with queue := _ }) fun _ => rfl
        · rfl
      · split
        · exact serveSource_fixed _ _
        · rfl

@[simp] theorem ready_fixed (k : ResetKind) : (s.ready k).fixed = s.fixed := rfl
@[simp] theorem endUpload_fixed (id : Nat) (why : TransferEnd) : (s.endUpload id why).fixed = s.fixed := rfl

/-- The reply of a PART_RESET aside, the end of a frame keeps the tables. -/
theorem frameSent_fixed {f : OutFrame} (h : f.source ≠ .reply true) : (s.frameSent f).fixed = s.fixed := by
  unfold State.frameSent
  dsimp only
  split
  · exact absurd ‹_› h
  · split <;> rfl
  · rfl

@[simp] theorem closeByReset_fixed (id : Nat) : (s.closeByReset id).fixed = s.fixed := by simp [State.closeByReset]
@[simp] theorem enableLine_fixed : (s.enableLine i).fixed = s.fixed := by simp [State.enableLine]
@[simp] theorem leaveAlerting_fixed : (s.leaveAlerting i).fixed = s.fixed := fixed_of_around (i := i) (by simp)

@[simp] theorem endCall_fixed (why : EndReason) : (s.endCall i why).fixed = s.fixed :=
  fixed_of_around (i := i) (by simp)

@[simp] theorem disableLine_fixed : (s.disableLine i).fixed = s.fixed := fixed_of_around (i := i) (by simp)
@[simp] theorem closeOpenByReset_fixed : (s.closeOpenByReset i).fixed = s.fixed := fixed_of_around (i := i) (by simp)

@[simp] theorem flushLine_fixed : (s.flushLine i).fixed = s.fixed := by
  unfold State.flushLine
  rw [modLine_fixed, resetAreas_fixed]
  exact fun _ => rfl

@[simp] theorem dropByReset_fixed : (s.dropByReset i).fixed = s.fixed := by
  rw [State.dropByReset, modLine_fixed _ _ noCall_profile]
  simp

@[simp] theorem resetLine_fixed : (s.resetLine i).fixed = s.fixed := by simp [State.resetLine]

@[simp] theorem takeDial_fixed (a : DialArgs) (es : List DialElement) : (s.takeDial i a es).fixed = s.fixed := by
  unfold State.takeDial
  split <;> simp

@[simp] theorem startLoopJob_fixed (j : Job) : (s.startLoopJob i j).fixed = s.fixed := by
  unfold State.startLoopJob
  split <;> simp

@[simp] theorem enterLoopback_fixed : (s.enterLoopback i).fixed = s.fixed := by simp [State.enterLoopback]
@[simp] theorem leaveLoopback_fixed : (s.leaveLoopback i).fixed = s.fixed := by simp [State.leaveLoopback]

@[simp] theorem substitute_fixed (ring loop : Bool) : (s.substitute i ring loop).fixed = s.fixed := by
  unfold State.substitute
  dsimp only
  rw [ite_fixed, signalLoop_fixed, ite_self]
  refine modLine_fixed s i fun l => ?_
  split_ifs <;> simp

@[simp] theorem takeDocument_fixed (id : Nat) : (s.takeDocument i id).fixed = s.fixed := by simp [State.takeDocument]
@[simp] theorem qualityDrop_fixed : (s.qualityDrop i).fixed = s.fixed := by simp [State.qualityDrop]
@[simp] theorem decideRate_fixed : (s.decideRate i).fixed = s.fixed := by simp [State.decideRate]

@[simp] theorem faxCarrierOn_fixed : (s.faxCarrierOn i).fixed = s.fixed := by
  unfold State.faxCarrierOn
  split <;> simp

@[simp] theorem faxCarrierOff_fixed : (s.faxCarrierOff i).fixed = s.fixed := by simp [State.faxCarrierOff]

@[simp] theorem startPlaying_fixed (t : VoiceTarget) (ids : List Nat) : (s.startPlaying i t ids).fixed = s.fixed := by
  simp [State.startPlaying]

@[simp] theorem voiceStop_fixed : (s.voiceStop i).fixed = s.fixed := by
  unfold State.voiceStop
  dsimp only
  split <;> simp

@[simp] theorem defineArea_fixed (k : AreaId) (a : DefineArgs) : (s.defineArea k a).fixed = s.fixed := by
  simp [State.defineArea]

@[simp] theorem joinArea_fixed (k : AreaId) (p : Purpose) : (s.joinArea k i p).fixed = s.fixed := by
  simp [State.joinArea]

@[simp] theorem dtmfEvent_fixed (r : DtmfResult) : (s.dtmfEvent i r).fixed = s.fixed := by
  unfold State.dtmfEvent
  dsimp only
  rw [foldl_fixed fun u d => digitRecognised_fixed u i d, modLine_fixed]
  exact fun _ => rfl

@[simp] theorem cidSignal_fixed (heard : List HeardTone) : (s.cidSignal i heard).fixed = s.fixed := by
  simp [State.cidSignal]

end Sys2Proof.Machine
end

section
/-! SUPPORT. The directives that load no table keep the tables, the profiles and the commands waiting. -/

namespace Sys2Proof.Machine

variable {d : Directive} {s : State}

@[simp] theorem answer_state (st : Status) (results : List Byte) : (s.answer st results).state = s := rfl
@[simp] theorem refuse_state (st : Status) : (s.refuse st).state = s := rfl

@[simp] theorem ite_answer_fixed (c : Prop) [Decidable c] (a b : Answer) :
    (if c then a else b).state.fixed = if c then a.state.fixed else b.state.fixed :=
  apply_ite (fun a : Answer => a.state.fixed) c a b

theorem onLine_fixed {α : Type} {p : Arg α} {f : LineId → Option α → State → Answer}
    (h : ∀ i a, (f i a s).state.fixed = s.fixed) : (onLine p f d s).state.fixed = s.fixed := by
  unfold onLine
  split
  · rfl
  · split
    · exact h _ _
    · exact h _ _
    · rfl

theorem onPart_agrees {α β : Type} (g : Fixed → β) {p : Arg α} {f : Option α → State → Answer}
    (h : ∀ a, g (f a s).state.fixed = g s.fixed) : g (onPart p f d s).state.fixed = g s.fixed := by
  unfold onPart
  split
  · split
    · exact h _
    · exact h _
    · rfl
  · rfl

theorem onPart_fixed {α : Type} {p : Arg α} {f : Option α → State → Answer}
    (h : ∀ a, (f a s).state.fixed = s.fixed) : (onPart p f d s).state.fixed = s.fixed := onPart_agrees id h

theorem onLines_agrees {α β : Type} (g : Fixed → β) {p : Arg α} {f : List LineId → Bool → Option α → State → Answer}
    (h : ∀ ls all a, g (f ls all a s).state.fixed = g s.fixed) : g (onLines p f d s).state.fixed = g s.fixed := by
  have hread (ls : List LineId) (all : Bool) : g (match p.read d.args with
      | .good v => f ls all (some v) s
      | .bad => f ls all none s
      | .count => s.refuse .refusedArg).state.fixed = g s.fixed := by
    split
    · exact h _ _ _
    · exact h _ _ _
    · rfl
  unfold onLines
  dsimp only
  split
  · exact hread _ _
  · split
    · exact hread _ _
    · rfl

theorem onLines_fixed {α : Type} {p : Arg α} {f : List LineId → Bool → Option α → State → Answer}
    (h : ∀ ls all a, (f ls all a s).state.fixed = s.fixed) : (onLines p f d s).state.fixed = s.fixed :=
  onLines_agrees id h

theorem onStore_fixed {α : Type} {p : Arg α} {f : Option α → State → Answer}
    (h : ∀ a, (f a s).state.fixed = s.fixed) : (onStore p f d s).state.fixed = s.fixed := onPart_fixed fun a => by
  split
  · exact h a
  · rfl

theorem onFreeArea_fixed {f : AreaId → State → Answer} (h : ∀ k, (f k s).state.fixed = s.fixed) :
    (onFreeArea f d s).state.fixed = s.fixed := onPart_fixed fun a => by
  split
  · rfl
  · split_ifs
    · rfl
    · rfl
    · exact h _

variable (d s)

theorem runPartReset_fixed : (runPartReset d s).state.fixed = s.fixed := onPart_fixed fun _ => rfl

/-! ## Lines and calls -/

theorem runLineEnable_fixed : (runLineEnable d s).state.fixed = s.fixed := onLines_fixed fun ls _ _ => by
  simp [foldl_fixed enableLine_fixed ls s]

theorem runLineDisable_fixed : (runLineDisable d s).state.fixed = s.fixed :=
  onLines_fixed fun ls _ _ => foldl_fixed disableLine_fixed ls s

theorem runLineReset_fixed : (runLineReset d s).state.fixed = s.fixed :=
  onLines_fixed fun ls _ _ => foldl_fixed resetLine_fixed ls s

theorem runDial_fixed : (runDial d s).state.fixed = s.fixed := onLine_fixed fun i a => by
  dsimp only
  split
  · rfl
  split
  · rfl
  split
  · rfl
  · split <;> simp

theorem runHangUp_fixed : (runHangUp d s).state.fixed = s.fixed := onLine_fixed fun i a => by
  dsimp only
  split
  · rfl
  split
  · rfl
  · split <;> simp

theorem runLoopback_fixed : (runLoopback d s).state.fixed = s.fixed := onLine_fixed fun i a => by
  split <;> simp

theorem runLoopSignals_fixed : (runLoopSignals d s).state.fixed = s.fixed := onLine_fixed fun i a => by
  split
  · rfl
  · split <;> simp

theorem runSendDigits_fixed : (runSendDigits d s).state.fixed = s.fixed := onLine_fixed fun i a => by
  split <;> simp

theorem runAnswer_fixed : (runAnswer d s).state.fixed = s.fixed := onLine_fixed fun i a => by
  split <;> simp

theorem runReject_fixed : (runReject d s).state.fixed = s.fixed := onLine_fixed fun i _ => by simp

theorem runRateRequest_fixed : (runRateRequest d s).state.fixed = s.fixed := onLine_fixed fun i a => by
  split <;> simp

theorem runQualityRead_fixed : (runQualityRead d s).state.fixed = s.fixed := onLine_fixed fun _ _ => rfl

theorem runFaxDocument_fixed : (runFaxDocument d s).state.fixed = s.fixed := onLine_fixed fun i a => by simp

theorem runLineStatus_fixed : (runLineStatus d s).state.fixed = s.fixed := onLine_fixed fun i _ => by simp

/-! ## The store -/

theorem runStoreFormat_fixed : (runStoreFormat d s).state.fixed = s.fixed := onPart_fixed fun a => by
  split
  · rfl
  split
  · rfl
  · split <;> rfl

theorem runStoreStatus_fixed : (runStoreStatus d s).state.fixed = s.fixed := onPart_fixed fun _ => rfl

theorem runMsgList_fixed : (runMsgList d s).state.fixed = s.fixed := onStore_fixed fun a => by
  split
  · rfl
  · split <;> simp

theorem runMsgInfo_fixed : (runMsgInfo d s).state.fixed = s.fixed := onStore_fixed fun a => by
  split <;> rfl

theorem runMsgMark_fixed : (runMsgMark d s).state.fixed = s.fixed := onStore_fixed fun a => by
  dsimp only
  split
  · rfl
  · split <;> simp

theorem runMsgDelete_fixed : (runMsgDelete d s).state.fixed = s.fixed := onStore_fixed fun a => by
  dsimp only
  split <;> simp

theorem runMsgUpload_fixed : (runMsgUpload d s).state.fixed = s.fixed := onStore_fixed fun a => by
  dsimp only
  split
  · rfl
  · split
    · rfl
    · split_ifs <;> rfl

theorem runMsgDownload_fixed : (runMsgDownload d s).state.fixed = s.fixed := onStore_fixed fun a => by
  split
  · rfl
  · split
    · split_ifs
      · rfl
      · rfl
      · rfl
      · split
        next h => exact (openEntry_fixed h :)
        next => rfl
    · rfl

theorem runTransferStop_fixed : (runTransferStop d s).state.fixed = s.fixed := onStore_fixed fun _ => by
  split
  · rfl
  · rfl
  · rfl
  · exact endDownload_fixed s _ _

/-! ## Voice -/

theorem runRecordStore_fixed (i : LineId) (kind : MsgKind) (mailbox : Nat) :
    (s.runRecordStore i kind mailbox).state.fixed = s.fixed := by
  simp [State.runRecordStore]

theorem runRecord_fixed : (runRecord d s).state.fixed = s.fixed := onLine_fixed fun i a => by
  dsimp only
  split
  · rfl
  · split
    · rfl
    · simp
    · split <;> simp [runRecordStore_fixed]

theorem runPlay_fixed : (runPlay d s).state.fixed = s.fixed := onLine_fixed fun i a => by
  dsimp only
  split
  · rfl
  · split <;> simp [State.runPlayStore]

theorem runVoiceStop_fixed : (runVoiceStop d s).state.fixed = s.fixed := onLine_fixed fun i _ => by simp

/-! ## Routes read, the clock and the areas -/

theorem runRouteRead_fixed : (runRouteRead d s).state.fixed = s.fixed := onPart_fixed fun a => by
  split <;> rfl

theorem runRouteTest_fixed : (runRouteTest d s).state.fixed = s.fixed := onLine_fixed fun i a => by
  split <;> rfl

theorem runSetClock_fixed : (runSetClock d s).state.fixed = s.fixed := onPart_fixed fun a => by
  split
  · split <;> rfl
  · rfl

theorem runAreaDefine_fixed : (runAreaDefine d s).state.fixed = s.fixed := onPart_fixed fun a => by
  split
  · rfl
  · split <;> simp

theorem runAreaJoin_fixed : (runAreaJoin d s).state.fixed = s.fixed := onLine_fixed fun i a => by
  split <;> simp

theorem runAreaUnjoin_fixed : (runAreaUnjoin d s).state.fixed = s.fixed := onFreeArea_fixed fun k => by simp

theorem runAreaFlush_fixed : (runAreaFlush d s).state.fixed = s.fixed := onFreeArea_fixed fun k => by simp

theorem runAreaRead_fixed : (runAreaRead d s).state.fixed = s.fixed := onPart_fixed fun a => by
  split <;> rfl

end Sys2Proof.Machine
end

section
/-! SUPPORT. The events keep the tables, the profiles and the commands waiting. -/

namespace Sys2Proof.Machine

/-- Where the outcome is a next state, that state has the time, the commands waiting, the tables and the profiles of
`s`. -/
def Keeps (r : Result) (s : State) : Prop := ∀ t, r = .next t → t.fixed = s.fixed

theorem next_keeps {s u : State} (h : u.fixed = s.fixed) : Keeps (.next u) s := fun t ht => by
  cases ht
  exact h

theorem directive_keeps {s : State} {d : Directive} {run : Directive → State → Answer}
    (hr : ∀ d u, (run d u).state.fixed = u.fixed) (code : Byte) : Keeps (.next (s.directive code d run)) s :=
  next_keeps (directive_agrees s id (hr d))

variable (s : State) (i : LineId)

theorem execFaxAnswerToneEnd_keeps : Keeps (execFaxAnswerToneEnd i s) s := next_keeps (by split <;> simp)

theorem execFaxCallToneExpiry_keeps : Keeps (execFaxCallToneExpiry i s) s := next_keeps (by split <;> simp)

theorem execFaxOfferReceived_keeps (rate : Nat) (resolutions : List Resolution) (bc : Bool) :
    Keeps (execFaxOfferReceived i rate resolutions bc s) s :=
  next_keeps (by split <;> simp)

theorem execFaxChooseReceived_keeps (step : Nat) (res : Resolution) (bc : Bool) :
    Keeps (execFaxChooseReceived i step res bc s) s :=
  next_keeps (by split <;> simp)

theorem execFaxCheckEnd_keeps (locked : Bool) (errors : Nat) :
    Keeps (execFaxCheckEnd i locked errors s) s := next_keeps (by
  split
  · rfl
  split
  · split <;> simp
  · rfl)

theorem execFaxTrainLockTimeout_keeps : Keeps (execFaxTrainLockTimeout i s) s := next_keeps (by split <;> simp)

theorem execFaxTrainOkReceived_keeps : Keeps (execFaxTrainOkReceived i s) s := next_keeps (by split <;> simp)

theorem execFaxTrainRetryReceived_keeps : Keeps (execFaxTrainRetryReceived i s) s := next_keeps (by split <;> simp)

theorem execFaxPageBegin_keeps : Keeps (execFaxPageBegin i s) s := next_keeps (by split <;> simp)

theorem execFaxPageDataSent_keeps (n : Nat) : Keeps (execFaxPageDataSent i n s) s := next_keeps (by split <;> simp)

theorem execFaxSenderPageEnd_keeps : Keeps (execFaxSenderPageEnd i s) s := next_keeps (by
  split
  · split
    · split
      next h => rw [pageEnds_fixed, reachedEnd_fixed h]
      next => rfl
    · rfl
  · rfl)

theorem execFaxFillExpiry_keeps : Keeps (execFaxFillExpiry i s) s := next_keeps (by split <;> simp)

theorem execFaxPageDataReceived_keeps (bytes : List Byte) : Keeps (execFaxPageDataReceived i bytes s) s :=
  next_keeps (by split <;> simp)

theorem execFaxErrorBurst_keeps : Keeps (execFaxErrorBurst i s) s := next_keeps (by simp)

theorem execFaxPageCloseReceived_keeps (last again : Bool) :
    Keeps (execFaxPageCloseReceived i last again s) s := next_keeps (by
  split
  · rfl
  split
  · rfl
  · split <;> simp)

theorem execFaxVerdictReceived_keeps (v : Verdict) (stop : Bool) (q : Nat) :
    Keeps (execFaxVerdictReceived i v stop q s) s :=
  next_keeps (by split <;> simp)

theorem execFaxBlockFrameReceived_keeps (seq : Fin 32) (payload : List Byte) :
    Keeps (execFaxBlockFrameReceived i seq payload s) s :=
  next_keeps (by split <;> simp)

theorem execFaxBlockEndReceived_keeps (number count : Nat) : Keeps (execFaxBlockEndReceived i number count s) s :=
  next_keeps (by split <;> simp)

theorem execFaxBlockMapReceived_keeps (number : Nat) (missing : List Nat) :
    Keeps (execFaxBlockMapReceived i number missing s) s :=
  next_keeps (by split <;> simp)

theorem execFaxEndReceived_keeps (r : FaxRole) : Keeps (execFaxEndReceived i r s) s := next_keeps (by split <;> simp)

theorem execFaxEndTransmitted_keeps (r : FaxRole) : Keeps (execFaxEndTransmitted i r s) s :=
  next_keeps (by split <;> simp)

theorem execFaxResponseWaitExpiry_keeps (r : FaxRole) : Keeps (execFaxResponseWaitExpiry i r s) s := next_keeps (by
  split
  · rfl
  · split <;> simp)

theorem execFaxReceiveWaitExpiry_keeps : Keeps (execFaxReceiveWaitExpiry i s) s := next_keeps (by split <;> simp)

theorem execBreakEnd_keeps : Keeps (execBreakEnd s) s := next_keeps (by split <;> rfl)

theorem execHostDirectiveFrame_keeps (payload : List Byte) : Keeps (execHostDirectiveFrame payload s) s :=
  next_keeps (by simp)

theorem execHostLineDataFrame_keeps (k : DataKind) (payload : List Byte) :
    Keeps (execHostLineDataFrame i k payload s) s :=
  next_keeps (by simp)

theorem execHostPageEndFrame_keeps (payload : List Byte) : Keeps (execHostPageEndFrame i payload s) s :=
  next_keeps (by simp)

theorem execHostStoreDataFrame_keeps (payload : List Byte) : Keeps (execHostStoreDataFrame payload s) s :=
  next_keeps (by simp)

theorem execHostStoreEndFrame_keeps (payload : List Byte) : Keeps (execHostStoreEndFrame payload s) s :=
  next_keeps (by simp)

theorem execHostFrameBad_keeps (wire : List RxByte) : Keeps (execHostFrameBad wire s) s := next_keeps (by simp)

theorem execInterByteGapExpiry_keeps : Keeps (execInterByteGapExpiry s) s := next_keeps (by simp)

theorem execOutboundFrameChoice_keeps : Keeps (execOutboundFrameChoice s) s := next_keeps (by simp)

theorem execRingInputChange_keeps (active : Bool) : Keeps (execRingInputChange i active s) s := next_keeps (by
  refine modLine_fixed s i fun l => ?_
  dsimp only
  split
  · exact ringChange_profile _ _ _
  · rfl)

theorem execRingQualified_keeps : Keeps (execRingQualified i s) s := next_keeps (by split <;> simp)

theorem execBurstTrailingEdge_keeps : Keeps (execBurstTrailingEdge i s) s := next_keeps (by split <;> simp)

theorem execRingGapExpiry_keeps : Keeps (execRingGapExpiry i s) s := next_keeps (by simp)

theorem execRingAbandonExpiry_keeps : Keeps (execRingAbandonExpiry i s) s := next_keeps (by simp)

theorem execLoopInputChange_keeps (present : Bool) : Keeps (execLoopInputChange i present s) s := next_keeps (by simp)

theorem execLoopDrop_keeps : Keeps (execLoopDrop i s) s := next_keeps (by simp)

theorem execReleaseGuardExpiry_keeps : Keeps (execReleaseGuardExpiry i s) s := next_keeps (by simp)

theorem execDialToneWaitExpiry_keeps : Keeps (execDialToneWaitExpiry i s) s := next_keeps (by simp)

theorem execAwaitToneExpiry_keeps : Keeps (execAwaitToneExpiry i s) s := next_keeps (by
  dsimp only
  split <;> simp)

theorem execDtmfDigitOnEnd_keeps : Keeps (execDtmfDigitOnEnd i s) s := next_keeps (by split <;> simp)

theorem execDtmfDigitOffEnd_keeps : Keeps (execDtmfDigitOffEnd i s) s := next_keeps (by split <;> simp)

theorem execPulseBreakEnd_keeps : Keeps (execPulseBreakEnd i s) s := next_keeps (by
  dsimp only
  split <;> simp)

theorem execPulseMakeEnd_keeps : Keeps (execPulseMakeEnd i s) s := next_keeps (by split <;> simp)

theorem execPulseInterdigitEnd_keeps : Keeps (execPulseInterdigitEnd i s) s := next_keeps (by split <;> simp)

theorem execDialPauseEnd_keeps : Keeps (execDialPauseEnd i s) s := next_keeps (by split <;> simp)

theorem execFlashEnd_keeps : Keeps (execFlashEnd i s) s := next_keeps (by split <;> simp)

theorem execAnswerWaitExpiry_keeps : Keeps (execAnswerWaitExpiry i s) s := next_keeps (by simp)

theorem execMeasurementRecord_keeps (r : MeasRecord) : Keeps (execMeasurementRecord i r s) s := next_keeps (by simp)

theorem execTrainingRecord_keeps (r : MeasRecord) : Keeps (execTrainingRecord i r s) s := next_keeps (by simp)

theorem execTrainingOutcome_keeps (locked : Bool) : Keeps (execTrainingOutcome i locked s) s := next_keeps (by
  split
  · split <;> simp
  · rfl)

theorem execRateOkWaitExpiry_keeps : Keeps (execRateOkWaitExpiry i s) s := next_keeps (by simp)

theorem execLinkRateReceived_keeps (step : Nat) : Keeps (execLinkRateReceived i step s) s := next_keeps (by
  dsimp only
  split
  · split <;> simp
  · rfl)

theorem execLinkRateOkReceived_keeps (step : Nat) : Keeps (execLinkRateOkReceived i step s) s := next_keeps (by simp)

theorem execCarrierChange_keeps (on : Bool) : Keeps (execCarrierChange i on s) s := next_keeps (by simp)

theorem execCarrierLossExpiry_keeps : Keeps (execCarrierLossExpiry i s) s := next_keeps (by simp)

theorem execFrameCheckFail_keeps : Keeps (execFrameCheckFail i s) s := next_keeps rfl

theorem execCapsReceived_keeps (c : Capability) : Keeps (execCapsReceived i c s) s := next_keeps (by simp)

theorem execCapsRepeatExpiry_keeps : Keeps (execCapsRepeatExpiry i s) s := next_keeps (by simp)

theorem execExchangeTimerExpiry_keeps : Keeps (execExchangeTimerExpiry i s) s := next_keeps (by simp)

theorem execDataAnswerToneEnd_keeps : Keeps (execDataAnswerToneEnd i s) s := next_keeps (by simp)

theorem execLinkDataReceived_keeps (seq ack : Fin 64) (payload : List Byte) :
    Keeps (execLinkDataReceived i seq ack payload s) s :=
  next_keeps (by simp)

theorem execLinkAckReceived_keeps (n : Fin 64) : Keeps (execLinkAckReceived i n s) s := next_keeps (by simp)

theorem execLinkResendReceived_keeps (seq : Fin 64) : Keeps (execLinkResendReceived i seq s) s := next_keeps (by
  dsimp only
  split
  · rfl
  · split
    · exact afterRaise_fixed s i _ (resend_profile _ _)
    · rfl)

theorem execLinkPauseReceived_keeps : Keeps (execLinkPauseReceived i s) s := next_keeps (by simp)

theorem execLinkResumeReceived_keeps : Keeps (execLinkResumeReceived i s) s := next_keeps (by
  dsimp only
  split
  · exact afterRaise_fixed s i _ (resume_profile _)
  · rfl)

theorem execLinkEndReceived_keeps : Keeps (execLinkEndReceived i s) s := next_keeps (by simp)

theorem execLinkEndOkReceived_keeps : Keeps (execLinkEndOkReceived i s) s := next_keeps (by simp)

theorem execLinkFrameFormed_keeps : Keeps (execLinkFrameFormed i s) s := next_keeps (by simp)

theorem execLinkFrameTransmitted_keeps : Keeps (execLinkFrameTransmitted i s) s := next_keeps (by
  dsimp only
  split <;> simp)

theorem execResendTimerExpiry_keeps : Keeps (execResendTimerExpiry i s) s := next_keeps (by
  dsimp only
  split
  · split
    · exact afterRaise_fixed s i _ (resend_profile _ _)
    · rfl
  · rfl)

theorem execPauseTimerExpiry_keeps : Keeps (execPauseTimerExpiry i s) s := next_keeps (by simp)

theorem execAckSpacingExpiry_keeps : Keeps (execAckSpacingExpiry i s) s := next_keeps (by simp)

theorem execDrainTimerExpiry_keeps : Keeps (execDrainTimerExpiry i s) s := next_keeps (by simp)

theorem execEndOkWaitExpiry_keeps : Keeps (execEndOkWaitExpiry i s) s := next_keeps (by simp)

theorem execStoreBlockRequest_keeps : Keeps (execStoreBlockRequest s) s := next_keeps (by simp)

theorem execStoreStageWrite_keeps : Keeps (execStoreStageWrite i s) s := next_keeps (by simp)

theorem execStoreStageFill_keeps : Keeps (execStoreStageFill i s) s := next_keeps (by simp)

theorem execGreetingEnd_keeps : Keeps (execGreetingEnd i s) s := next_keeps (by simp)

theorem execRecordToneEnd_keeps : Keeps (execRecordToneEnd i s) s := next_keeps (by simp)

theorem execVoiceBytesCoded_keeps (bytes : List Byte) : Keeps (execVoiceBytesCoded i bytes s) s := next_keeps (by
  split
  · rfl
  split
  · rfl
  dsimp only
  split <;> simp)

theorem execRecordMaxLength_keeps : Keeps (execRecordMaxLength i s) s := next_keeps (by split <;> simp)

theorem execRecordingComplete_keeps : Keeps (execRecordingComplete i s) s := next_keeps (by split <;> simp)

theorem execFaxWatchExpiry_keeps : Keeps (execFaxWatchExpiry i s) s := next_keeps (by simp)

theorem execPlayEntryEnd_keeps : Keeps (execPlayEntryEnd i s) s := next_keeps (by simp)

theorem execVoiceBytesDecoded_keeps (n : Nat) : Keeps (execVoiceBytesDecoded i n s) s :=
  next_keeps (by split <;> simp)

theorem execToneDetectorChange_keeps (id : Nat) (heard : List HeardTone) (already : Bool) :
    Keeps (execToneDetectorChange i id heard already s) s :=
  next_keeps (by split <;> simp)

theorem execCadencePeriodExpiry_keeps (id : Nat) : Keeps (execCadencePeriodExpiry i id s) s := next_keeps (by simp)

theorem execContinuousToneConfirm_keeps (id : Nat) : Keeps (execContinuousToneConfirm i id s) s :=
  next_keeps (by simp)

theorem execGeneratedToneEnd_keeps : Keeps (execGeneratedToneEnd i s) s := next_keeps (by simp)

theorem execPowerFrameEnd_keeps (power : Int) : Keeps (execPowerFrameEnd i power s) s := next_keeps (by simp)

theorem execDtmfPairChange_keeps (heard : List HeardTone) : Keeps (execDtmfPairChange i heard s) s := next_keeps (by
  split
  · split <;> simp
  · rfl)

theorem execDtmfPresenceExpiry_keeps : Keeps (execDtmfPresenceExpiry i s) s := next_keeps (by split <;> simp)

theorem execDtmfAbsenceExpiry_keeps : Keeps (execDtmfAbsenceExpiry i s) s := next_keeps (by split <;> simp)

theorem execCidMessageEnd_keeps (heard : List HeardTone) : Keeps (execCidMessageEnd i heard s) s :=
  next_keeps (by simp)

theorem execCidSynchronised_keeps (heard : List HeardTone) : Keeps (execCidSynchronised i heard s) s :=
  next_keeps (by simp)

theorem execCidWaitExpiry_keeps : Keeps (execCidWaitExpiry i s) s := next_keeps (by simp)

theorem execClassifyTimeExpiry_keeps : Keeps (execClassifyTimeExpiry i s) s := next_keeps (by simp)

theorem execAnswerDropExpiry_keeps : Keeps (execAnswerDropExpiry i s) s := next_keeps (by simp)

theorem execClockMinuteAdvance_keeps : Keeps (execClockMinuteAdvance s) s := next_keeps (by split <;> rfl)

end Sys2Proof.Machine
end

section
/-! O59: each table changes by its own directives and by resets alone. -/

namespace Sys2Proof.Machine

/-- What a command other than a reset leaves of the time, the commands waiting, the tables and the profiles. -/
def Unchanged (c : Instr) (s t : State) : Prop :=
  t.now = s.now ∧ t.pending = s.pending ∧ ((∀ d, c ≠ .loadTones d) → t.toneTable = s.toneTable) ∧
  ((∀ d, c ≠ .loadRingPatterns d) → t.patterns = s.patterns) ∧
  ((∀ d, c ≠ .routePut d) → (∀ d, c ≠ .routeDrop d) → (∀ d, c ≠ .routeClear d) → t.routes = s.routes) ∧
  ((∀ d, c ≠ .loadLadder d) → t.dataLadder = s.dataLadder ∧ t.faxLadder = s.faxLadder) ∧
  ((∀ d, c ≠ .setProfile d) → ∀ i, (t.line i).profile = (s.line i).profile)

/-- With this outcome the command changes no more than its own table. -/
def Changes (c : Instr) (r : Result) (s : State) : Prop := ∀ t, r = .next t → Unchanged c s t

variable {c : Instr} {r : Result} {s t : State}

theorem Keeps.changes (h : Keeps r s) : Changes c r s := fun t ht => by
  obtain ⟨hnow, hpending, htones, hpatterns, hroutes, hdata, hfax, hprofiles⟩ := Fixed.mk.inj (h t ht)
  exact ⟨hnow, hpending, fun _ => htones, fun _ => hpatterns, fun _ _ _ => hroutes, fun _ => ⟨hdata, hfax⟩,
    fun _ => congrFun hprofiles⟩

/-! ## The directives that load a table

Each keeps what stands in the projection beside its own table, which is blanked. -/

def Fixed.noTones (f : Fixed) : Fixed := { f with toneTable := [] }
def Fixed.noPatterns (f : Fixed) : Fixed := { f with patterns := [] }
def Fixed.noRoutes (f : Fixed) : Fixed := { f with routes := [] }
def Fixed.noLadders (f : Fixed) : Fixed := { f with dataLadder := [], faxLadder := [] }
def Fixed.noProfiles (f : Fixed) : Fixed := { f with profiles := fun _ => {} }

theorem directive_changes {code : Byte} {d : Directive} {run : Directive → State → Answer} (g : Fixed → Fixed)
    (hr : ∀ u, g (run d u).state.fixed = g u.fixed) (hg : ∀ t : State, g t.fixed = g s.fixed → Unchanged c s t) :
    Changes c (.next (s.directive code d run)) s := fun t ht => by
  cases ht
  exact hg _ (directive_agrees s g hr)

variable (d : Directive) (s)

theorem loadTones_changes : Changes (.loadTones d) (execLoadTones d s) s := by
  refine directive_changes Fixed.noTones (fun u => onPart_agrees _ fun a => ?_) fun t h => ?_
  · split
    · have hline (i : LineId) (es : List ToneEntry) : ((u.loadTones es).line i).profile = (u.line i).profile := by
        rw [loadTones_line]
      exact congrArg (fun p => { u.fixed.noTones with profiles := p }) (funext fun i => hline i _)
    · rfl
  · obtain ⟨hnow, hpending, -, hpatterns, hroutes, hdata, hfax, hprofiles⟩ := Fixed.mk.inj h
    exact ⟨hnow, hpending, fun hc => absurd rfl (hc d), fun _ => hpatterns, fun _ _ _ => hroutes,
      fun _ => ⟨hdata, hfax⟩, fun _ => congrFun hprofiles⟩

theorem loadRingPatterns_changes : Changes (.loadRingPatterns d) (execLoadRingPatterns d s) s := by
  refine directive_changes Fixed.noPatterns (fun u => onPart_agrees _ fun a => ?_) fun t h => ?_
  · dsimp only
    split_ifs <;> rfl
  · obtain ⟨hnow, hpending, htones, -, hroutes, hdata, hfax, hprofiles⟩ := Fixed.mk.inj h
    exact ⟨hnow, hpending, fun _ => htones, fun hc => absurd rfl (hc d), fun _ _ _ => hroutes,
      fun _ => ⟨hdata, hfax⟩, fun _ => congrFun hprofiles⟩

/-- Where the routes alone differ, and the command is one of the three that change them. -/
theorem unchanged_of_noRoutes {s t : State} (h : t.fixed.noRoutes = s.fixed.noRoutes)
    (hc : ¬((∀ d, c ≠ .routePut d) ∧ (∀ d, c ≠ .routeDrop d) ∧ ∀ d, c ≠ .routeClear d)) : Unchanged c s t := by
  obtain ⟨hnow, hpending, htones, hpatterns, -, hdata, hfax, hprofiles⟩ := Fixed.mk.inj h
  exact ⟨hnow, hpending, fun _ => htones, fun _ => hpatterns, fun hput hdrop hclear => absurd ⟨hput, hdrop, hclear⟩ hc,
    fun _ => ⟨hdata, hfax⟩, fun _ => congrFun hprofiles⟩

theorem routePut_changes : Changes (.routePut d) (execRoutePut d s) s := by
  refine directive_changes Fixed.noRoutes (fun u => onPart_agrees _ fun a => ?_) fun t h =>
    unchanged_of_noRoutes h fun hc => hc.1 d rfl
  split
  · split_ifs <;> rfl
  · rfl

theorem routeDrop_changes : Changes (.routeDrop d) (execRouteDrop d s) s := by
  refine directive_changes Fixed.noRoutes (fun u => onPart_agrees _ fun a => ?_) fun t h =>
    unchanged_of_noRoutes h fun hc => hc.2.1 d rfl
  split <;> rfl

theorem routeClear_changes : Changes (.routeClear d) (execRouteClear d s) s :=
  directive_changes Fixed.noRoutes (fun _ => onPart_agrees _ fun _ => rfl) fun _ h =>
    unchanged_of_noRoutes h fun hc => hc.2.2 d rfl

theorem loadLadder_changes : Changes (.loadLadder d) (execLoadLadder d s) s := by
  refine directive_changes Fixed.noLadders (fun u => onPart_agrees _ fun a => ?_) fun t h => ?_
  · split
    · rfl
    · dsimp only
      split_ifs <;> rfl
  · obtain ⟨hnow, hpending, htones, hpatterns, hroutes, -, -, hprofiles⟩ := Fixed.mk.inj h
    exact ⟨hnow, hpending, fun _ => htones, fun _ => hpatterns, fun _ _ _ => hroutes, fun hc => absurd rfl (hc d),
      fun _ => congrFun hprofiles⟩

theorem setProfileOf_noProfiles (pairs : List (Nat × Nat)) (i : LineId) :
    (State.setProfileOf pairs s i).fixed.noProfiles = s.fixed.noProfiles := by
  unfold State.setProfileOf
  split <;> rfl

theorem setProfile_changes : Changes (.setProfile d) (execSetProfile d s) s := by
  refine directive_changes Fixed.noProfiles (fun u => onLines_agrees _ fun ls _ a => ?_) fun t h => ?_
  · split
    · rfl
    · split
      · exact foldl_keeps (fun u => u.fixed.noProfiles) (fun i _ u => setProfileOf_noProfiles u _ i) u
      · rfl
  · obtain ⟨hnow, hpending, htones, hpatterns, hroutes, hdata, hfax, -⟩ := Fixed.mk.inj h
    exact ⟨hnow, hpending, fun _ => htones, fun _ => hpatterns, fun _ _ _ => hroutes, fun _ => ⟨hdata, hfax⟩,
      fun hc => absurd rfl (hc d)⟩

theorem execUnknownDirective_keeps (code : Byte) : Keeps (execUnknownDirective code d s) s := by
  refine next_keeps ?_
  split
  · rfl
  · exact directive_agrees s id fun _ => rfl

/-! ## The commands and the resets -/

theorem exec_changes (c : Instr) (hp : c ≠ .powerOn) (hb : c ≠ .lineBreak) (hf : c ≠ .outboundFrameSent) :
    Changes c (exec c s) s := by
  cases c with
  | powerOn => exact absurd rfl hp
  | partReset d => exact (directive_keeps runPartReset_fixed 0x01).changes
  | lineBreak => exact absurd rfl hb
  | breakEnd => exact (execBreakEnd_keeps s).changes
  | hostDirectiveFrame payload => exact (execHostDirectiveFrame_keeps s payload).changes
  | hostLineDataFrame l k payload => exact (execHostLineDataFrame_keeps s l k payload).changes
  | hostPageEndFrame l payload => exact (execHostPageEndFrame_keeps s l payload).changes
  | hostStoreDataFrame payload => exact (execHostStoreDataFrame_keeps s payload).changes
  | hostStoreEndFrame payload => exact (execHostStoreEndFrame_keeps s payload).changes
  | hostFrameBad wire => exact (execHostFrameBad_keeps s wire).changes
  | interByteGapExpiry => exact (execInterByteGapExpiry_keeps s).changes
  | unknownDirective code d => exact (execUnknownDirective_keeps s d code).changes
  | outboundFrameChoice => exact (execOutboundFrameChoice_keeps s).changes
  | outboundFrameSent => exact absurd rfl hf
  | lineEnable d => exact (directive_keeps runLineEnable_fixed 0x10).changes
  | lineDisable d => exact (directive_keeps runLineDisable_fixed 0x11).changes
  | lineReset d => exact (directive_keeps runLineReset_fixed 0x12).changes
  | setProfile d => exact setProfile_changes s d
  | loadRingPatterns d => exact loadRingPatterns_changes s d
  | dial d => exact (directive_keeps runDial_fixed 0x15).changes
  | hangUp d => exact (directive_keeps runHangUp_fixed 0x16).changes
  | loopbackEnter d => exact (directive_keeps runLoopback_fixed 0x17).changes
  | loopbackLeave d => exact (directive_keeps runLoopback_fixed 0x17).changes
  | loopSignals d => exact (directive_keeps runLoopSignals_fixed 0x18).changes
  | loadTones d => exact loadTones_changes s d
  | sendDigits d => exact (directive_keeps runSendDigits_fixed 0x21).changes
  | routePut d => exact routePut_changes s d
  | routeDrop d => exact routeDrop_changes s d
  | routeClear d => exact routeClear_changes s d
  | routeRead d => exact (directive_keeps runRouteRead_fixed 0x2B).changes
  | routeTest d => exact (directive_keeps runRouteTest_fixed 0x2F).changes
  | answer d => exact (directive_keeps runAnswer_fixed 0x2C).changes
  | reject d => exact (directive_keeps runReject_fixed 0x2D).changes
  | setClock d => exact (directive_keeps runSetClock_fixed 0x2E).changes
  | areaDefine d => exact (directive_keeps runAreaDefine_fixed 0x30).changes
  | areaJoin d => exact (directive_keeps runAreaJoin_fixed 0x31).changes
  | areaUnjoin d => exact (directive_keeps runAreaUnjoin_fixed 0x32).changes
  | areaFlush d => exact (directive_keeps runAreaFlush_fixed 0x33).changes
  | areaRead d => exact (directive_keeps runAreaRead_fixed 0x34).changes
  | loadLadder d => exact loadLadder_changes s d
  | rateRequestTrial d => exact (directive_keeps runRateRequest_fixed 0x41).changes
  | rateRequest d => exact (directive_keeps runRateRequest_fixed 0x41).changes
  | qualityRead d => exact (directive_keeps runQualityRead_fixed 0x42).changes
  | faxDocument d => exact (directive_keeps runFaxDocument_fixed 0x50).changes
  | storeFormat d => exact (directive_keeps runStoreFormat_fixed 0x60).changes
  | storeStatus d => exact (directive_keeps runStoreStatus_fixed 0x61).changes
  | msgList d => exact (directive_keeps runMsgList_fixed 0x62).changes
  | msgInfo d => exact (directive_keeps runMsgInfo_fixed 0x63).changes
  | msgMark d => exact (directive_keeps runMsgMark_fixed 0x65).changes
  | msgDelete d => exact (directive_keeps runMsgDelete_fixed 0x64).changes
  | msgUpload d => exact (directive_keeps runMsgUpload_fixed 0x66).changes
  | msgDownload d => exact (directive_keeps runMsgDownload_fixed 0x67).changes
  | transferStop d => exact (directive_keeps runTransferStop_fixed 0x68).changes
  | record d => exact (directive_keeps runRecord_fixed 0x70).changes
  | play d => exact (directive_keeps runPlay_fixed 0x71).changes
  | voiceStop d => exact (directive_keeps runVoiceStop_fixed 0x72).changes
  | lineStatus d => exact (directive_keeps runLineStatus_fixed 0x02).changes
  | ringInputChange l active => exact (execRingInputChange_keeps s l active).changes
  | ringQualified l => exact (execRingQualified_keeps s l).changes
  | burstTrailingEdge l => exact (execBurstTrailingEdge_keeps s l).changes
  | ringGapExpiry l => exact (execRingGapExpiry_keeps s l).changes
  | ringAbandonExpiry l => exact (execRingAbandonExpiry_keeps s l).changes
  | loopInputChange l present => exact (execLoopInputChange_keeps s l present).changes
  | loopDrop l => exact (execLoopDrop_keeps s l).changes
  | releaseGuardExpiry l => exact (execReleaseGuardExpiry_keeps s l).changes
  | dialToneWaitExpiry l => exact (execDialToneWaitExpiry_keeps s l).changes
  | awaitToneExpiry l => exact (execAwaitToneExpiry_keeps s l).changes
  | dtmfDigitOnEnd l => exact (execDtmfDigitOnEnd_keeps s l).changes
  | dtmfDigitOffEnd l => exact (execDtmfDigitOffEnd_keeps s l).changes
  | pulseBreakEnd l => exact (execPulseBreakEnd_keeps s l).changes
  | pulseMakeEnd l => exact (execPulseMakeEnd_keeps s l).changes
  | pulseInterdigitEnd l => exact (execPulseInterdigitEnd_keeps s l).changes
  | dialPauseEnd l => exact (execDialPauseEnd_keeps s l).changes
  | flashEnd l => exact (execFlashEnd_keeps s l).changes
  | answerWaitExpiry l => exact (execAnswerWaitExpiry_keeps s l).changes
  | toneDetectorChange l id on already => exact (execToneDetectorChange_keeps s l id on already).changes
  | cadencePeriodExpiry l id => exact (execCadencePeriodExpiry_keeps s l id).changes
  | continuousToneConfirm l id => exact (execContinuousToneConfirm_keeps s l id).changes
  | generatedToneEnd l => exact (execGeneratedToneEnd_keeps s l).changes
  | powerFrameEnd l power => exact (execPowerFrameEnd_keeps s l power).changes
  | dtmfPairChange l pair => exact (execDtmfPairChange_keeps s l pair).changes
  | dtmfPresenceExpiry l => exact (execDtmfPresenceExpiry_keeps s l).changes
  | dtmfAbsenceExpiry l => exact (execDtmfAbsenceExpiry_keeps s l).changes
  | cidMessageEnd l bits => exact (execCidMessageEnd_keeps s l bits).changes
  | cidWaitExpiry l => exact (execCidWaitExpiry_keeps s l).changes
  | classifyTimeExpiry l => exact (execClassifyTimeExpiry_keeps s l).changes
  | answerDropExpiry l => exact (execAnswerDropExpiry_keeps s l).changes
  | clockMinuteAdvance => exact (execClockMinuteAdvance_keeps s).changes
  | measurementRecord l r => exact (execMeasurementRecord_keeps s l r).changes
  | trainingRecord l r => exact (execTrainingRecord_keeps s l r).changes
  | trainingOutcome l locked => exact (execTrainingOutcome_keeps s l locked).changes
  | rateOkWaitExpiry l => exact (execRateOkWaitExpiry_keeps s l).changes
  | linkRateReceived l step => exact (execLinkRateReceived_keeps s l step).changes
  | linkRateOkReceived l step => exact (execLinkRateOkReceived_keeps s l step).changes
  | carrierChange l on => exact (execCarrierChange_keeps s l on).changes
  | carrierLossExpiry l => exact (execCarrierLossExpiry_keeps s l).changes
  | frameCheckFail l => exact (execFrameCheckFail_keeps s l).changes
  | capsReceived l c => exact (execCapsReceived_keeps s l c).changes
  | capsRepeatExpiry l => exact (execCapsRepeatExpiry_keeps s l).changes
  | exchangeTimerExpiry l => exact (execExchangeTimerExpiry_keeps s l).changes
  | dataAnswerToneEnd l => exact (execDataAnswerToneEnd_keeps s l).changes
  | linkDataReceived l seq ack payload => exact (execLinkDataReceived_keeps s l seq ack payload).changes
  | linkAckReceived l n => exact (execLinkAckReceived_keeps s l n).changes
  | linkResendReceived l seq => exact (execLinkResendReceived_keeps s l seq).changes
  | linkPauseReceived l => exact (execLinkPauseReceived_keeps s l).changes
  | linkResumeReceived l => exact (execLinkResumeReceived_keeps s l).changes
  | linkEndReceived l => exact (execLinkEndReceived_keeps s l).changes
  | linkEndOkReceived l => exact (execLinkEndOkReceived_keeps s l).changes
  | linkFrameFormed l => exact (execLinkFrameFormed_keeps s l).changes
  | linkFrameTransmitted l => exact (execLinkFrameTransmitted_keeps s l).changes
  | resendTimerExpiry l => exact (execResendTimerExpiry_keeps s l).changes
  | pauseTimerExpiry l => exact (execPauseTimerExpiry_keeps s l).changes
  | ackSpacingExpiry l => exact (execAckSpacingExpiry_keeps s l).changes
  | drainTimerExpiry l => exact (execDrainTimerExpiry_keeps s l).changes
  | endOkWaitExpiry l => exact (execEndOkWaitExpiry_keeps s l).changes
  | faxAnswerToneEnd l => exact (execFaxAnswerToneEnd_keeps s l).changes
  | faxCallToneExpiry l => exact (execFaxCallToneExpiry_keeps s l).changes
  | faxOfferReceived l rate res bc => exact (execFaxOfferReceived_keeps s l rate res bc).changes
  | faxChooseReceived l step res bc => exact (execFaxChooseReceived_keeps s l step res bc).changes
  | faxCheckEnd l locked errors => exact (execFaxCheckEnd_keeps s l locked errors).changes
  | faxTrainLockTimeout l => exact (execFaxTrainLockTimeout_keeps s l).changes
  | faxTrainOkReceived l => exact (execFaxTrainOkReceived_keeps s l).changes
  | faxTrainRetryReceived l => exact (execFaxTrainRetryReceived_keeps s l).changes
  | faxPageBegin l => exact (execFaxPageBegin_keeps s l).changes
  | faxSenderPageEnd l => exact (execFaxSenderPageEnd_keeps s l).changes
  | faxFillExpiry l => exact (execFaxFillExpiry_keeps s l).changes
  | faxErrorBurst l => exact (execFaxErrorBurst_keeps s l).changes
  | faxPageCloseReceived l last again => exact (execFaxPageCloseReceived_keeps s l last again).changes
  | faxVerdictReceived l v stop q => exact (execFaxVerdictReceived_keeps s l v stop q).changes
  | faxBlockFrameReceived l seq payload => exact (execFaxBlockFrameReceived_keeps s l seq payload).changes
  | faxBlockEndReceived l number count => exact (execFaxBlockEndReceived_keeps s l number count).changes
  | faxBlockMapReceived l number missing => exact (execFaxBlockMapReceived_keeps s l number missing).changes
  | faxEndReceived l role => exact (execFaxEndReceived_keeps s l role).changes
  | faxEndTransmitted l role => exact (execFaxEndTransmitted_keeps s l role).changes
  | faxResponseWaitExpiry l role => exact (execFaxResponseWaitExpiry_keeps s l role).changes
  | faxReceiveWaitExpiry l => exact (execFaxReceiveWaitExpiry_keeps s l).changes
  | storeBlockRequest => exact (execStoreBlockRequest_keeps s).changes
  | storeStageWrite l => exact (execStoreStageWrite_keeps s l).changes
  | storeStageFill l => exact (execStoreStageFill_keeps s l).changes
  | greetingEnd l => exact (execGreetingEnd_keeps s l).changes
  | recordToneEnd l => exact (execRecordToneEnd_keeps s l).changes
  | recordMaxLength l => exact (execRecordMaxLength_keeps s l).changes
  | recordingComplete l => exact (execRecordingComplete_keeps s l).changes
  | faxWatchExpiry l => exact (execFaxWatchExpiry_keeps s l).changes
  | playEntryEnd l => exact (execPlayEntryEnd_keeps s l).changes
  | cidSynchronised l bits => exact (execCidSynchronised_keeps s l bits).changes
  | faxPageDataReceived l bytes => exact (execFaxPageDataReceived_keeps s l bytes).changes
  | faxPageDataSent l n => exact (execFaxPageDataSent_keeps s l n).changes
  | voiceBytesCoded l bytes => exact (execVoiceBytesCoded_keeps s l bytes).changes
  | voiceBytesDecoded l n => exact (execVoiceBytesDecoded_keeps s l n).changes

theorem frameSent_now (f : OutFrame) : (s.frameSent f).now = s.now ∧ (s.frameSent f).pending = s.pending := by
  unfold State.frameSent
  dsimp only
  split
  · exact ⟨rfl, rfl⟩
  · split <;> exact ⟨rfl, rfl⟩
  · exact ⟨rfl, rfl⟩

theorem execOutboundFrameSent_now {s t : State} (h : execOutboundFrameSent s = .next t) :
    t.now = s.now ∧ t.pending = s.pending := by
  cases h
  split
  · exact frameSent_now s _
  · exact ⟨rfl, rfl⟩

theorem execOutboundFrameSent_fixed {s t : State} (h : execOutboundFrameSent s = .next t)
    (hf : ∀ f, s.outFrame = some f → f.source ≠ .reply true) : t.fixed = s.fixed := by
  cases h
  split
  next f hout => exact frameSent_fixed s (hf f hout)
  next => rfl

theorem execLineBreak_now {s t : State} (h : execLineBreak s = .next t) : t.now = s.now ∧ t.pending = s.pending := by
  cases h
  split <;> exact ⟨rfl, rfl⟩

/-- Settles O59: every operation of the model keeps the tables and profiles as one projection; the directives that load
a table keep what is beside it. -/
theorem tablesChangeByTheirDirectives : Obligations.TablesChangeByTheirDirectives := by
  refine ⟨fun c s t h hp hb hf => exec_changes s c hp hb hf t h, fun s t h => ?_, fun s t h => execLineBreak_now h,
    fun s t h => ?_⟩
  · obtain ⟨hnow, hpending⟩ := execOutboundFrameSent_now h
    refine ⟨hnow, hpending, fun hf => ?_⟩
    obtain ⟨-, -, htones, hpatterns, hroutes, hdata, hfax, hprofiles⟩ := Fixed.mk.inj (execOutboundFrameSent_fixed h hf)
    exact ⟨⟨htones, hpatterns, hroutes, hdata, hfax⟩, congrFun hprofiles⟩
  · cases h
    rfl

end Sys2Proof.Machine
end

section
/-! SUPPORT. The DTMF detector (R35): the digit of a valid pair, by the tones received. -/

namespace Sys2Proof.Machine

/-! ## The frequencies of the two groups (R29, R35) -/

/-- A tone near one of the eight frequencies is near no other. -/
theorem isNear_iff_eq {f g : Nat} {p : HeardTone} (hf : f ∈ lowGroup ++ highGroup) (hg : g ∈ lowGroup ++ highGroup)
    (h : isNear f p = true) : isNear g p = decide (g = f) := by
  have hapart : ∀ f ∈ lowGroup ++ highGroup, ∀ g ∈ lowGroup ++ highGroup,
      g = f ∨ 1015 * f < 985 * g ∨ 1015 * g < 985 * f := by decide
  rcases hapart f hf g hg with rfl | hlt
  · simp [h]
  · simp only [isNear, Bool.and_eq_true, decide_eq_true_eq] at h
    have hne : g ≠ f := by omega
    have hfar : ¬ (985 * g ≤ p.mHz ∧ p.mHz ≤ 1015 * g) := by omega
    simp only [hne, decide_false, isNear, Bool.and_eq_false_iff, decide_eq_false_iff_not]
    omega

theorem low_mem (d : Digit) : (digitPair d).1 ∈ lowGroup := by cases d <;> decide

theorem high_mem (d : Digit) : (digitPair d).2 ∈ highGroup := by cases d <;> decide

theorem groups_disjoint {f g : Nat} (hf : f ∈ lowGroup) (hg : g ∈ highGroup) : f ≠ g := by
  have : ∀ f ∈ lowGroup, ∀ g ∈ highGroup, f ≠ g := by decide
  exact this f hf g hg

theorem find_digitPair (d : Digit) : allDigits.find? (fun x => digitPair x == digitPair d) = some d := by
  cases d <;> decide

/-! ## The tones of a valid pair -/

/-- A frequency of a group heard is that of a tone received at −30 dBm or more. -/
theorem dtmfPart_some {heard : List HeardTone} {f g : Nat} {v : Int} (h : dtmfPart heard f = some (g, v)) :
    g = f ∧ ∃ p ∈ heard, isNear f p = true ∧ -3000 ≤ p.cdBm ∧ p.cdBm = v := by
  simp only [dtmfPart, Option.map_eq_some_iff, Prod.mk.injEq] at h
  obtain ⟨w, hmax, rfl, rfl⟩ := h
  obtain ⟨p, hp, rfl⟩ := List.mem_map.1 (List.max?_mem hmax)
  obtain ⟨hmem, hnear⟩ := List.mem_filter.1 hp
  obtain ⟨hnear, hlevel⟩ := Bool.and_eq_true_iff.1 hnear
  exact ⟨rfl, p, hmem, hnear, of_decide_eq_true hlevel, rfl⟩

theorem filterMap_dtmfPart_single {fs : List Nat} {heard : List HeardTone} {f : Nat} {v : Int}
    (h : fs.filterMap (dtmfPart heard) = [(f, v)]) :
    ∃ p ∈ heard, isNear f p = true ∧ -3000 ≤ p.cdBm ∧ p.cdBm = v := by
  have hmem : (f, v) ∈ fs.filterMap (dtmfPart heard) := by simp [h]
  obtain ⟨g, -, hpart⟩ := List.mem_filterMap.1 hmem
  obtain ⟨rfl, hp⟩ := dtmfPart_some hpart
  exact hp

/-- The two tones of a valid pair: near the two frequencies of its digit, at −30 dBm or more, and within 8 dB of each
other. -/
def validTones (d : Digit) (p q : HeardTone) : Prop :=
  isNear (digitPair d).1 p = true ∧ isNear (digitPair d).2 q = true ∧
  -3000 ≤ p.cdBm ∧ -3000 ≤ q.cdBm ∧ p.cdBm - q.cdBm ≤ 800 ∧ q.cdBm - p.cdBm ≤ 800

theorem dtmfPair_tones {heard : List HeardTone} {d : Digit} (h : dtmfPair heard = some d) :
    ∃ p ∈ heard, ∃ q ∈ heard, validTones d p q := by
  unfold dtmfPair at h
  split at h
  · rename_i l v k w hl hh
    split_ifs at h with htwist
    obtain ⟨p, hp, hnear, hlevel, rfl⟩ := filterMap_dtmfPart_single hl
    obtain ⟨q, hq, hnear', hlevel', rfl⟩ := filterMap_dtmfPart_single hh
    have hd : digitPair d = (l, k) := by simpa using List.find?_some h
    exact ⟨p, hp, q, hq, by rwa [hd], by rwa [hd], hlevel, hlevel', htwist.1, htwist.2⟩
  · cases h

/-- One tone is not near a frequency of each group. -/
theorem not_validTones_self (d : Digit) (p : HeardTone) : ¬ validTones d p p := by
  rintro ⟨hlow, hhigh, -⟩
  have hiff := isNear_iff_eq (List.mem_append_left _ (low_mem d)) (List.mem_append_right _ (high_mem d)) hlow
  rw [hhigh, eq_comm, decide_eq_true_eq] at hiff
  exact groups_disjoint (low_mem d) (high_mem d) hiff.symm

/-! ## A pair received alone -/

/-- Of a group, the frequency of the one tone near any of it is heard. -/
theorem filterMap_dtmfPart {fs : List Nat} {heard : List HeardTone} {f : Nat} {p : HeardTone}
    (hf : ∀ v : Int, fs.filterMap (fun g => if g = f then some (f, v) else none) = [(f, v)])
    (h : ∀ g ∈ fs, heard.filter (fun x => isNear g x && isAtLeast Config.dtmfLevel x) = if g = f then [p] else []) :
    fs.filterMap (dtmfPart heard) = [(f, p.cdBm)] := by
  rw [← hf p.cdBm]
  refine List.filterMap_congr fun g hg => ?_
  unfold dtmfPart
  rw [h g hg]
  split_ifs with he
  · simp [he]
  · rfl

theorem filterMap_low (d : Digit) (v : Int) :
    lowGroup.filterMap (fun g => if g = (digitPair d).1 then some ((digitPair d).1, v) else none) =
      [((digitPair d).1, v)] := by
  cases d <;> rfl

theorem filterMap_high (d : Digit) (v : Int) :
    highGroup.filterMap (fun g => if g = (digitPair d).2 then some ((digitPair d).2, v) else none) =
      [((digitPair d).2, v)] := by
  cases d <;> rfl

/-- Of two tones near two of the eight frequencies, the one near the first alone is near any but the second. -/
theorem filter_near_two {heard : List HeardTone} {f f' g : Nat} {p q : HeardTone} (hf : f ∈ lowGroup ++ highGroup)
    (hf' : f' ∈ lowGroup ++ highGroup) (hg : g ∈ lowGroup ++ highGroup) (hp : isNear f p = true)
    (hq : isNear f' q = true) (hne : g ≠ f') (hlevel : -3000 ≤ p.cdBm) (hheard : heard = [p, q] ∨ heard = [q, p]) :
    heard.filter (fun x => isNear g x && isAtLeast Config.dtmfLevel x) = if g = f then [p] else [] := by
  have hnear : isNear g p = decide (g = f) := isNear_iff_eq hf hg hp
  have hfar : isNear g q = false := (isNear_iff_eq hf' hg hq).trans (decide_eq_false hne)
  have hloud : isAtLeast Config.dtmfLevel p = true := decide_eq_true hlevel
  rcases hheard with rfl | rfl <;> simp [List.filter_cons, hnear, hfar, hloud]

/-- Two tones of a valid pair and nothing else, in either order. -/
theorem dtmfPair_of_validTones {heard : List HeardTone} {d : Digit} {p q : HeardTone} (h : validTones d p q)
    (hheard : heard = [p, q] ∨ heard = [q, p]) : dtmfPair heard = some d := by
  obtain ⟨hp, hq, hlevel, hlevel', htwist, htwist'⟩ := h
  have hlow := List.mem_append_left highGroup (low_mem d)
  have hhigh := List.mem_append_right lowGroup (high_mem d)
  have hl : lowGroup.filterMap (dtmfPart heard) = [((digitPair d).1, p.cdBm)] :=
    filterMap_dtmfPart (filterMap_low d) fun g hg => filter_near_two hlow hhigh (List.mem_append_left _ hg) hp hq
      (groups_disjoint hg (high_mem d)) hlevel hheard
  have hh : highGroup.filterMap (dtmfPart heard) = [((digitPair d).2, q.cdBm)] :=
    filterMap_dtmfPart (filterMap_high d) fun g hg => filter_near_two hhigh hlow (List.mem_append_right _ hg) hq hp
      (groups_disjoint (low_mem d) hg).symm hlevel' hheard.symm
  unfold dtmfPair
  rw [hl, hh]
  exact (if_pos ⟨htwist, htwist'⟩).trans (find_digitPair d)

/-- Two tones received make a digit's pair just where they are valid tones of it, in one order or the other. -/
theorem dtmfPair_two_iff (p q : HeardTone) (d : Digit) :
    dtmfPair [p, q] = some d ↔ validTones d p q ∨ validTones d q p := by
  constructor
  · intro h
    obtain ⟨a, ha, b, hb, hv⟩ := dtmfPair_tones h
    rcases List.mem_pair.1 ha with rfl | rfl <;> rcases List.mem_pair.1 hb with rfl | rfl
    · exact absurd hv (not_validTones_self d _)
    · exact .inl hv
    · exact .inr hv
    · exact absurd hv (not_validTones_self d _)
  · rintro (h | h)
    · exact dtmfPair_of_validTones h (.inl rfl)
    · exact dtmfPair_of_validTones h (.inr rfl)

theorem dtmfPair_one (p : HeardTone) : dtmfPair [p] = none := by
  by_contra h
  obtain ⟨d, hd⟩ := Option.ne_none_iff_exists'.1 h
  obtain ⟨a, ha, b, hb, hv⟩ := dtmfPair_tones hd
  rw [List.mem_singleton.1 ha, List.mem_singleton.1 hb] at hv
  exact not_validTones_self d p hv

end Sys2Proof.Machine
end

section
/-! SUPPORT. Digits sent (R29, R37), and the events of the DTMF detector on a line in VOICE (R35, R36). -/

namespace Sys2Proof.Machine

variable {s : State} {i : LineId}

/-! ## SEND_DIGITS (R37) -/

theorem runSendDigits_begins {d : Directive} {ns : List Nat} {x : Digit} {ds : List Digit}
    (hl : lineOf? d.line = some i) (ha : argDigits.read d.args = .good ns)
    (hds : allSome (ns.map digitOfPlace?) = some (x :: ds)) (hlen : ds.length ≤ 31)
    (hv : (s.line i).inVoice = true) (hq : (s.line i).tone.sendQueue = []) (htx : (s.line i).tone.digitTx = none) :
    runSendDigits d s =
      ⟨.ok, [], s.modLine i (fun l => ({ l with tone.sendQueue := ds } : Line).sendDigit s.now x)⟩ := by
  rw [runSendDigits, onLine_good hl ha]
  simp [hv, hds, Nat.not_lt.2 hlen, hq, htx, State.answer]

/-! ## Events of the detector (R35) -/

theorem detectsDtmf_voice (hst : (s.line i).state = .voice) (htx : (s.line i).tone.digitTx = none) :
    (s.line i).detectsDtmf = true := by
  simp [Line.detectsDtmf, Line.row, hst, htx, LineState.dtmf]

/-- An event that recognises no digit changes the detector alone. -/
theorem dtmfEvent_quiet {r : DtmfResult} (h : r.digits = []) :
    s.dtmfEvent i r = s.modLine i (fun l => { l with tone.dtmf := r.next }) := by
  simp [State.dtmfEvent, h]

theorem onset_idle (now : Ms) (d : Digit) : DtmfState.idle.onset now d = { next := .presence d now } := rfl

theorem stop_held (now : Ms) (d : Digit) : (DtmfState.held d none).stop now = { next := .held d (some now) } := rfl

theorem settle_present {now b : Ms} (d : Digit) (h : b + 40 ≤ now) :
    (DtmfState.presence d b).settle now = { next := .held d none } := by
  simp [DtmfState.settle, h]

theorem settle_absent {now b : Ms} (d : Digit) (h : b + 40 ≤ now) :
    (DtmfState.held d (some b)).settle now = { next := .idle, digits := [d] } := by
  simp [DtmfState.settle, h]

/-- A pair that stops within 40 ms is forgotten. -/
theorem stop_brief {now b : Ms} (d : Digit) (h : now < b + 40) :
    (DtmfState.presence d b).stop now = { next := .idle } := by
  simp [DtmfState.stop, DtmfState.settle, Nat.not_le.2 h]

/-- A valid pair starts on a line in VOICE, where that completes no digit. -/
theorem exec_dtmfPairChange_onset {d : Digit} {heard : List HeardTone} {st : DtmfState} (h : dtmfPair heard = some d)
    (hst : (s.line i).state = .voice) (htx : (s.line i).tone.digitTx = none)
    (hd : (s.line i).tone.dtmf.onset s.now d = { next := st }) :
    exec (.dtmfPairChange i heard) s = .next (s.modLine i (fun l =>
      { l with tone := { l.tone with pairOn := true, frameBusy := true, dtmf := st } })) := by
  simp [execDtmfPairChange, detectsDtmf_voice hst htx, h, hd, dtmfEvent_quiet]

/-- The pair stops on a line in VOICE, where that completes no digit. -/
theorem exec_dtmfPairChange_stop {heard : List HeardTone} {st : DtmfState} (h : dtmfPair heard = none)
    (hst : (s.line i).state = .voice) (htx : (s.line i).tone.digitTx = none)
    (hd : (s.line i).tone.dtmf.stop s.now = { next := st }) :
    exec (.dtmfPairChange i heard) s = .next (s.modLine i (fun l =>
      { l with tone := { l.tone with pairOn := false, dtmf := st } })) := by
  simp [execDtmfPairChange, detectsDtmf_voice hst htx, h, hd, dtmfEvent_quiet]

/-- A pair present for 40 ms is held. -/
theorem exec_dtmfPresenceExpiry_due {d : Digit} {b : Ms} (hd : (s.line i).tone.dtmf = .presence d b)
    (hb : b + 40 ≤ s.now) :
    exec (.dtmfPresenceExpiry i) s = .next (s.modLine i (fun l => { l with tone.dtmf := .held d none })) := by
  simp [execDtmfPresenceExpiry, hd, settle_present d hb, dtmfEvent_quiet]

/-- A held pair absent for 40 ms is recognised. -/
theorem exec_dtmfAbsenceExpiry_due {d : Digit} {b : Ms} (hd : (s.line i).tone.dtmf = .held d (some b))
    (hb : b + 40 ≤ s.now) : exec (.dtmfAbsenceExpiry i) s =
      .next (State.digitRecognised i (s.modLine i (fun l => { l with tone.dtmf := .idle })) d) := by
  simp [execDtmfAbsenceExpiry, State.dtmfEvent, hd, settle_absent d hb]

/-- Outside CLASSIFY a digit is no finding of the classification (R43). -/
theorem finding_unlistening {j : Job} {b : Basis} (h : (s.line i).state ≠ .classify) : s.finding i j b = s := by
  simp [State.finding, Line.listening, h]

/-- In VOICE a recognised digit is reported, and reaches the Voice Engine alone (R36). -/
theorem digitRecognised_voice (d : Digit) (hst : (s.line i).state = .voice) :
    State.digitRecognised i s d = (s.notifyLine i (.digits [d] false)).voiceDigit i d := by
  rw [State.digitRecognised, finding_unlistening (by simp [hst])]

/-- A line with no voice activity does nothing with a digit. -/
theorem voiceDigit_none (d : Digit) (h : (s.line i).voice.activity = .none) : s.voiceDigit i d = s := by
  simp [State.voiceDigit, h]

/-- A notice wanted on an empty queue is the only entry of it. -/
theorem notify_empty {l : Line} {n : Notice} (hw : l.profile.wants n.kind = true) (hq : l.queue.entries = []) :
    (l.notify n).queue.entries = [n] := by
  simp [notify_queue, hw, hq, NoticeQueue.offer, mergeInto, NoticeQueue.enter, Config.noticeQueueMax]

/-- Settles O15: SEND_DIGITS by `runSendDigits_begins`, the detector by `onset_idle`, `settle_present`, `settle_absent`
and `stop_brief`, a recognised digit by `digitRecognised_voice`, and a valid pair by `dtmfPair_two_iff`. -/
theorem digitsSentAndRecognised : Obligations.DigitsSentAndRecognised := by
  unfold Obligations.DigitsSentAndRecognised
  refine ⟨fun s i d ns x ds hs hl ha hds hlen hv hq htx => ?_, fun s i d heard h hst htx hd => ?_,
    fun s i d b hd hb => ?_, fun s i d b hd hb hst hv hw hq => ?_, fun x y p q d => ?_,
    fun p => ⟨rfl, dtmfPair_one p⟩, fun s i d heard h hst htx hd => ?_, fun s i d b heard h hst htx hd hb => ?_⟩
  · refine congrArg _ (directive_exact hs (t := s.modLine i (fun l =>
      ({ l with tone.sendQueue := ds } : Line).sendDigit s.now x)) ?_ hs.1 rfl)
    exact runSendDigits_begins (s := s.inHand 0x21 d) hl ha hds hlen hv hq htx
  · exact exec_dtmfPairChange_onset h hst htx (by rw [hd, onset_idle])
  · exact exec_dtmfPresenceExpiry_due hd hb
  · rw [exec_dtmfAbsenceExpiry_due hd hb, digitRecognised_voice _ (by simp [hst]),
      voiceDigit_none _ (by simp [hv])]
    refine ⟨_, rfl, eq_of_without (i := i) (by simp), ?_, ?_, ?_, ?_, ?_, othersSame_of_without (by simp)⟩
    · rw [line_notifyLine_same, line_modLine_same]
      exact (notify_eq _ _).trans (by simp)
    · simp
    · rw [line_notifyLine_same, line_modLine_same]
      exact notify_empty hw hq
    · simp
    · simp [hst]
  · rw [dtmfPair_two_iff]
    simp only [validTones, isNear, Bool.and_eq_true, decide_eq_true_eq]
    omega
  · exact exec_dtmfPairChange_stop h hst htx (by rw [hd, stop_held])
  · exact exec_dtmfPairChange_stop h hst htx (by rw [hd, stop_brief d hb])

end Sys2Proof.Machine
end

section
/-! SUPPORT. The caller identity window (R38 to R41) and the decision made at its close. The statement says that the
answer of a call that FAX alone is allowed for changes the lines and the areas, and nothing of the store. That asks for
a line with no greeting in hand, which the statement does not suppose: where one stands in the line's voice record, R44
stops it, and its entry loses the line's playing mark (R147). -/

namespace Sys2Proof.Machine

/-- A part whose line 0 rings, FAX alone being allowed, with its caller identity window about to close; its voice record
says that a greeting plays, and the entry of that greeting is marked as played by the line. -/
def strayGreeting : State :=
  { lines := #v[
      { state := .alerting, ring := { closed := 1 }, voice := { activity := .greeting }
        call := some { direction := .incoming, ringCount := 1, cadence := some .unmatched, cid := none, job := .none
                       start := none }
        profile := { defaultRings := 1, defaultMask := ⟨false, true, false⟩ }
        tone := { cid := { window := .open_, wait := some 0 } } }, {}, {}, {}]
    areas := (Vector.replicate 12 {}).set 0 { isDefined := true, units := 8, join := some (0, .stage) }
    faxLadder := [⟨300, 0, 1, 0⟩]
    store := { formatted := true, dir := [
      { id := 1, kind := .greeting, mailbox := 0, origin := none, stamp := none, cid := none, bits := none
        playing := [0] }] } }

/-- The routing copy that call gets: the default's, no entry of the routing table matching. -/
def strayCopy : RoutingCopy := ⟨none, .answer, some 1, ⟨false, true, false⟩, 0, none, .none⟩

theorem strayGreeting_route : strayCopy = strayGreeting.route 0 .unmatched { status := .none } := by decide

theorem strayGreeting_exec :
    exec (.cidWaitExpiry 0) strayGreeting = .next ((strayGreeting.closeWindow 0).decide? 0) := rfl

/-- The answer stops the greeting: the entry is no longer marked. -/
theorem strayGreeting_unmarked :
    ((strayGreeting.closeWindow 0).decide? 0).store.dir.map Entry.playing = [[]] := by decide

/-- Refutes O26: its clause of an answer that allows FAX alone fails at `strayGreeting`, where the store changes. -/
theorem not_callerIdentityWindow : ¬ Obligations.CallerIdentityWindow := by
  unfold Obligations.CallerIdentityWindow
  rintro ⟨-, -, -, -, -, -, -, -, -, -, -, -, hfax, -⟩
  obtain ⟨t, ht, hframe, -⟩ := hfax strayGreeting 0 0 _ strayCopy rfl rfl rfl le_rfl rfl rfl rfl le_rfl rfl
    strayGreeting_route rfl rfl le_rfl rfl (by decide) (by decide)
  obtain rfl : (strayGreeting.closeWindow 0).decide? 0 = t := Host.Outcome.next.inj (strayGreeting_exec.symm.trans ht)
  have hstore : ((strayGreeting.closeWindow 0).decide? 0).store = strayGreeting.store := (congrArg State.store hframe :)
  have hmarked : strayGreeting.store.dir.map Entry.playing = [[]] := hstore ▸ strayGreeting_unmarked
  exact absurd hmarked (by decide)

end Sys2Proof.Machine
end

section
/-! SUPPORT. A line that passes into the state of its job (R44, R70, R71, R97, R118): what is left behind of its voice
record, the areas it takes into use, and what each job starts with. -/

namespace Sys2Proof.Machine

variable {s t : State} {i : LineId}

/-! ## The areas a job needs (R70) -/

theorem joined_of_emptier (h : s.emptier t) (p : Purpose) : t.joined i p = s.joined i p := by
  simp only [State.joined, (h _).1]

theorem incomingReady_of_emptier (h : s.emptier t) (c : CallCopies) (j : Job) :
    t.incomingReady i c j = s.incomingReady i c j := by
  simp only [State.incomingReady, State.hasArea, joined_of_emptier h]

theorem dram_of_apart (h : t.apart i = s.apart i) : t.dram = s.dram :=
  (congrArg State.dram h :)

theorem store_of_apart (h : t.apart i = s.apart i) : t.store = s.store :=
  (congrArg State.store h :)

theorem dataLadder_of_around (h : t.around i = s.around i) : t.dataLadder = s.dataLadder :=
  (congrArg State.dataLadder (around_outside h) :)

theorem faxLadder_of_around (h : t.around i = s.around i) : t.faxLadder = s.faxLadder :=
  (congrArg State.faxLadder (around_outside h) :)

/-! ## The line as a STAGE area is emptied and a greeting stopped (R44) -/

variable (s i)

@[simp] theorem emptyStage_silent : ((s.emptyStage i).line i).silent = (s.line i).silent := by
  unfold State.emptyStage
  split <;> simp

@[simp] theorem emptyStage_apart : (s.emptyStage i).apart i = s.apart i := by
  unfold State.emptyStage
  split
  · rename_i k h
    exact emptyArea_apart (joined_join h)
  · rfl

theorem emptyStage_line_eq : (s.emptyStage i).line i = { s.line i with queue := ((s.emptyStage i).line i).queue } :=
  eq_of_silent (emptyStage_silent s i)

theorem useAreas_line_eq (ps : List Purpose) (c : ContentKind) :
    (s.useAreas i ps c).line i = { s.line i with queue := ((s.useAreas i ps c).line i).queue } :=
  eq_of_silent (useAreas_silent s i ps c)

theorem leaveGreeting_line_eq : (s.leaveGreeting i).line i = { s.line i with
    stage := ((s.leaveGreeting i).line i).stage, tone := ((s.leaveGreeting i).line i).tone
    voice := ((s.leaveGreeting i).line i).voice } := by
  unfold State.leaveGreeting State.leaveStage
  dsimp only
  split_ifs <;> simp

theorem leaveGreeting_queue : ((s.leaveGreeting i).line i).queue = (s.line i).queue :=
  (congrArg Line.queue (leaveGreeting_line_eq s i) :)

theorem stopGreeting_line_eq : (s.stopGreeting i).line i = { s.line i with
    stage := ((s.stopGreeting i).line i).stage, tone := ((s.stopGreeting i).line i).tone
    voice := ((s.stopGreeting i).line i).voice, queue := ((s.stopGreeting i).line i).queue } := by
  unfold State.stopGreeting
  rw [leaveGreeting_queue]
  refine (leaveGreeting_line_eq _ i).trans ?_
  split_ifs
  · rw [emptyStage_line_eq]
  · rfl

@[simp] theorem stopGreeting_dram : (s.stopGreeting i).dram = s.dram := by
  unfold State.stopGreeting
  split_ifs <;> simp

@[simp] theorem useAreas_dram (ps : List Purpose) (c : ContentKind) : (s.useAreas i ps c).dram = s.dram :=
  (congrArg State.dram (useAreas_apart s i ps c) :)

/-! ## The passage into the job's state -/

/-- The line leaves its greeting behind: it is stopped, its area emptied, and the voice record cleared (R44). -/
def State.clearVoice (s : State) (i : LineId) : State :=
  ((s.stopGreeting i).emptyStage i).modLine i (fun l => { l with voice := {} })

theorem clearVoice_line_eq : (s.clearVoice i).line i = { s.line i with
    stage := ((s.clearVoice i).line i).stage, tone := ((s.clearVoice i).line i).tone, voice := {}
    queue := ((s.clearVoice i).line i).queue } := by
  unfold State.clearVoice
  rw [line_modLine_same, emptyStage_line_eq, stopGreeting_line_eq]

@[simp] theorem clearVoice_around : (s.clearVoice i).around i = s.around i := by simp [State.clearVoice]

@[simp] theorem clearVoice_dram : (s.clearVoice i).dram = s.dram := by simp [State.clearVoice]

/-- A line takes areas into use and passes to the state of a job. -/
def State.takeJob (s : State) (i : LineId) (ps : List Purpose) (c : ContentKind) (st : LineState) : State :=
  (s.useAreas i ps c).pass i st

variable (ps : List Purpose) (c : ContentKind) (st : LineState)

theorem takeJob_line_eq : let l := (s.takeJob i ps c st).line i
    l = { s.line i with
      state := st, relay := st.offHook, carrier := l.carrier, tone := l.tone, loopTimer := l.loopTimer, ring := l.ring
      signals := l.signals, queue := l.queue } := by
  dsimp only
  unfold State.takeJob
  refine (pass_line_eq _ i st).trans ?_
  rw [useAreas_line_eq]

@[simp] theorem takeJob_apart : (s.takeJob i ps c st).apart i = s.apart i :=
  (apart_of_without (pass_without _ i st)).trans (useAreas_apart s i ps c)

@[simp] theorem takeJob_around : (s.takeJob i ps c st).around i = s.around i := by simp [State.takeJob]

theorem takeJob_now : (s.takeJob i ps c st).now = s.now := now_of_around (takeJob_around s i ps c st)

theorem takeJob_toneTable : (s.takeJob i ps c st).toneTable = s.toneTable :=
  toneTable_of_around (takeJob_around s i ps c st)

theorem takeJob_dataLadder : (s.takeJob i ps c st).dataLadder = s.dataLadder :=
  (congrArg State.dataLadder (takeJob_apart s i ps c st) :)

theorem takeJob_faxLadder : (s.takeJob i ps c st).faxLadder = s.faxLadder :=
  (congrArg State.faxLadder (takeJob_apart s i ps c st) :)

@[simp] theorem takeJob_dram : (s.takeJob i ps c st).dram = s.dram :=
  (congrArg State.dram (takeJob_apart s i ps c st) :)

variable {s i}

/-! ## What a job starts with (R97, R98, R118, R120) -/

/-- The line of a data call as it begins, in its role: the ladder bound, and the quality and link records set. -/
def Line.dataBegun (s : State) (k : Link) (l : Line) : Line :=
  let c := l.copies.bindData s.dataLadder
  { l with copies := c, quality := { floor := some c.dataFloor }, link := { k with own := some (s.ownCapability c) } }

theorem startData_answer (h : s.dataLadder ≠ []) : s.startData i .answer = (s.modLine i (Line.dataBegun s
    { phase := .answerTone, role := some .answer, toneEnd := some (s.now + 3000) })).generate i .dataAnswer 3000 := by
  unfold State.startData
  simp only [List.isEmpty_eq_false_iff.2 h, Bool.false_eq_true, if_false, modLine_modLine]
  refine congrArg (·.generate i .dataAnswer 3000) (modLine_congr s i ?_)
  simp only [line_modLine_same]
  rfl

theorem startData_originate_line (h : s.dataLadder ≠ []) (hst : (s.line i).state ≠ .loopback) :
    s.startData i .originate = s.modLine i (Line.dataBegun s
      { phase := .exchange, role := some .originate, exchangeTimer := some (s.now + 6000) }) := by
  unfold State.startData
  simp only [List.isEmpty_eq_false_iff.2 h, Bool.false_eq_true, if_false, modLine_modLine]
  exact modLine_congr s i (by simp [Line.dataBegun, State.ownCapability, State.start, hst])

theorem startFaxReceiver_begins (h : s.faxLadder ≠ []) : s.startFaxReceiver i =
    (s.modLine i (fun l => { l.bindFax s.faxLadder with fax :=
      { phase := .establish, role := some .receiver, toneEnd := some (s.now + 3000) }
      })).generate i .faxAnswer 3000 := by
  unfold State.startFaxReceiver
  simp [List.isEmpty_eq_false_iff.2 h, State.start]

theorem startFaxSender_line (h : s.faxLadder ≠ []) (hst : (s.line i).state ≠ .loopback) : s.startFaxSender i =
    (s.modLine i (fun l => { l.bindFax s.faxLadder with
      fax := { phase := .establish, role := some .sender, source := l.faxSource, toneEnd := some (s.now + 15000) }
      faxEcho := {} })).generate i .faxCall 15000 := by
  unfold State.startFaxSender
  simp only [List.isEmpty_eq_false_iff.2 h, Bool.false_eq_true, if_false]
  rw [if_neg (by simpa [State.generate, Line.bindFax] using hst)]
  simp [State.start, Line.bindFax]

/-! ## A call received (R44) -/

/-- The line of a call as its data job begins at the answering end. -/
theorem takeJob_startData (h : s.dataLadder ≠ []) :
    let t := (s.takeJob i ps c .data).startData i .answer
    t.apart i = s.apart i ∧ (t.line i).state = .data ∧ (t.line i).relay = true ∧ (t.line i).job = (s.line i).job ∧
    (t.line i).call = (s.line i).call ∧ (t.line i).voice = (s.line i).voice ∧
    (t.line i).link.phase = .answerTone ∧ (t.line i).link.role = some .answer ∧
    (t.line i).link.toneEnd = some (s.now + 3000) ∧
    (t.line i).tone.gen = toneRequest s.toneTable s.now .dataAnswer 3000 ∧
    (t.line i).profile = (s.line i).profile := by
  have hline := takeJob_line_eq s i ps c .data
  have hap := takeJob_apart s i ps c .data
  have hnow := takeJob_now s i ps c .data
  have htable := takeJob_toneTable s i ps c .data
  have hladder := takeJob_dataLadder s i ps c .data
  dsimp only at hline ⊢
  rw [startData_answer (by rwa [hladder])]
  refine ⟨(apart_of_without (by simp)).trans hap, ?_⟩
  simp only [State.generate, line_modLine_same, modLine_toneTable, modLine_now]
  rw [hline]
  simp [Line.dataBegun, LineState.offHook, hnow, htable]

/-- The line of a call as its fax job begins at the receiving end. -/
theorem takeJob_startFaxReceiver (h : s.faxLadder ≠ []) :
    let t := (s.takeJob i ps c .fax).startFaxReceiver i
    t.apart i = s.apart i ∧ (t.line i).state = .fax ∧ (t.line i).relay = true ∧ (t.line i).job = (s.line i).job ∧
    (t.line i).call = (s.line i).call ∧ (t.line i).voice = (s.line i).voice ∧
    (t.line i).fax.phase = .establish ∧ (t.line i).fax.role = some .receiver ∧
    (t.line i).fax.toneEnd = some (s.now + 3000) ∧
    (t.line i).tone.gen = toneRequest s.toneTable s.now .faxAnswer 3000 ∧
    (t.line i).profile = (s.line i).profile := by
  have hline := takeJob_line_eq s i ps c .fax
  have hap := takeJob_apart s i ps c .fax
  have hnow := takeJob_now s i ps c .fax
  have htable := takeJob_toneTable s i ps c .fax
  have hladder := takeJob_faxLadder s i ps c .fax
  dsimp only at hline ⊢
  rw [startFaxReceiver_begins (by rwa [hladder])]
  refine ⟨(apart_of_without (by simp)).trans hap, ?_⟩
  simp only [State.generate, line_modLine_same, modLine_toneTable, modLine_now]
  rw [hline]
  simp [Line.bindFax, LineState.offHook, hnow, htable]

end Sys2Proof.Machine
end

section
/-! SUPPORT. The end of the classification, and the answer a tone gives a call made (R34, R42 to R44, R53). -/

namespace Sys2Proof.Machine

variable {s : State} {i : LineId}

/-! ## A classification result (R44) -/

/-- The line with a classification result in its record, its job taken and its classification time stopped. -/
def Line.classified (j : Job) (b : Basis) (l : Line) : Line :=
  { l.modCall (fun c => { c with classification := some (j, b), job := j }) with job := j, classifyTimer := none }

/-- A classification result is noted and reported. -/
def State.noteResult (s : State) (i : LineId) (j : Job) (b : Basis) : State :=
  (s.modLine i (Line.classified j b)).notifyLine i (.classified j b)

theorem classResult_eq (j : Job) (b : Basis) : s.classResult i j b =
    if s.incomingReady i (s.line i).copies j then (s.noteResult i j b).enterJob i j
    else (s.noteResult i j b).release i .locally := by
  have hcopies : ((s.noteResult i j b).line i).copies = (s.line i).copies := by
    simp [State.noteResult, Line.classified, Line.modCall]
  have hready : (s.noteResult i j b).incomingReady i (s.line i).copies j = s.incomingReady i (s.line i).copies j :=
    incomingReady_of_emptier (emptier_of_areas rfl) _ _
  rw [← hready, ← hcopies]
  rfl

theorem noteResult_line (j : Job) (b : Basis) : (s.noteResult i j b).line i =
    { Line.classified j b (s.line i) with queue := ((s.noteResult i j b).line i).queue } := by
  unfold State.noteResult
  rw [line_notifyLine_same, line_modLine_same]
  exact notify_eq _ _

@[simp] theorem noteResult_without (j : Job) (b : Basis) : (s.noteResult i j b).without i = s.without i := by
  simp [State.noteResult]

theorem noteResult_dram (j : Job) (b : Basis) : (s.noteResult i j b).dram = s.dram :=
  (congrArg State.dram (noteResult_without (s := s) (i := i) j b) :)

/-! ## The jobs of a call received (R44) -/

/-- The line as a result has been noted and its greeting left behind. -/
theorem clearVoice_noteResult (s : State) (i : LineId) (j : Job) (b : Basis) :
    let t := (s.noteResult i j b).clearVoice i
    t.around i = s.around i ∧ t.dram = s.dram ∧ (t.line i).job = j ∧ (t.line i).voice = {} ∧
    (t.line i).profile = (s.line i).profile ∧
    (t.line i).call = (s.line i).call.map (fun c => { c with classification := some (j, b), job := j }) := by
  dsimp only
  refine ⟨?_, by simp [noteResult_dram], ?_⟩
  · rw [clearVoice_around, State.noteResult, notifyLine_around]
    exact modLine_around s i (fun _ => rfl)
  · rw [clearVoice_line_eq, noteResult_line]
    simp [Line.classified, Line.modCall]

theorem classResult_data (b : Basis) (hready : s.incomingReady i (s.line i).copies .data = true) :
    s.classResult i .data b =
      (((s.noteResult i .data b).clearVoice i).takeJob i [.tx, .rx] .data .data).startData i .answer := by
  rw [classResult_eq, if_pos hready]
  rfl

theorem classResult_fax (b : Basis) (hready : s.incomingReady i (s.line i).copies .fax = true) :
    s.classResult i .fax b = (((s.noteResult i .fax b).clearVoice i).takeJob i
      (incomingUses ((s.noteResult i .fax b).line i).copies .fax) .page .fax).startFaxReceiver i := by
  rw [classResult_eq, if_pos hready]
  rfl

/-- The line of a VOICE result has passed into VOICE. -/
def State.voiceTaken (s : State) (i : LineId) (b : Basis) : State :=
  (s.noteResult i .voice b).takeJob i [.stage, .rx, .tx] .voice .voice

theorem voiceTaken_line (s : State) (i : LineId) (b : Basis) : let t := s.voiceTaken i b
    (t.line i).state = .voice ∧ (t.line i).relay = true ∧ (t.line i).job = .voice ∧
    (t.line i).voice = (s.line i).voice ∧ (t.line i).profile = (s.line i).profile ∧
    (t.line i).call = (s.line i).call.map (fun c => { c with classification := some (.voice, b), job := .voice }) := by
  dsimp only [State.voiceTaken]
  rw [takeJob_line_eq, noteResult_line]
  exact ⟨rfl, rfl, rfl, rfl, rfl, rfl⟩

theorem voiceTaken_dram (s : State) (i : LineId) (b : Basis) : (s.voiceTaken i b).dram = s.dram := by
  rw [State.voiceTaken, takeJob_dram, noteResult_dram]

theorem voiceTaken_now (s : State) (i : LineId) (b : Basis) : (s.voiceTaken i b).now = s.now :=
  (takeJob_now _ i _ _ _).trans (now_of_without (noteResult_without _ _))

/-- A VOICE result on a line that plays nothing starts the record tone (R44, R159). -/
theorem classResult_voice (b : Basis) (hready : s.incomingReady i (s.line i).copies .voice = true)
    (hbarge : (s.line i).voice.barge = false) (hact : (s.line i).voice.activity = .none) :
    s.classResult i .voice b = (s.voiceTaken i b).startRecordTone i := by
  obtain ⟨-, -, -, hvoice, -, -⟩ := voiceTaken_line s i b
  have henter : (s.noteResult i .voice b).enterJob i .voice =
      if ((s.voiceTaken i b).line i).voice.barge then (s.voiceTaken i b).handOver i
      else if ((s.voiceTaken i b).line i).voice.activity = .none then (s.voiceTaken i b).startRecordTone i
      else s.voiceTaken i b := rfl
  rw [classResult_eq, if_pos hready, henter, hvoice, if_neg (by simp [hbarge]), if_pos hact]

theorem startRecordTone_begins (h : 0 < (s.line i).profile.recordToneMs) :
    s.startRecordTone i = (s.modLine i (fun l => { l with voice := { l.voice with
      activity := .recordTone, toneEnd := some (s.now + (s.line i).profile.recordToneMs) } })).generate i .recordTone
      (s.line i).profile.recordToneMs := by
  simp [State.startRecordTone, h.ne', State.start]

/-! ## The answer a tone gives a call made (R34, R97, R118, R166) -/

variable (s i)

/-- The line with its waits for an answer ended. -/
def State.answerTaken (s : State) (i : LineId) : State :=
  s.modLine i (fun l => { l with answerWait := none, watch := none })

/-- What the answer of a call made leaves of the line, whatever its job. -/
structure Line.AnsweredTo (l l' : Line) : Prop where
  relay : l'.relay = true
  answerWait : l'.answerWait = none
  watch : l'.watch = none
  job : l'.job = l.job
  profile : l'.profile = l.profile

variable {s i}

theorem answerTaken_pass (s : State) (i : LineId) (st : LineState) : let t := (s.answerTaken i).pass i st
    t.without i = s.without i ∧ (t.line i).state = st ∧ (t.line i).relay = st.offHook ∧ (t.line i).answerWait = none ∧
    (t.line i).watch = none ∧ (t.line i).job = (s.line i).job ∧ (t.line i).profile = (s.line i).profile ∧
    (t.line i).faxSource = (s.line i).faxSource := by
  dsimp only
  refine ⟨by simp [State.answerTaken], ?_⟩
  rw [pass_line_eq]
  simp [State.answerTaken]

theorem answered_data (hj : (s.line i).job = .data) (h : s.dataLadder ≠ []) :
    (s.answered i).without i = s.without i ∧ (s.line i).AnsweredTo ((s.answered i).line i) ∧
    ((s.answered i).line i).state = .data ∧
    ((s.answered i).line i).link.phase = .exchange ∧ ((s.answered i).line i).link.role = some .originate ∧
    ((s.answered i).line i).link.exchangeTimer = some (s.now + 6000) := by
  have hrun : s.answered i = ((s.answerTaken i).pass i .data).startData i .originate := by
    simp [State.answered, State.answerTaken, hj]
  obtain ⟨hwo, hst, hrel, hwait, hwatch, hjob, hprof, -⟩ := answerTaken_pass s i .data
  rw [hrun]
  clear hrun
  generalize (s.answerTaken i).pass i .data = t at *
  have hladder : t.dataLadder = s.dataLadder := (congrArg State.dataLadder hwo :)
  rw [startData_originate_line (by rwa [hladder]) (by simp [hst])]
  simp only [line_modLine_same]
  exact ⟨by simpa using hwo, ⟨hrel, hwait, hwatch, hjob, hprof⟩, hst, rfl, rfl,
    by simp [Line.dataBegun, now_of_without hwo]⟩

theorem answered_fax (hj : (s.line i).job = .fax) (h : s.faxLadder ≠ []) :
    (s.answered i).without i = s.without i ∧ (s.line i).AnsweredTo ((s.answered i).line i) ∧
    ((s.answered i).line i).state = .fax ∧
    ((s.answered i).line i).fax.phase = .establish ∧ ((s.answered i).line i).fax.role = some .sender ∧
    ((s.answered i).line i).fax.source = (s.line i).faxSource ∧
    ((s.answered i).line i).fax.toneEnd = some (s.now + 15000) := by
  have hrun : s.answered i = ((s.answerTaken i).pass i .fax).startFaxSender i := by
    simp [State.answered, State.answerTaken, hj]
  obtain ⟨hwo, hst, hrel, hwait, hwatch, hjob, hprof, hsource⟩ := answerTaken_pass s i .fax
  rw [hrun]
  clear hrun
  generalize (s.answerTaken i).pass i .fax = t at *
  have hladder : t.faxLadder = s.faxLadder := (congrArg State.faxLadder hwo :)
  rw [startFaxSender_line (by rwa [hladder]) (by simp [hst])]
  simp only [State.generate, line_modLine_same]
  exact ⟨by simpa using hwo, ⟨hrel, hwait, hwatch, hjob, hprof⟩, hst, trivial, trivial, hsource,
    by rw [now_of_without hwo]⟩

theorem answered_voice (hj : (s.line i).job = .voice) :
    (s.answered i).without i = s.without i ∧ (s.line i).AnsweredTo ((s.answered i).line i) ∧
    ((s.answered i).line i).state = .voice ∧
    ((s.answered i).line i).voice = { mode := .host } := by
  have hrun : s.answered i = ((s.answerTaken i).pass i .voice).startHostVoice i := by
    simp [State.answered, State.answerTaken, hj]
  obtain ⟨hwo, hst, hrel, hwait, hwatch, hjob, hprof, -⟩ := answerTaken_pass s i .voice
  rw [hrun]
  clear hrun
  generalize (s.answerTaken i).pass i .voice = t at *
  unfold State.startHostVoice
  exact ⟨by simpa using hwo, ⟨by simpa [LineState.offHook] using hrel, by simpa using hwait, by simpa using hwatch,
    by simpa using hjob, by simpa using hprof⟩, by simpa using hst, by simp⟩

/-- A line that has left PROGRESS for a state other than VOICE and LOOPBACK gives the Voice Engine no tone. -/
theorem voiceTone_outside (c : ToneClass) (first : Nat) (h : (s.line i).state = .data ∨ (s.line i).state = .fax) :
    s.voiceTone i c first = s := by
  rcases h with h | h <;> simp [State.voiceTone, Line.inVoice, Line.row, h]

theorem voiceTone_host (c : ToneClass) (first : Nat) (h : (s.line i).voice = { mode := .host }) :
    s.voiceTone i c first = s := by
  simp [State.voiceTone, h]

/-- The answer of a call of any job, in which no tone is left for the Voice Engine. -/
theorem answered_any (hj : (s.line i).job ≠ .none) (hdl : s.dataLadder ≠ []) (hfl : s.faxLadder ≠ []) :
    let t := s.answered i
    t.without i = s.without i ∧ (s.line i).AnsweredTo (t.line i) ∧
    ((s.line i).job = .data → (t.line i).state = .data ∧ (t.line i).link.phase = .exchange ∧
      (t.line i).link.role = some .originate ∧ (t.line i).link.exchangeTimer = some (s.now + 6000)) ∧
    ((s.line i).job = .fax → (t.line i).state = .fax ∧ (t.line i).fax.phase = .establish ∧
      (t.line i).fax.role = some .sender ∧ (t.line i).fax.source = (s.line i).faxSource ∧
      (t.line i).fax.toneEnd = some (s.now + 15000)) ∧
    ((s.line i).job = .voice → (t.line i).state = .voice ∧ (t.line i).voice = { mode := .host }) ∧
    ∀ c first, t.voiceTone i c first = t := by
  dsimp only
  cases hjob : (s.line i).job with
  | none => exact absurd hjob hj
  | data =>
    obtain ⟨hwo, hto, hst, hlink⟩ := answered_data hjob hdl
    exact ⟨hwo, hto, fun _ => ⟨hst, hlink⟩, nofun, nofun, fun c n => voiceTone_outside c n (.inl hst)⟩
  | fax =>
    obtain ⟨hwo, hto, hst, hfax⟩ := answered_fax hjob hfl
    exact ⟨hwo, hto, nofun, fun _ => ⟨hst, hfax⟩, nofun, fun c n => voiceTone_outside c n (.inr hst)⟩
  | voice =>
    obtain ⟨hwo, hto, hst, hvoice⟩ := answered_voice hjob
    exact ⟨hwo, hto, nofun, nofun, fun _ => ⟨hst, hvoice⟩, fun c n => voiceTone_host c n hvoice⟩

/-- The DATA_ANSWER tone confirmed in PROGRESS answers the call (R27, R34). -/
theorem continuousToneConfirm_dataAnswer {e : ToneEntry} {m : Matcher} {b : Ms} (hst : (s.line i).state = .progress)
    (hm : (s.line i).tone.matchers = [m]) (ht : s.toneTable = [e]) (hid : m.id = e.id) (hcls : e.cls = .dataAnswer)
    (hcont : e.continuous = true) (hphase : m.phase = .on b) (hdue : b + (e.segment m.seg).onMin ≤ s.now)
    (hj : (s.line i).job ≠ .none) (hdl : s.dataLadder ≠ []) (hfl : s.faxLadder ≠ []) :
    exec (.continuousToneConfirm i e.id) s = .next ((s.modLine i (fun l =>
      { l with tone.matchers := [(m.expire e s.now).matcher] })).answered i) := by
  have hrun : exec (.continuousToneConfirm i e.id) s = .next
      (s.matchEvent i e.id (fun e m => if e.continuous then m.expire e s.now else { matcher := m })) := rfl
  have hconf : (m.expire e s.now).confirmed = true := by simp [Matcher.expire, hphase, hdue, hcont]
  rw [hrun, matchEvent_confirmed ht hm hid (by simp [hcont, hconf]) (by simp [hcls])]
  simp only [hcont, if_true]
  set s1 := s.modLine i (fun l => { l with tone.matchers := [(m.expire e s.now).matcher] }) with hs1
  have hanswers : ToneClass.answers .dataAnswer (s1.line i).job = true := by
    rw [show (s1.line i).job = (s.line i).job by simp [hs1]]
    cases hjob : (s.line i).job <;> simp_all [ToneClass.answers]
  have hline : s1.lineTone i .dataAnswer = s1.answered i := by
    rw [show s1.lineTone i .dataAnswer = s1.progressTone i .dataAnswer by simp [State.lineTone, hs1, hst]]
    simp [State.progressTone, hanswers]
  have hlad : s1.dataLadder ≠ [] ∧ s1.faxLadder ≠ [] := ⟨by simpa [hs1] using hdl, by simpa [hs1] using hfl⟩
  obtain ⟨-, -, -, -, -, hquiet⟩ := answered_any (s := s1) (i := i) (by simpa [hs1] using hj) hlad.1 hlad.2
  rw [State.confirmed, hcls, hline, hquiet]

/-! ## The obligation -/

/-- Settles O27: a result by `classResult_eq` and the equations of its job, the tone by
`continuousToneConfirm_dataAnswer` and the answer of each job. -/
theorem classificationEnds : Obligations.ClassificationEnds := by
  unfold Obligations.ClassificationEnds
  refine ⟨fun s i d c hst hr ha ht hd => ?_, fun s i j b hready => ?_, fun s i d hst ht hd => ?_,
    fun s i b _ hc hready hl => ?_, fun s i b _ hc hready hl => ?_, fun s i b _ hc hready hbarge hact hms => ?_,
    fun s i e m b hst hm ht hid hcls hcont hphase hdue _ hj hdl hfl => ?_, fun c j => ?_⟩
  · have hlisten : (s.line i).listening = true := by simp [Line.listening, hst, hr, ha]
    have hdue : due s.now (s.line i).classifyTimer = true := by simp [due, ht, hd]
    simp [execClassifyTimeExpiry, hlisten, hdue, Line.defaultJob, hr, JobSet.default]
  · rw [classResult_eq, hready]
    rfl
  · simp [execAnswerDropExpiry, hst, due, ht, hd]
  · obtain ⟨haround, hdram, hjob, hvoice, -, hcall⟩ := clearVoice_noteResult s i .data b
    have hladder : ((s.noteResult i .data b).clearVoice i).dataLadder ≠ [] := by
      rwa [dataLadder_of_around haround]
    obtain ⟨hap, hst', hrel, hjob', hcall', hvoice', hphase, hrole, htone, hgen, -⟩ :=
      takeJob_startData [.tx, .rx] .data hladder
    rw [classResult_data b hready, hst', hrel, hjob', hcall', hvoice', hphase, hrole, htone, hgen,
      dram_of_apart hap, hjob, hvoice, hdram, hcall, now_of_around haround, toneTable_of_around haround]
    obtain ⟨k, hk⟩ := Option.isSome_iff_exists.1 hc
    simp [hk]
  · obtain ⟨haround, hdram, hjob, hvoice, -, hcall⟩ := clearVoice_noteResult s i .fax b
    have hladder : ((s.noteResult i .fax b).clearVoice i).faxLadder ≠ [] := by
      rwa [faxLadder_of_around haround]
    obtain ⟨hap, hst', hrel, hjob', hcall', hvoice', hphase, hrole, htone, hgen, -⟩ :=
      takeJob_startFaxReceiver (incomingUses ((s.noteResult i .fax b).line i).copies .fax) .page hladder
    rw [classResult_fax b hready, hst', hrel, hjob', hcall', hvoice', hphase, hrole, htone, hgen,
      dram_of_apart hap, hjob, hvoice, hdram, hcall, now_of_around haround, toneTable_of_around haround]
    obtain ⟨k, hk⟩ := Option.isSome_iff_exists.1 hc
    simp [hk]
  · obtain ⟨hst', hrel, hjob, -, hprof, hcall⟩ := voiceTaken_line s i b
    obtain ⟨k, hk⟩ := Option.isSome_iff_exists.1 hc
    rw [classResult_voice b hready hbarge hact, startRecordTone_begins (by rwa [hprof]), hprof, voiceTaken_now]
    simp only [State.generate, line_modLine_same]
    refine ⟨hst', hjob, hrel, trivial, trivial, ?_, by simp [voiceTaken_dram]⟩
    rw [hcall, hk]
    rfl
  · set s1 := s.modLine i (fun l => { l with tone.matchers := [(m.expire e s.now).matcher] }) with hs1
    have hwo1 : s1.without i = s.without i := by simp [hs1]
    have hl1 : s1.line i = { s.line i with tone.matchers := [(m.expire e s.now).matcher] } := by simp [hs1]
    obtain ⟨hwo, hto, hdata, hfax, hvoice, -⟩ := answered_any (s := s1) (i := i) (by rwa [hl1])
      (by simpa [hs1] using hdl) (by simpa [hs1] using hfl)
    rw [hl1] at hto hdata hfax hvoice
    rw [now_of_without hwo1] at hdata hfax
    have hframe := hwo.trans hwo1
    exact ⟨_, continuousToneConfirm_dataAnswer hst hm ht hid hcls hcont hphase hdue hj hdl hfl, eq_of_without hframe,
      hto.relay, hto.answerWait, hto.watch, hto.job, hto.profile, hdata, hfax, hvoice, othersSame_of_without hframe⟩
  · cases c <;> cases j <;> simp [ToneClass.answers]

end Sys2Proof.Machine
end

section
/-! SUPPORT. RECORD, PLAY and VOICE_STOP on a line in VOICE (R160, R166 to R170). -/

namespace Sys2Proof.Machine

variable {s u : State} {i : LineId} {d : Directive}

/-! ## A line in VOICE -/

theorem inVoice_voice (h : (s.line i).state = .voice) : (s.line i).inVoice = true := by
  simp [Line.inVoice, Line.row, h]

theorem handDone_eq_of_around {code : Byte} (hs : s.takes) (h : u.around i = (s.inHand code d).around i)
    (hd : u.dram = s.dram) :
    u.handDone = { s with lines := u.handDone.lines, store := u.handDone.store, areas := u.handDone.areas } := by
  refine (handDone_eq_of_outside hs (around_outside h)).trans ?_
  rw [handDone_dram, hd]

/-! ## RECORD (R160, R166) -/

theorem runRecord_host (hl : lineOf? d.line = some i) (ha : argRecord.read d.args = .good none)
    (hv : (s.line i).state = .voice) (hidle : (s.line i).voiceIdle = true) (harea : s.hasArea i .rx = true) :
    runRecord d s = ⟨.started, [], s.beginHosted i⟩ := by
  rw [runRecord, onLine_good hl ha]
  simp [inVoice_voice hv, hidle, harea, State.answer]

theorem runRecord_store {k mb : Nat} {kind : MsgKind} (hl : lineOf? d.line = some i)
    (ha : argRecord.read d.args = .good (some (k, mb))) (hk : soundKind? k = some kind) (hmb : mb ≤ 15)
    (hv : (s.line i).state = .voice) (hidle : (s.line i).voiceIdle = true) (hf : s.store.formatted = true)
    (hguard : s.store.guard < s.store.free.length) (hdir : s.store.dir.length < 256)
    (harea : s.hasArea i .stage = true) : runRecord d s = ⟨.started, [], s.beginStored i kind mb false⟩ := by
  rw [runRecord, onLine_good hl ha]
  simp [inVoice_voice hv, hidle, harea, State.answer, hk, within, hmb, State.runRecordStore, hf, Store.freeCount,
    Nat.not_le.2 hguard, Config.directoryMax, Nat.not_le.2 hdir]

/-- The entry a recording opens, in the directory the open leaves (R145, R146). -/
def State.recordingEntry (s : State) (i : LineId) (kind : MsgKind) (mb : Nat) : Entry :=
  { id := freeId (s.store.dir.map Entry.id) 257 s.store.nextId, kind, mailbox := mb, origin := some i, stamp := s.stamp
    cid := (s.line i).call.bind CallRecord.cid, bits := some (s.line i).profile.voiceBits }

/-- The part with the entry of a recording opened behind an emptied STAGE area. -/
def State.recordingOpened (s : State) (i : LineId) (e : Entry) : State :=
  { s.emptyStage i with store.dir := s.store.dir ++ [e], store.nextId := idAfter e.id }

theorem beginStored_opens {kind : MsgKind} {mb : Nat} {w : Bool} (hf : s.store.formatted = true)
    (hdir : s.store.dir.length < 256) (hopen : s.holdsOpen (some i) = false) : s.beginStored i kind mb w =
      ((s.recordingOpened i (s.recordingEntry i kind mb)).startWriting i (s.recordingEntry i kind mb).id).modLine i
        (Line.startCoding (s.newRecording i .store kind mb (some (s.recordingEntry i kind mb).id) w)) := by
  have hopen' : (s.emptyStage i).holdsOpen (some i) = false := by simpa [State.holdsOpen] using hopen
  have hclock : (s.emptyStage i).clock = s.clock :=
    (congrArg State.clock (around_outside (emptyStage_around (i := i) s i)) :)
  have hok : (s.emptyStage i).openEntry kind mb (some i) ((s.line i).call.bind CallRecord.cid)
      (some (s.line i).profile.voiceBits) =
      .ok ((s.recordingEntry i kind mb).id, s.recordingOpened i (s.recordingEntry i kind mb)) := by
    simp [State.openEntry, hf, Config.directoryMax, Nat.not_le.2 hdir, hopen', State.recordingOpened,
      State.recordingEntry, State.stamp, hclock]
  simp only [State.beginStored, hok]

theorem startWriting_line (id : Nat) : (s.startWriting i id).line i =
    { s.line i with queue := ((s.startWriting i id).line i).queue, stage := .writing id false false } := by
  unfold State.startWriting
  rw [line_modLine_same, emptyStage_line_eq]

theorem startReading_line (id pos len : Nat) : (s.startReading i id pos len).line i =
    { s.line i with queue := ((s.startReading i id pos len).line i).queue, stage := .reading id pos (pos + len) } := by
  unfold State.startReading
  rw [line_modLine_same, emptyStage_line_eq]

/-- The line as a recording to the store begins: its area is written for the entry, and it codes (R160). -/
theorem beginStored_effect {kind : MsgKind} {mb : Nat} {w : Bool} (hf : s.store.formatted = true)
    (hdir : s.store.dir.length < 256) (hopen : s.holdsOpen (some i) = false) :
    let t := s.beginStored i kind mb w
    let e := s.recordingEntry i kind mb
    t.around i = s.around i ∧ t.dram = s.dram ∧ t.store.dir = s.store.dir ++ [e] ∧
    ∃ q, t.line i = ({ s.line i with queue := q, stage := .writing e.id false false } : Line).startCoding
      (s.newRecording i .store kind mb (some e.id) w) := by
  dsimp only
  rw [beginStored_opens hf hdir hopen]
  refine ⟨?_, ?_, ?_, ?_⟩
  · rw [modLine_around _ _ (fun _ => by rfl), startWriting_around]
    exact emptyStage_around s i i
  · simp [State.startWriting, State.recordingOpened]
  · simp [State.startWriting, State.recordingOpened]
  · have hopened : (s.recordingOpened i (s.recordingEntry i kind mb)).line i =
        { s.line i with queue := ((s.emptyStage i).line i).queue } := emptyStage_line_eq s i
    rw [line_modLine_same, startWriting_line, hopened]
    exact ⟨_, rfl⟩

/-- RECORD to the store on a line in VOICE (R160, R166). -/
theorem record_store {k mb : Nat} {kind : MsgKind} (hs : s.takes) (hl : lineOf? d.line = some i)
    (ha : argRecord.read d.args = .good (some (k, mb))) (hk : soundKind? k = some kind) (hmb : mb ≤ 15)
    (hv : (s.line i).state = .voice) (hidle : (s.line i).voiceIdle = true) (hf : s.store.formatted = true)
    (hguard : s.store.guard < s.store.free.length) (hdir : s.store.dir.length < 256)
    (harea : s.hasArea i .stage = true) (hopen : s.holdsOpen (some i) = false) :
    repliesWith (exec (.record d) s) s ⟨0x70, d.tag, .started, []⟩ (fun t =>
      t = { s with lines := t.lines, store := t.store, areas := t.areas } ∧
      t.line i = { s.line i with
        voice := (t.line i).voice, stage := (t.line i).stage, queue := (t.line i).queue, tone := (t.line i).tone } ∧
      ∃ e, t.store.dir = s.store.dir ++ [e] ∧ e.kind = kind ∧ e.state = .opened ∧ e.mailbox = mb ∧
        e.origin = some i ∧ e.length = 0 ∧ e.bits = some (s.line i).profile.voiceBits ∧
        (t.line i).voice.activity = .recording ∧ (t.line i).stage = .writing e.id false false ∧
        (t.line i).voice.recording.map (fun r => (r.entry, r.coded, r.limit)) =
          some (some e.id, 0, (s.line i).profile.maxRecordS * (1000 * (s.line i).profile.voiceBits))) := by
  obtain ⟨haround, hdram, hstore, q, hline⟩ :=
    beginStored_effect (s := s.inHand 0x70 d) (i := i) (kind := kind) (mb := mb) (w := false) hf hdir hopen
  refine directive_around hs (runRecord_store (s := s.inHand 0x70 d) hl ha hk hmb hv hidle hf hguard hdir harea) haround
    rfl ⟨handDone_eq_of_around hs haround hdram, ?_, _, hstore, rfl, rfl, rfl, rfl, rfl, rfl, ?_⟩
  all_goals rw [handDone_line, hline]
  · rfl
  · exact ⟨rfl, rfl, rfl⟩

/-- RECORD to the host on a line in VOICE (R166). -/
theorem record_host (hs : s.takes) (hl : lineOf? d.line = some i) (ha : argRecord.read d.args = .good none)
    (hv : (s.line i).state = .voice) (hidle : (s.line i).voiceIdle = true) (harea : s.hasArea i .rx = true) :
    repliesWith (exec (.record d) s) s ⟨0x70, d.tag, .started, []⟩ (fun t =>
      t = { s with lines := t.lines } ∧
      t.line i = { s.line i with voice := (t.line i).voice, tone := (t.line i).tone } ∧
      (t.line i).voice.activity = .recording ∧ (t.line i).voice.recording.map (fun r => (r.target, r.coded)) =
        some (.host, 0) ∧ t.store = s.store ∧ othersSame i s t) := by
  have hfr : ((s.inHand 0x70 d).beginHosted i).without i = (s.inHand 0x70 d).without i := by
    simp only [State.beginHosted, modLine_without]
  have hline : ((s.inHand 0x70 d).beginHosted i).line i =
      (s.line i).startCoding (s.newRecording i .host .voice 0 none false) := by
    simp only [State.beginHosted, line_modLine_same]
    rfl
  refine directive_without hs (runRecord_host (s := s.inHand 0x70 d) hl ha hv hidle harea) hfr rfl
    ⟨handDone_eq_of_without hs hfr, ?_, ?_, ?_, rfl, handDone_othersSame hfr⟩
  all_goals rw [handDone_line, hline]
  · rfl
  · rfl
  · rfl

/-! ## PLAY (R167, R168) -/

theorem runPlay_host (hl : lineOf? d.line = some i) (ha : argPlay.read d.args = .good none)
    (hv : (s.line i).state = .voice) (hidle : (s.line i).voiceIdle = true) (harea : s.hasArea i .tx = true) :
    runPlay d s = ⟨.started, [], s.startPlaying i .host []⟩ := by
  rw [runPlay, onLine_good hl ha]
  simp [inVoice_voice hv, hidle, harea, State.answer]

theorem runPlay_store {ids : List Nat} (hl : lineOf? d.line = some i) (ha : argPlay.read d.args = .good (some ids))
    (hne : ids ≠ []) (hlen : ids.length ≤ 8) (hids : ids.contains 0 = false) (hv : (s.line i).state = .voice)
    (hidle : (s.line i).voiceIdle = true) (hf : s.store.formatted = true) (harea : s.hasArea i .stage = true) :
    runPlay d s = ⟨.started, [], State.playFrom i ids 0 (s.startPlaying i .store ids)⟩ := by
  rw [runPlay, onLine_good hl ha]
  simp only [inVoice_voice hv, Bool.true_eq_false, if_false, hne, Nat.not_lt.2 hlen, hids, Bool.false_eq_true,
    or_self, hidle, State.runPlayStore, hf, harea]
  rfl

@[simp] theorem markPlaying_line (id : Nat) (j : LineId) : (s.markPlaying id i).line j = s.line j := rfl

@[simp] theorem markPlaying_dram (id : Nat) : (s.markPlaying id i).dram = s.dram := rfl

@[simp] theorem startReading_store (id pos len : Nat) : (s.startReading i id pos len).store = s.store := by
  simp [State.startReading]

theorem playable_id {id : Nat} {e : Entry} (h : s.playable id = some e) : e.id = id := by
  unfold State.playable at h
  split at h
  next x hx =>
    split_ifs at h
    cases h
    simpa [State.entry?] using List.find?_some hx
  next => cases h

theorem entry_markPlaying {id : Nat} {x : Entry} (h : (s.markPlaying id i).entry? id = some x) : i ∈ x.playing := by
  rw [State.markPlaying, entry_modEntry_same _ _ _ (by exact fun _ => rfl)] at h
  obtain ⟨e, -, rfl⟩ := Option.map_eq_some_iff.1 h
  simp

/-- The first id of a list that can be played is read whole, with the coding bits of its entry (R157, R168). -/
theorem playFrom_begins {id pos : Nat} {rest : List Nat} {e : Entry} (h : s.playable id = some e) :
    let t := State.playFrom i (id :: rest) pos s
    t.around i = s.around i ∧ t.dram = s.dram ∧ (∀ x, t.entry? id = some x → i ∈ x.playing) ∧
    ∃ q, t.line i = { s.line i with
      queue := q, stage := .reading id 0 e.length
      voice := { (s.line i).voice with playback := (s.line i).voice.playback.map (fun p =>
        { p with cur := some id, pos := pos, bits := e.bits.getD p.bits }) } } := by
  have hid := playable_id h
  dsimp only
  rw [State.playFrom, h]
  simp only [State.playEntry, hid]
  refine ⟨?_, ?_, fun x hx => ?_, ?_⟩
  · rw [modLine_around _ _ (fun _ => by rfl), startReading_around, markPlaying_around]
  · simp [State.startReading]
  · refine entry_markPlaying (s := s) (i := i) (id := id) ?_
    rw [← hx]
    simp [State.entry?]
  · rw [line_modLine_same, startReading_line]
    exact ⟨_, by simp only [markPlaying_line, Nat.zero_add]; rfl⟩

/-- PLAY of a list whose first id can be played, on a line in VOICE (R167, R168). -/
theorem play_store {id : Nat} {rest : List Nat} {e : Entry} (hs : s.takes) (hl : lineOf? d.line = some i)
    (ha : argPlay.read d.args = .good (some (id :: rest))) (hlen : rest.length < 8)
    (hids : (id :: rest).contains 0 = false) (hv : (s.line i).state = .voice) (hidle : (s.line i).voiceIdle = true)
    (hf : s.store.formatted = true) (harea : s.hasArea i .stage = true) (he : s.playable id = some e) :
    repliesWith (exec (.play d) s) s ⟨0x71, d.tag, .started, []⟩ (fun t =>
      t = { s with lines := t.lines, store := t.store, areas := t.areas } ∧
      t.line i = { s.line i with voice := (t.line i).voice, stage := (t.line i).stage, queue := (t.line i).queue } ∧
      (t.line i).voice.activity = .playing ∧ (t.line i).stage = .reading id 0 e.length ∧
      (t.line i).voice.playback.map (fun p => (p.cur, p.skipped)) = some (some id, []) ∧
      (∀ b, e.bits = some b → (t.line i).voice.playback.map Playback.bits = some b) ∧
      ∀ x, t.entry? id = some x → i ∈ x.playing) := by
  have hrun := runPlay_store (s := s.inHand 0x71 d) hl ha (by simp) (by simpa using hlen) hids hv hidle hf harea
  obtain ⟨haround, hdram, hmark, q, hline⟩ := playFrom_begins (i := i) (pos := 0) (rest := rest)
    (s := (s.inHand 0x71 d).startPlaying i .store (id :: rest)) (id := id) (e := e) he
  have hfr := haround.trans (modLine_around (s.inHand 0x71 d) i (fun _ => by rfl))
  refine directive_around hs hrun hfr rfl ⟨handDone_eq_of_around hs hfr hdram, ?_⟩
  rw [handDone_line, hline]
  simp only [State.startPlaying, line_modLine_same, inHand_line, Option.map_some]
  refine ⟨trivial, trivial, trivial, trivial, fun b hb => by simp [hb], fun x hx => hmark x hx⟩

/-- PLAY from the host on a line in VOICE (R167, R169). -/
theorem play_host (hs : s.takes) (hl : lineOf? d.line = some i) (ha : argPlay.read d.args = .good none)
    (hv : (s.line i).state = .voice) (hidle : (s.line i).voiceIdle = true) (harea : s.hasArea i .tx = true) :
    exec (.play d) s = .next ((s.startPlaying i .host []).reply ⟨0x71, d.tag, .started, []⟩) :=
  congrArg _ (directive_exact hs (t := s.startPlaying i .host [])
    (runPlay_host (s := s.inHand 0x71 d) hl ha hv hidle harea) hs.1 rfl)

/-! ## VOICE_STOP (R170) -/

theorem runVoiceStop_voice (hl : lineOf? d.line = some i) (ha : d.args = []) (hv : (s.line i).state = .voice) :
    runVoiceStop d s = ⟨.ok, [], s.voiceStop i⟩ := by
  rw [runVoiceStop, onLine_good hl (v := ()) (by rw [ha]; rfl)]
  simp [inVoice_voice hv, State.answer]

/-- VOICE_STOP under host control with nothing in hand hangs up (R170). -/
theorem voiceStop_hangsUp (hs : s.takes) (hl : lineOf? d.line = some i) (ha : d.args = [])
    (hv : (s.line i).state = .voice) (hmode : (s.line i).voice.mode = .host)
    (hact : (s.line i).voice.activity = .none) :
    repliesWith (exec (.voiceStop d) s) s ⟨0x72, d.tag, .ok, []⟩ (fun t =>
      t = { s with lines := t.lines, areas := t.areas, store := t.store, dram := t.dram } ∧
      (t.line i).state = .release ∧ (t.line i).call = none ∧ (t.line i).guard = some (s.now + 1500) ∧
      ((s.line i).stage.isWriting = false → t.dram = s.dram)) := by
  have hstop : (s.inHand 0x72 d).voiceStop i = (s.inHand 0x72 d).release i .locally := by
    simp [State.voiceStop, hmode, hact]
  have hrun := runVoiceStop_voice (s := s.inHand 0x72 d) hl ha hv
  rw [hstop] at hrun
  have hfr := release_around (s.inHand 0x72 d) i .locally
  obtain ⟨hstate, -, hguard, -, -, hcall, -⟩ :=
    release_line (s := s.inHand 0x72 d) (i := i) .locally (by simp [hv])
  exact directive_around hs hrun hfr rfl ⟨handDone_eq_of_outside hs (around_outside hfr), hstate, hcall, hguard,
    fun hw => release_dram (.inr hw)⟩

/-- VOICE_STOP ends a playback from the host (R168, R170). -/
theorem voiceStop_endsPlayback {p : Playback} (hs : s.takes) (hl : lineOf? d.line = some i) (ha : d.args = [])
    (hv : (s.line i).state = .voice) (hmode : (s.line i).voice.mode = .host)
    (hact : (s.line i).voice.activity = .playing) (hp : (s.line i).voice.playback = some p)
    (hq : (s.line i).queue.entries = []) (hw : (s.line i).profile.wants .playDone = true) (ht : p.target = .host) :
    repliesWith (exec (.voiceStop d) s) s ⟨0x72, d.tag, .ok, []⟩ (fun t =>
      t = { s with lines := t.lines } ∧
      t.line i = { s.line i with voice := (t.line i).voice, queue := (t.line i).queue } ∧
      (t.line i).voice.activity = .none ∧ (t.line i).voice.playback = none ∧ (t.line i).state = .voice ∧
      (t.line i).queue.entries = [.playDone (p.cur.or p.last) .locally p.skipped] ∧ othersSame i s t) := by
  have hstop : (s.inHand 0x72 d).voiceStop i = ((s.inHand 0x72 d).modLine i (fun l => { l with
      voice := { l.voice with playback := none, activity := .none, decoding := none } })).notifyLine i
      (.playDone (p.cur.or p.last) .locally p.skipped) := by
    simp [State.voiceStop, hmode, hact, State.endPlayback, hp, ht]
  have hrun := runVoiceStop_voice (s := s.inHand 0x72 d) hl ha hv
  have hfr : ((s.inHand 0x72 d).voiceStop i).without i = (s.inHand 0x72 d).without i := by
    rw [hstop, notifyLine_without, modLine_without]
  refine directive_without hs hrun hfr rfl ⟨handDone_eq_of_without hs hfr, ?_⟩
  rw [handDone_line, hstop, line_notifyLine_same, line_modLine_same, inHand_line]
  refine ⟨(notify_eq _ _).trans (by simp), by simp, by simp, by simpa using hv, notify_empty hw hq, ?_⟩
  rw [← hstop]
  exact handDone_othersSame hfr

end Sys2Proof.Machine
end

section
/-! SUPPORT. What ends a recording to the store: silence, a tone, a digit (R31, R36, R160, R162, R164). -/

namespace Sys2Proof.Machine

variable {s : State} {i : LineId} {r : Recording} {id : Nat}

/-! ## The end of a recording (R162) -/

/-- A recording to the store that ends waits for its completion. -/
theorem finishRecording_stored (hr : (s.line i).voice.recording = some r) (hn : r.ended = none)
    (hid : r.entry = some id) (why : RecEnd) (n : Nat) (next : AfterRec) : s.finishRecording i why n next =
      s.modLine i (fun l => { l with voice := { l.voice with
        recording := some { r with watchEnd := none, ended := some (why, n, next) } } }) := by
  simp only [State.finishRecording, hr, hn, hid, Option.isSome_none, Option.isSome_some, Bool.false_eq_true, if_false,
    if_true, State.endRecording]
  exact modLine_congr s i (by simp [Voice.endRecording, hr, hn, hid])

/-! ## Silence (R31, R160) -/

/-- A frame that ends on a line in VOICE with no ringback watch reaches the recording alone. -/
theorem exec_powerFrameEnd_voice {p : Int} (hst : (s.line i).state = .voice)
    (ht : (s.line i).tone.frameStart + 32 ≤ s.now) (hw : (s.line i).watch = none) :
    exec (.powerFrameEnd i p) s = .next ((s.modLine i (Line.endFrame s.now (clampPower p))).recordFrame i
      ((s.line i).silentFrame (clampPower p))) := by
  have hpower : (s.line i).row.power = true := by simp [Line.row, hst, LineState.power, LineState.matching]
  have hspeech : (s.modLine i (Line.endFrame s.now (clampPower p))).speechFound i =
      s.modLine i (Line.endFrame s.now (clampPower p)) := by
    rw [State.speechFound, if_neg (by simp [Line.answersByEar, Line.endFrame, hst]),
      finding_unlistening (by simp [Line.endFrame, hst])]
  have hwatch : ((s.modLine i (Line.endFrame s.now (clampPower p))).line i).watch = none := by
    simpa [Line.endFrame] using hw
  simp only [exec_powerFrameEnd, execPowerFrameEnd, hpower, ht, and_self, if_true, hspeech, ite_self, State.watchFrame,
    hwatch]

theorem frame_silent {c : Nat} (hc : r.frameCount = some c) : r.frame true = { r with
    silentStart := some (r.silentStart.getD c), silentFrames := r.silentFrames + 1, frameCount := some r.coded } := by
  simp [Recording.frame, hc]

theorem frame_loud {c : Nat} (hc : r.frameCount = some c) : r.frame false = { r with
    silentStart := none, silentFrames := 0, frameCount := some r.coded } := by
  simp [Recording.frame, hc]

@[simp] theorem frame_entry (silent : Bool) : (r.frame silent).entry = r.entry := by
  unfold Recording.frame
  split
  · rfl
  · split <;> rfl

@[simp] theorem frame_ended (silent : Bool) : (r.frame silent).ended = r.ended := by
  unfold Recording.frame
  split
  · rfl
  · split <;> rfl

/-- A frame that does not complete a silent run of silence_end_s only counts in the recording. -/
theorem recordFrame_counts {silent : Bool} (hr : (s.line i).voice.recording = some r) (hn : r.ended = none)
    (h : (r.frame silent).silentStart = none ∨
      (r.frame silent).silentFrames * 32 < (r.frame silent).silenceEndS * 1000) :
    s.recordFrame i silent = s.modLine i (fun l => { l with voice := { l.voice with
      recording := some (r.frame silent) } }) := by
  have hruns : ¬ ((r.frame silent).silentStart.isSome ∧
      runReaches (r.frame silent).silentFrames ((r.frame silent).silenceEndS * 1000) = true) := by
    rcases h with h | h
    · simp [h]
    · simp [runReaches, Nat.not_le.2 h]
  simp only [State.recordFrame, hr, hn, Option.isSome_none, Bool.false_eq_true, if_false, if_neg hruns]

/-- The frame that completes a silent run of silence_end_s ends a recording to the store at the run's start. -/
theorem recordFrame_ends {start : Nat} (hr : (s.line i).voice.recording = some r) (hn : r.ended = none)
    (hid : r.entry = some id) (hstart : (r.frame true).silentStart = some start)
    (h : (r.frame true).silenceEndS * 1000 ≤ (r.frame true).silentFrames * 32) :
    s.recordFrame i true = s.modLine i (fun l => { l with voice := { l.voice with
      recording := some { r.frame true with
        watchEnd := none, ended := some (.silence, start, (s.line i).voice.afterRecording) } } }) := by
  have hruns : (r.frame true).silentStart.isSome ∧
      runReaches (r.frame true).silentFrames ((r.frame true).silenceEndS * 1000) = true := by
    simp [hstart, runReaches, h]
  simp only [State.recordFrame, hr, hn, Option.isSome_none, Bool.false_eq_true, if_false, if_pos hruns]
  rw [finishRecording_stored (r := r.frame true) (by simp) (by simpa using hn) (by simpa using hid), modLine_modLine]
  exact modLine_congr s i (by simp [Recording.newLength, hstart, Voice.afterRecording])

/-! ## A tone (R162, R164) -/

/-- A tone confirmed on a line in VOICE that records reaches the recording alone. -/
theorem continuousToneConfirm_recording {e : ToneEntry} {m : Matcher} {b : Ms} (hst : (s.line i).state = .voice)
    (hact : (s.line i).voice.activity = .recording) (hr : (s.line i).voice.recording = some r)
    (hm : (s.line i).tone.matchers = [m]) (ht : s.toneTable = [e]) (hid : m.id = e.id) (hcont : e.continuous = true)
    (hphase : m.phase = .on b) (hdue : b + (e.segment m.seg).onMin ≤ s.now) (hcls : e.cls ≠ .ringback) :
    exec (.continuousToneConfirm i e.id) s = .next ((s.modLine i (fun l =>
      { l with tone.matchers := [(m.expire e s.now).matcher] })).recordingTone i r e.cls m.first) := by
  have hrun : exec (.continuousToneConfirm i e.id) s = .next
      (s.matchEvent i e.id (fun e m => if e.continuous then m.expire e s.now else { matcher := m })) := rfl
  have hconf : (m.expire e s.now).confirmed = true := by simp [Matcher.expire, hphase, hdue, hcont]
  rw [hrun, matchEvent_confirmed ht hm hid (by simp [hcont, hconf]) hcls]
  simp only [hcont, if_true]
  set s1 := s.modLine i (fun l => { l with tone.matchers := [(m.expire e s.now).matcher] }) with hs1
  have hst1 : (s1.line i).state = .voice := by simpa [hs1] using hst
  have hline : s1.lineTone i e.cls = s1 := by simp [State.lineTone, hst1]
  have hvoice : s1.voiceTone i e.cls m.first = s1.recordingTone i r e.cls m.first := by
    have hv1 : (s1.line i).voice = (s.line i).voice := by simp [hs1]
    simp [State.voiceTone, inVoice_voice hst1, hv1, hact, hr, Voice.opening]
  rw [State.confirmed, hline, hvoice]

theorem recordingTone_ends {c : ToneClass} {first : Nat} (hr : (s.line i).voice.recording = some r)
    (hn : r.ended = none) (hid : r.entry = some id) (hc : c.endsRecording = true) : s.recordingTone i r c first =
      s.modLine i (fun l => { l with voice := { l.voice with
        recording := some { r with
          watchEnd := none, ended := some (.tone, first, (s.line i).voice.afterRecording) } } }) := by
  simp only [State.recordingTone, hn, Option.isSome_none, Bool.false_eq_true, if_false, hc, if_true,
    finishRecording_stored hr hn hid]

/-- FAX_CALL in the automatic sequence with the watch closed, or FAX not allowed, ends the recording (R164). -/
theorem recordingTone_faxCall_ends {first : Nat} (hr : (s.line i).voice.recording = some r) (hn : r.ended = none)
    (hid : r.entry = some id) (hmode : (s.line i).voice.mode = .auto)
    (hw : (s.line i).allows .fax = true → r.watchOpen = false) : s.recordingTone i r .faxCall first =
      s.modLine i (fun l => { l with voice := { l.voice with
        recording := some { r with watchEnd := none, ended := some (.tone, first,
          if (s.line i).allows .fax = true then .switchFax else .handOver) } } }) := by
  by_cases hallows : (s.line i).allows .fax = true
  · simp [State.recordingTone, hn, hmode, hallows, hw hallows, ToneClass.endsRecording,
      finishRecording_stored hr hn hid]
  · simp [State.recordingTone, hn, hmode, hallows, ToneClass.endsRecording, finishRecording_stored hr hn hid]

/-- FAX_CALL in the automatic sequence with the watch open, and FAX allowed, switches the line to FAX (R164). -/
theorem recordingTone_faxCall_switches {first : Nat} (hn : r.ended = none) (hmode : (s.line i).voice.mode = .auto)
    (hallows : (s.line i).allows .fax = true) (hw : r.watchOpen = true) :
    s.recordingTone i r .faxCall first = (s.discardRecording i r).switchToFax i := by
  simp [State.recordingTone, hn, hmode, hallows, hw, ToneClass.endsRecording]

/-! ## A digit (R36, R162) -/

/-- The digit # ends a recording on a line that lets its caller barge in. -/
theorem voiceDigit_hash (hact : (s.line i).voice.activity = .recording) (hr : (s.line i).voice.recording = some r)
    (hn : r.ended = none) (hid : r.entry = some id) (hb : (s.line i).profile.bargeIn = true) :
    s.voiceDigit i .hash = s.modLine i (fun l => { l with voice := { l.voice with
      recording := some { r with
        watchEnd := none, ended := some (.digit, r.coded, (s.line i).voice.afterRecording) } } }) := by
  simp [State.voiceDigit, hb, hact, Voice.codedCount, hr, finishRecording_stored hr hn hid]

end Sys2Proof.Machine
end

section
/-! SUPPORT. A recording discarded for a fax, and the line that becomes a fax received (R164). -/

namespace Sys2Proof.Machine

/-! ## Notices of the flow of areas -/

/-- A queue holds no more than one entry, and that of the flow of areas. -/
def NoticeQueue.flowOnly (q : NoticeQueue) : Prop := q.entries = [] ∨ ∃ l, q.entries = [.flow l]

theorem offer_flowOnly {q : NoticeQueue} (h : q.flowOnly) (l : List (AreaId × FlowState)) :
    (q.offer (.flow l)).flowOnly := by
  rcases h with h | ⟨l', h⟩
  · exact .inr ⟨l, by simp [NoticeQueue.offer, h, mergeInto, NoticeQueue.enter, Config.noticeQueueMax]⟩
  · exact .inr ⟨l.foldl (fun acc p => setFlowEntry p.1 p.2 acc) l', by
      simp only [NoticeQueue.offer, h, mergeInto, Notice.merge]⟩

variable {s t : State} {i j : LineId}

/-- Each line whose queue holds no more than a notice of the flow still has such a queue. -/
def State.flowsOn (s t : State) : Prop := ∀ i, (s.line i).queue.flowOnly → (t.line i).queue.flowOnly

theorem State.flowsOn.trans {u : State} (h : s.flowsOn t) (h' : t.flowsOn u) : s.flowsOn u := fun i => h' i ∘ h i

theorem flowsOn_of_queue (h : ∀ i, (t.line i).queue = (s.line i).queue) : s.flowsOn t := fun i hi => (h i).symm ▸ hi

theorem modLine_flowsOn {f : Line → Line} (h : ∀ l, (f l).queue = l.queue) : s.flowsOn (s.modLine j f) :=
  flowsOn_of_queue fun i => by
    by_cases hi : i = j
    · subst hi; rw [line_modLine_same, h]
    · rw [line_modLine_ne _ _ _ _ hi]

theorem notifyFlow_flowsOn (l : List (AreaId × FlowState)) : s.flowsOn (s.notifyLine j (.flow l)) := fun i hi => by
  by_cases hij : i = j
  · subst hij
    rw [line_notifyLine_same, notify_queue]
    split
    · exact offer_flowOnly hi l
    · exact hi
  · rwa [line_notifyLine_ne _ _ _ _ hij]

variable (s)

theorem setFlow_flowsOn (k : AreaId) (f : FlowState) : s.flowsOn (s.setFlow k f) := by
  unfold State.setFlow
  split_ifs
  · exact fun _ => id
  · dsimp only
    split
    · exact notifyFlow_flowsOn (s := s.modArea k (fun a => { a with flow := f })) _
    · exact fun _ => id

theorem emptyArea_flowsOn (k : AreaId) : s.flowsOn (s.emptyArea k) :=
  setFlow_flowsOn (s.modArea k (fun a => { a with fifo := [], marks := [] })) k .go

theorem emptyStage_flowsOn (i : LineId) : s.flowsOn (s.emptyStage i) := by
  unfold State.emptyStage
  split
  · exact emptyArea_flowsOn s _
  · exact fun _ => id

theorem truncatePage_queue (l : Line) : l.truncatePage.queue = l.queue := by
  unfold Line.truncatePage Line.modReceiver
  split_ifs <;> rfl

theorem refuseBlock_flowsOn (i : LineId) (k : RequestKind) : s.flowsOn (s.refuseBlock i k) := by
  have hstage : s.flowsOn ((s.modLine i (fun l => { l with stage := l.stage.answered true })).emptyStage i) := by
    refine State.flowsOn.trans (modLine_flowsOn ?_) (emptyStage_flowsOn _ i)
    exact fun _ => rfl
  unfold State.refuseBlock
  dsimp only
  split
  · refine hstage.trans (modLine_flowsOn ?_)
    exact fun _ => rfl
  · exact hstage.trans (modLine_flowsOn truncatePage_queue)

theorem serveRequest_flowsOn : s.flowsOn s.serveRequest := by
  rw [serveRequest_eq]
  split
  · exact fun _ => id
  · rename_i r rest _
    have hpop (n : Nat) : s.flowsOn ((s.popRequest rest).allocate r.entry n) :=
      flowsOn_of_queue fun i => congrArg Line.queue (allocate_line (s.popRequest rest) r.entry n)
    split
    · refine (hpop _).trans (modLine_flowsOn ?_)
      exact fun _ => rfl
    · exact hpop _
    · exact refuseBlock_flowsOn (s.popRequest rest) _ _
    · exact fun _ => id

theorem serveMany_flowsOn : ∀ (n : Nat) (s : State), s.flowsOn (serveMany n s)
  | 0, _ => fun _ => id
  | n + 1, s => (serveRequest_flowsOn s).trans (serveMany_flowsOn n _)

theorem unlinkTail_line (id n : Nat) : (s.unlinkTail id n).line i = s.line i := by
  unfold State.unlinkTail
  split <;> rfl

/-- The block requests served at a deletion tell a line of the flow of its areas alone. -/
theorem deleteEntry_flowsOn (id : Nat) : s.flowsOn (s.deleteEntry id) :=
  (serveMany_flowsOn _ s).trans (flowsOn_of_queue fun _ => congrArg Line.queue (unlinkTail_line _ id 0))

/-! ## The entry deleted, and the line beside it -/

theorem deleteEntry_entry (id : Nat) : (s.deleteEntry id).entry? id = none := by
  simp [State.deleteEntry, State.entry?, List.find?_eq_none]

theorem deleteEntry_settled (id : Nat) (i : LineId) :
    ((s.deleteEntry id).line i).settled = (s.line i).settled :=
  settled_of_all (fun k => deleteEntry_around s k id) i

theorem deleteEntry_emptier (id : Nat) : s.emptier (s.deleteEntry id) := freeTail_emptier s id 0

/-! ## Notices that follow one that waits -/

/-- Some few notices have been offered to a queue, whatever their kinds. -/
abbrev NoticeQueue.grows (q : NoticeQueue) (n : Nat) (r : NoticeQueue) : Prop := Offered (fun _ => True) n q r

/-- An entry with which nothing coalesces goes on waiting in a queue that has room. -/
theorem Offered.keeps {K : NoticeKind → Prop} {n : Nat} {q r : NoticeQueue} {x : Notice} (h : Offered K n q r)
    (hmem : x ∈ q.entries) (hx : ∀ m : Notice, x.merge m = none)
    (hroom : q.entries.length + n ≤ Config.noticeQueueMax) : x ∈ r.entries := by
  induction h with
  | keep n q => exact hmem
  | @add n q r m h _ ih =>
    have hlen := h.length_le
    exact mem_offer (hx m) (ih hmem (by omega)) (by omega)

theorem emptyArea_grows (k : AreaId) : (s.line i).queue.grows 1 ((s.emptyArea k).line i).queue := by
  unfold State.emptyArea State.setFlow
  split_ifs
  · exact .keep 1 _
  · dsimp only
    split
    · rename_i j _ _
      by_cases hij : i = j
      · subst hij
        rw [line_notifyLine_same]
        exact notify_offered rfl trivial
      · rw [line_notifyLine_ne _ _ _ _ hij]
        exact .keep 1 _
    · exact .keep 1 _

theorem emptyStage_grows : (s.line i).queue.grows 1 ((s.emptyStage i).line i).queue := by
  unfold State.emptyStage
  split
  · exact emptyArea_grows s _
  · exact .keep 1 _

theorem setContent_grows (k : AreaId) (p : Purpose) (c : ContentKind) :
    (s.line i).queue.grows 2 ((s.setContent i p k c).line i).queue := by
  have hnotify (n : Notice) : (s.line i).queue.grows 1 ((s.notifyLine i n).line i).queue := by
    rw [line_notifyLine_same]
    exact notify_offered rfl trivial
  have hdrop (n : Nat) : (s.line i).queue.grows 1 ((s.dropHost i n).line i).queue := by
    unfold State.dropHost
    split
    · exact .keep 1 _
    · exact hnotify _
  have hoverrun (n : Nat) : (s.line i).queue.grows 1 ((s.overrun i n).line i).queue := by
    unfold State.overrun
    split
    · exact .keep 1 _
    · exact hnotify _
  unfold State.setContent
  dsimp only
  split_ifs
  · exact .keep 2 _
  · exact .keep 2 _
  · exact Offered.trans (n := 1) (n' := 1) (hdrop _) (emptyArea_grows _ k)
  · exact Offered.trans (n := 1) (n' := 1) (hoverrun _) (emptyArea_grows _ k)

theorem useArea_grows (c : ContentKind) (p : Purpose) :
    (s.line i).queue.grows 2 ((State.useArea c i s p).line i).queue := by
  unfold State.useArea
  split
  · exact .keep 2 _
  · exact setContent_grows (State.modArea s _ _) _ p c

theorem takeJob_grows (p : Purpose) (c : ContentKind) (st : LineState) :
    (s.line i).queue.grows 3 ((s.takeJob i [p] c st).line i).queue :=
  Offered.trans (n := 2) (n' := 1) (useArea_grows s c p) (pass_offered _ i st trivial)

/-! ## The digits a line goes on sending -/

theorem tonePass_sendQueue (table : List ToneEntry) (now : Ms) (old new : LineState) (e : ToneEngine) :
    (e.pass table now old new).sendQueue = e.sendQueue := by
  unfold ToneEngine.pass
  dsimp only
  split_ifs <;> rfl

theorem linePass_sendQueue (table : List ToneEntry) (now : Ms) (st : LineState) (l : Line) :
    (l.pass table now st).tone.sendQueue = l.tone.sendQueue := by
  have hring (b b' : Bool) (m : Line) :
      (if b then (if b' then m else m.freshRing now) else { m with ring := {} }).tone = m.tone := by
    unfold Line.freshRing
    dsimp only
    split_ifs <;> rfl
  unfold Line.pass
  dsimp only
  rw [hring]
  by_cases h : (st.offHook && !l.state.offHook) = true
  · rw [if_pos h]
    exact tonePass_sendQueue _ _ _ _ _
  · rw [if_neg h]
    exact tonePass_sendQueue _ _ _ _ _

theorem pass_sendQueue (st : LineState) : ((s.pass i st).line i).tone.sendQueue = (s.line i).tone.sendQueue := by
  rw [pass_line_tone, linePass_sendQueue]

theorem takeJob_sendQueue (ps : List Purpose) (c : ContentKind) (st : LineState) :
    ((s.takeJob i ps c st).line i).tone.sendQueue = (s.line i).tone.sendQueue := by
  rw [State.takeJob, pass_sendQueue, useAreas_line_eq]

variable {s}

/-! ## A recording discarded (R164) -/

section
variable {r : Recording} {id : Nat} (hid : r.entry = some id)
include hid

theorem discardRecording_eq : s.discardRecording i r = ((s.deleteEntry id).modLine i (fun l =>
    { l with stage := .idle, voice := l.voice.noRecording })).notifyLine i (.recordDone none r.coded .discarded) := by
  simp only [State.discardRecording, hid]

theorem discardRecording_settled : ((s.discardRecording i r).line i).settled = (s.line i).settled := by
  rw [discardRecording_eq hid, line_notifyLine_same, line_modLine_same, notify_eq, ← deleteEntry_settled s id i]
  rfl

theorem discardRecording_entry : (s.discardRecording i r).entry? id = none := by
  rw [discardRecording_eq hid]
  exact deleteEntry_entry s id

theorem discardRecording_dram : (s.discardRecording i r).dram = s.dram := by
  rw [discardRecording_eq hid]
  simp

theorem discardRecording_emptier : s.emptier (s.discardRecording i r) := by
  rw [discardRecording_eq hid]
  exact deleteEntry_emptier s id

/-- RECORD_DONE waits behind no more than a notice of the flow. -/
theorem discardRecording_done (hq : (s.line i).queue.entries = []) (hw : (s.line i).profile.wants .recordDone = true) :
    ((s.discardRecording i r).line i).queue.holds (.recordDone none r.coded .discarded) 2 := by
  have hlen : ((s.deleteEntry id).line i).queue.entries.length ≤ 1 := by
    rcases deleteEntry_flowsOn s id i (.inl hq) with h | ⟨l, h⟩ <;> simp [h]
  have hprof : ((s.deleteEntry id).line i).profile = (s.line i).profile :=
    (congrArg Line.profile (deleteEntry_settled s id i) :)
  have hqueue : ((s.discardRecording i r).line i).queue =
      ((s.deleteEntry id).line i).queue.offer (.recordDone none r.coded .discarded) := by
    rw [discardRecording_eq hid, line_notifyLine_same, line_modLine_same, notify_queue]
    exact if_pos (by rw [← hw, ← hprof]; rfl)
  rw [hqueue]
  refine ⟨mem_offer_self (fun m _ => by cases m <;> rfl) (lt_of_le_of_lt hlen (by decide)), ?_⟩
  exact (offer_length _ _).trans (Nat.succ_le_succ hlen)

end

/-! ## A VOICE call becomes a FAX call (R164) -/

/-- The line has left its voice job for a fax received. -/
def State.faxTaken (s : State) (i : LineId) : State :=
  (s.stopStage i).modLine i (fun l => { l.modCall (fun c => { c with job := .fax }) with
    job := .fax, voice := {}, tone.sendQueue := [] })

theorem faxTaken_line (s : State) (i : LineId) : (s.faxTaken i).line i =
    { (s.line i).modCall (fun c => { c with job := .fax }) with
      job := .fax, voice := {}, tone.sendQueue := [], stage := .idle, queue := ((s.faxTaken i).line i).queue } := by
  unfold State.faxTaken State.stopStage State.leaveStage
  rw [line_modLine_same, line_modLine_same, emptyStage_line_eq]
  rfl

theorem faxTaken_queue (s : State) (i : LineId) :
    ((s.faxTaken i).line i).queue = ((s.emptyStage i).line i).queue := by
  unfold State.faxTaken State.stopStage State.leaveStage
  rw [line_modLine_same, line_modLine_same]
  rfl

theorem faxTaken_store (s : State) (i : LineId) : (s.faxTaken i).store = s.store := by
  simp [State.faxTaken, State.stopStage, State.leaveStage]

theorem faxTaken_dram (s : State) (i : LineId) : (s.faxTaken i).dram = s.dram := by
  simp [State.faxTaken]

theorem faxTaken_around (s : State) (i : LineId) : (s.faxTaken i).around i = s.around i := by
  rw [State.faxTaken, modLine_around _ _ (fun _ => by rfl), stopStage_around]

theorem faxTaken_grows (s : State) (i : LineId) :
    (s.line i).queue.grows 1 ((s.faxTaken i).line i).queue := by
  rw [faxTaken_queue]
  exact emptyStage_grows s

theorem faxTaken_emptier (s : State) (i : LineId) : s.emptier (s.faxTaken i) := emptyStage_emptier s i

theorem switchToFax_begins (h : s.incomingReady i (s.line i).copies .fax = true) : s.switchToFax i =
    ((s.faxTaken i).takeJob i [(s.line i).copies.faxTo.purpose] .page .fax).startFaxReceiver i := by
  have hcopies : ((s.faxTaken i).line i).copies = (s.line i).copies := by rw [faxTaken_line]; rfl
  have hrun : s.switchToFax i = if (s.faxTaken i).incomingReady i ((s.faxTaken i).line i).copies .fax then
      ((s.faxTaken i).takeJob i [((s.faxTaken i).line i).copies.faxTo.purpose] .page .fax).startFaxReceiver i
      else (s.faxTaken i).release i .locally := rfl
  rw [hrun, hcopies, incomingReady_of_emptier (faxTaken_emptier s i), if_pos h]

/-- A recording discarded in an open watch: the line receives a fax, and RECORD_DONE tells of the discard. -/
theorem discard_switches {r : Recording} {id : Nat} {c : CallRecord} (hid : r.entry = some id)
    (hcall : (s.line i).call = some c) (hready : s.incomingReady i (s.line i).copies .fax = true)
    (hladder : s.faxLadder ≠ []) (hq : (s.line i).queue.entries = [])
    (hw : (s.line i).profile.wants .recordDone = true) :
    let t := (s.discardRecording i r).switchToFax i
    t.dram = s.dram ∧ t.entry? id = none ∧ (t.line i).state = .fax ∧ (t.line i).relay = true ∧
    (t.line i).job = .fax ∧ (t.line i).call = some { c with job := .fax } ∧ (t.line i).voice = {} ∧
    (t.line i).fax.phase = .establish ∧ (t.line i).fax.role = some .receiver ∧ (t.line i).tone.sendQueue = [] ∧
    .recordDone none r.coded .discarded ∈ (t.line i).queue.entries ∧ (t.line i).profile = (s.line i).profile := by
  dsimp only
  have hentry := discardRecording_entry (s := s) (i := i) hid
  have hdram := discardRecording_dram (s := s) (i := i) hid
  have hdone := discardRecording_done hid hq hw
  have hset := discardRecording_settled (s := s) (i := i) hid
  have hemptier := discardRecording_emptier (s := s) (i := i) hid
  have haround := discardRecording_around s i r
  generalize s.discardRecording i r = u at *
  have hcopies : (u.line i).copies = (s.line i).copies := (congrArg Line.copies hset :)
  have hucall : (u.line i).call = some c := (congrArg Line.call hset :).trans hcall
  have hprof : (u.line i).profile = (s.line i).profile := (congrArg Line.profile hset :)
  rw [switchToFax_begins (by rw [hcopies, incomingReady_of_emptier hemptier, hready])]
  have hl := faxTaken_line u i
  have hlad : (u.faxTaken i).faxLadder ≠ [] := by
    rwa [faxLadder_of_around ((faxTaken_around u i).trans haround)]
  have hgrown := (Offered.trans (n := 1) (n' := 3) (faxTaken_grows u i)
    (takeJob_grows (u.faxTaken i) (u.line i).copies.faxTo.purpose .page .fax)).keeps hdone.1
    (fun m => by cases m <;> rfl) ((Nat.add_le_add_right hdone.2 4).trans (by decide))
  have hsend := takeJob_sendQueue (u.faxTaken i) (i := i) [(u.line i).copies.faxTo.purpose] .page .fax
  have htakelad : ((u.faxTaken i).takeJob i [(u.line i).copies.faxTo.purpose] .page .fax).faxLadder ≠ [] := by
    rwa [takeJob_faxLadder]
  obtain ⟨hap, hst, hrel, hjob, hcall', hvoice, hphase, hrole, -, -, hprof'⟩ :=
    takeJob_startFaxReceiver (s := u.faxTaken i) (i := i) [(u.line i).copies.faxTo.purpose] .page hlad
  refine ⟨?_, ?_, hst, hrel, ?_, ?_, ?_, hphase, hrole, ?_, ?_, ?_⟩
  · rw [dram_of_apart hap, faxTaken_dram, hdram]
  · rw [State.entry?, store_of_apart hap, faxTaken_store]
    exact hentry
  · rw [hjob, hl]
  · rw [hcall', hl]
    simp [Line.modCall, hucall]
  · rw [hvoice, hl]
  · rw [startFaxReceiver_begins htakelad]
    simp only [State.generate, line_modLine_same]
    exact hsend.trans (by rw [hl])
  · rw [startFaxReceiver_begins htakelad]
    simp only [State.generate, line_modLine_same]
    exact hgrown
  · rw [hprof', hl]
    exact hprof

end Sys2Proof.Machine
end

section
/-! SUPPORT. The obligation on the directives of the Voice Engine and what ends a recording. -/

namespace Sys2Proof.Machine

/-- Settles O34: the directives by `record_store`, `record_host`, `play_store`, `play_host`, `voiceStop_hangsUp` and
`voiceStop_endsPlayback`; a silent run by `recordFrame_ends` and `recordFrame_counts`, a tone by
`continuousToneConfirm_recording` and the rules of `recordingTone`, the switch to FAX by `discard_switches`, and the
digit # by `voiceDigit_hash`. -/
theorem voiceDirectives : Obligations.VoiceDirectives := by
  unfold Obligations.VoiceDirectives
  refine ⟨fun s i d k mb kind hs hl ha hk hmb hv hidle hf hguard hdir harea hopen =>
      record_store hs hl ha hk hmb hv hidle hf hguard hdir harea hopen,
    fun s i d hs hl ha hv hidle harea => record_host hs hl ha hv hidle harea,
    fun s i d id rest e hs hl ha hlen hids hv hidle hf harea he =>
      play_store hs hl ha hlen hids hv hidle hf harea he,
    fun s i d hs hl ha hv hmode hact => voiceStop_hangsUp hs hl ha hv hmode hact,
    fun s i d p hs hl ha hv hmode hact hp hq hw ht => voiceStop_endsPlayback hs hl ha hv hmode hact hp hq hw ht,
    fun s i d hs hl ha hv hidle harea => play_host hs hl ha hv hidle harea,
    fun s i p r id c start hst hr hn hid hc hstart ht hw hsilent hlong => ?_,
    fun s i p r id c start hst hr hn hid hc ht hw hstart => ?_,
    fun s i r id e m b hst hact hr hn hid hm htable hmid hcont hphase hdue hcls => ?_,
    fun s i r id e m b c copy hst hact hmode hr hn hid hcall hcopy hm htable hmid hcont hphase hdue hcls hw => ?_,
    fun s i r id e m b c copy hst hact hmode hr hn hid hcall hcopy hm htable hmid hcont hphase hdue hcls hfax hw
      hready hladder hq hwants => ?_,
    fun s i r id b hst hact hr hn hid hd hb hbarge => ?_⟩
  · have hsil : (s.line i).silentFrame (clampPower p) = true := decide_eq_true hsilent
    subst hstart
    have hrun := exec_powerFrameEnd_voice (p := p) hst ht hw
    rw [hsil, recordFrame_ends (r := r) (id := id) (start := r.silentStart.getD c) (by simpa [Line.endFrame] using hr)
      hn hid (by simp [frame_silent hc]) (by simpa [frame_silent hc] using hlong), frame_silent hc] at hrun
    refine ⟨_, hrun, eq_of_without (i := i) (by simp), othersSame_of_without (by simp), ?_⟩
    simp [Line.endFrame, Voice.afterRecording]
  · subst hstart
    refine ⟨_, exec_powerFrameEnd_voice hst ht hw, fun hsilent hshort => ?_, fun hloud => ?_⟩
    · have hsil : (s.line i).silentFrame (clampPower p) = true := decide_eq_true hsilent
      rw [hsil, recordFrame_counts (r := r) (by simpa [Line.endFrame] using hr) hn
        (.inr (by simpa [frame_silent hc] using hshort)), frame_silent hc]
      simp
    · have hsil : (s.line i).silentFrame (clampPower p) = false := decide_eq_false (not_lt.2 hloud)
      rw [hsil, recordFrame_counts (r := r) (by simpa [Line.endFrame] using hr) hn (.inl (by simp [frame_loud hc])),
        frame_loud hc]
      simp
  · have hring : e.cls ≠ .ringback := by rintro h; simp [h] at hcls
    have hends : e.cls.endsRecording = true := by rcases hcls with h | h | h <;> rw [h] <;> rfl
    have hrun := continuousToneConfirm_recording hst hact hr hm htable hmid hcont hphase hdue hring
    rw [recordingTone_ends (by simpa using hr) hn hid hends] at hrun
    refine ⟨_, hrun, eq_of_without (i := i) (by simp), othersSame_of_without (by simp), ?_⟩
    simp [Voice.afterRecording]
  · have hrun := continuousToneConfirm_recording hst hact hr hm htable hmid hcont hphase hdue (by simp [hcls])
    have hallows : (s.line i).allows .fax = copy.mask.fax := by
      simp [Line.allows, Line.routing, hcall, hcopy, JobSet.has]
    have hallows1 : ((s.modLine i (fun l =>
        { l with tone.matchers := [(m.expire e s.now).matcher] })).line i).allows .fax = copy.mask.fax := by
      rw [line_modLine_same]
      exact hallows
    rw [hcls, recordingTone_faxCall_ends (by simpa using hr) hn hid (by simpa using hmode)
      (by rw [hallows1]; exact hw), hallows1] at hrun
    refine ⟨_, hrun, eq_of_without (i := i) (by simp), othersSame_of_without (by simp), ?_⟩
    simp
  · have hrun := continuousToneConfirm_recording hst hact hr hm htable hmid hcont hphase hdue (by simp [hcls])
    set s1 := s.modLine i (fun l => { l with tone.matchers := [(m.expire e s.now).matcher] }) with hs1
    have hl1 : s1.line i = { s.line i with tone.matchers := [(m.expire e s.now).matcher] } := by simp [hs1]
    have hallows : (s1.line i).allows .fax = true := by
      simp [hl1, Line.allows, Line.routing, hcall, hcopy, JobSet.has, hfax]
    rw [hcls, recordingTone_faxCall_switches hn (by rw [hl1]; exact hmode) hallows hw] at hrun
    have hready1 : s1.incomingReady i (s1.line i).copies .fax = true := by
      rw [hl1, incomingReady_of_emptier (emptier_of_areas rfl)]
      exact hready
    obtain ⟨hdram, hrest⟩ := discard_switches (s := s1) (i := i) hid (by rw [hl1]; exact hcall) hready1
      (by simpa [hs1] using hladder) (by rw [hl1]; exact hq) (by rw [hl1]; exact hwants)
    refine ⟨_, hrun, hdram, ?_⟩
    rw [hl1] at hrest
    exact hrest
  · have hrun := exec_dtmfAbsenceExpiry_due hd hb
    rw [digitRecognised_voice _ (by simp [hst]), voiceDigit_hash (r := r) (id := id) (by simpa using hact)
      (by simpa using hr) hn hid (by simpa using hbarge)] at hrun
    refine ⟨_, hrun, eq_of_without (i := i) (by simp), othersSame_of_without (by simp), ?_⟩
    rw [line_modLine_same, line_notifyLine_same, line_modLine_same, notify_eq]
    simp [Voice.afterRecording]

end Sys2Proof.Machine
end

section
/-! SUPPORT. A step with no command waiting (notes/assumptions/3.md), and the clock's minutes (R58). -/

namespace Sys2Proof.Machine

theorem step_idle {s : State} (h : s.pending = []) : step s = .next s.tick := by
  unfold step
  rw [h]

/-- Settles O2: a step with no command is `tick`, and a minute moves the clock by `Clock.advance`. -/
theorem timePasses : Obligations.TimePasses := by
  unfold Obligations.TimePasses
  refine ⟨fun s h => step_idle h, fun s hset hfull hm => ?_, fun s hset hfull hm => ?_, fun s hset => ?_⟩
  · simp [execClockMinuteAdvance, Clock.advance, hset, hfull, hm.ne]
  · simp [execClockMinuteAdvance, Clock.advance, hset, hfull, hm]
  · simp [execClockMinuteAdvance, hset]

end Sys2Proof.Machine
end

section
/-! SUPPORT. The routing table (R45 to R51): which entry a call takes, what an entry asks of a call, and the directives
that write and read the table. -/

namespace Sys2Proof.Machine

variable {s : State} {d : Directive} {i : LineId} {code : Byte}

/-! ## Directives on the part -/

/-- A directive on the part as a whole names it with 0x0E (R175). -/
theorem onPart_elsewhere {α : Type} {p : Arg α} {f : Option α → State → Answer} (h : d.line ≠ 0x0E) :
    onPart p f d s = s.refuse .refusedUnknown := if_neg h

theorem onPart_unknown {α : Type} {p : Arg α} {f : Option α → State → Answer} (hs : s.takes) (h : d.line ≠ 0x0E)
    (hcode : resets code .refusedUnknown = false) :
    s.directive code d (onPart p f) = s.reply ⟨code, d.tag, .refusedUnknown, []⟩ :=
  directive_refused hs (onPart_elsewhere h) hcode

/-- A directive that only reports: nothing changes but the reply list. -/
theorem directive_reports {run : Directive → State → Answer} {st : Status} {res : List Byte} (h : s.takes)
    (hrun : run d (s.inHand code d) = (s.inHand code d).answer st res) (hcode : resets code st = false) :
    s.directive code d run = s.reply ⟨code, d.tag, st, res⟩ := directive_exact h hrun h.1 hcode

/-! ## ROUTE_DROP and ROUTE_CLEAR (R48) -/

theorem routeDrop_drops {p : Nat} (hs : s.takes) (hl : d.line = 0x0E) (ha : (argNum 1).read d.args = .good p)
    (hp : p < s.routes.length) : exec (.routeDrop d) s = .next (({ s with
      routes := s.routes.take p ++ s.routes.drop (p + 1) } : State).reply ⟨0x29, d.tag, .ok, []⟩) := by
  rw [← List.eraseIdx_eq_take_drop_succ]
  exact congrArg Host.Outcome.next (directive_exact (t := { s with routes := s.routes.eraseIdx p }) hs
    ((onPart_good hl ha).trans (if_pos hp)) hs.1 rfl)

theorem routeDrop_notFound {p : Nat} (hs : s.takes) (hl : d.line = 0x0E) (ha : (argNum 1).read d.args = .good p)
    (hp : ¬ p < s.routes.length) : exec (.routeDrop d) s = .next (s.reply ⟨0x29, d.tag, .refusedNotFound, []⟩) :=
  congrArg Host.Outcome.next (directive_refused hs ((onPart_good hl ha).trans (if_neg hp)) rfl)

theorem routeClear_clears (hs : s.takes) (hl : d.line = 0x0E) (ha : d.args = []) :
    exec (.routeClear d) s = .next (({ s with routes := [] } : State).reply ⟨0x2A, d.tag, .ok, []⟩) :=
  congrArg Host.Outcome.next (directive_exact (t := { s with routes := [] }) hs
    (onPart_good hl (ha ▸ read_none)) hs.1 rfl)

/-- Settles O28, by the equations of ROUTE_DROP and ROUTE_CLEAR. -/
theorem routingTableDirectives : Obligations.RoutingTableDirectives := by
  unfold Obligations.RoutingTableDirectives
  refine ⟨fun s d p hs hl ha => ?_, fun s d => routeClear_clears, fun s d hs hl => ?_⟩
  · split_ifs with hp
    · exact routeDrop_drops hs hl ha hp
    · exact routeDrop_notFound hs hl ha hp
  · exact ⟨congrArg Host.Outcome.next (onPart_unknown hs hl rfl), congrArg Host.Outcome.next (onPart_unknown hs hl rfl)⟩

/-! ## The first entry that matches (R46, R51) -/

variable {p : RouteEntry → Bool} {es : List RouteEntry}

theorem firstMatch_of_first {n : Nat} {e : RouteEntry} (k : Nat) (hn : es[n]? = some e) (he : p e = true)
    (h : ∀ m e', m < n → es[m]? = some e' → p e' = false) : firstMatch p k es = some (k + n, e) := by
  induction es generalizing n k with
  | nil => simp at hn
  | cons x es ih =>
    cases n with
    | zero =>
      obtain rfl : x = e := by simpa using hn
      simp [firstMatch, he]
    | succ n =>
      have hx : p x = false := h 0 x n.succ_pos rfl
      have htail := ih (k + 1) (by simpa using hn) fun m e' hm he' => h (m + 1) e' (by omega) (by simpa using he')
      simp [firstMatch, hx, htail, Nat.add_comm, Nat.add_left_comm]

theorem firstMatch_of_none (k : Nat) (h : ∀ e ∈ es, p e = false) : firstMatch p k es = none := by
  induction es generalizing k with
  | nil => rfl
  | cons x es ih =>
    rw [firstMatch, h x List.mem_cons_self, if_neg (by simp)]
    exact ih (k + 1) fun e he => h e (List.mem_cons_of_mem x he)

section

variable {cls : CadenceClass} {r : CidRecord}

theorem route_of_first {n : Nat} {e : RouteEntry} (henable : (s.line i).profile.answerEnable = true)
    (hn : s.routes[n]? = some e) (he : e.matches_ i cls r s.clock = true)
    (h : ∀ m e', m < n → s.routes[m]? = some e' → e'.matches_ i cls r s.clock = false) :
    s.route i cls r = ⟨some n, e.action, e.rings, e.mask, e.mailbox, e.greeting, .none⟩ := by
  simp [State.route, henable, firstMatch_of_first 0 hn he h]

theorem route_of_none (henable : (s.line i).profile.answerEnable = true)
    (h : ∀ e ∈ s.routes, e.matches_ i cls r s.clock = false) :
    s.route i cls r = ⟨none, .answer, some (s.line i).profile.defaultRings, (s.line i).profile.defaultMask,
      (s.line i).profile.defaultMailbox, none, .none⟩ := by
  simp [State.route, henable, firstMatch_of_none 0 h]

theorem route_of_disabled (h : (s.line i).profile.answerEnable = false) :
    (s.route i cls r).action = .reject ∧ (s.route i cls r).rings = none := by
  simp [State.route, h]

end

/-! ## The conditions of an entry (R45, R46) -/

/-- The minutes of a window, which wraps midnight where it ends before it starts. -/
theorem windowHolds_set {c : Clock} {a b : Nat} (h : c.isSet = true) : windowHolds c (some (a, b)) = true ↔
    ((a ≤ b ∧ a ≤ c.minute ∧ c.minute ≤ b) ∨ (b < a ∧ (a ≤ c.minute ∨ c.minute ≤ b))) := by
  by_cases hab : a ≤ b
  · simp [windowHolds, h, hab, Nat.not_lt.2 hab]
  · simp [windowHolds, h, hab, Nat.not_le.1 hab]

theorem windowHolds_unset {c : Clock} {a b : Nat} (h : c.isSet = false) : windowHolds c (some (a, b)) = false := by
  simp [windowHolds, h]

theorem windowHolds_iff (c : Clock) (w : Option (Nat × Nat)) : windowHolds c w = true ↔
    (w = none ∨ (c.isSet = true ∧ ∃ a b, w = some (a, b) ∧
      ((a ≤ b ∧ a ≤ c.minute ∧ c.minute ≤ b) ∨ (b < a ∧ (a ≤ c.minute ∨ c.minute ≤ b))))) := by
  obtain _ | ⟨a, b⟩ := w
  · simp [windowHolds]
  · cases hset : c.isSet with
    | false => simp [windowHolds_unset hset]
    | true =>
      rw [windowHolds_set hset]
      exact ⟨fun h => .inr ⟨rfl, a, b, rfl, h⟩, fun h => by
        obtain ⟨-, a', b', heq, h⟩ := h.resolve_left (by simp)
        cases heq
        exact h⟩

theorem ringMatch_holds_iff (m : RingMatch) (cls : CadenceClass) : m.holds cls = true ↔
    (m = .any ∨ (∃ n, m = .pattern n ∧ cls = .pattern n) ∨ (m = .unmatched ∧ cls = .unmatched)) := by
  cases m with
  | any => simp [RingMatch.holds]
  | pattern n =>
    cases cls with
    | pattern m => simp [RingMatch.holds, eq_comm (a := m)]
    | _ => simp [RingMatch.holds]
  | unmatched => cases cls <;> simp [RingMatch.holds]

theorem numberMatch_holds_iff (m : NumberMatch) (r : CidRecord) : m.holds r = true ↔
    (m = .any ∨ (m = .withheld ∧ r.status = .complete ∧ r.numberWithheld ≠ none) ∨
      (m = .none ∧ r.status ≠ .complete) ∨
      (∃ ds rest, m = .digits ds ∧ r.status = .complete ∧ r.number = some (ds ++ rest))) := by
  cases m with
  | any => simp [NumberMatch.holds]
  | withheld => simp [NumberMatch.holds, Option.isSome_iff_ne_none]
  | none => simp [NumberMatch.holds]
  | digits ds =>
    cases hn : r.number with
    | none => simp [NumberMatch.holds, hn]
    | some n => simp [NumberMatch.holds, hn, List.IsPrefix, eq_comm (a := n)]

/-! ## ROUTE_PUT, ROUTE_READ and ROUTE_TEST (R47, R49, R50) -/

/-- What a ROUTE_PUT does with the entry it carries. -/
def State.putRoute (s : State) (position : Nat) (e : RouteEntry) : Answer :=
  if 24 ≤ s.routes.length then s.refuse .refusedFull
  else if s.routes.length < position then s.refuse .refusedArg
  else ({ s with routes := s.routes.take position ++ e :: s.routes.drop position } : State).answer .ok []

theorem runRoutePut_entry {a : RouteArgs} {e : RouteEntry} (hl : d.line = 0x0E) (ha : argRoute.read d.args = .good a)
    (he : a.entry = some e) : runRoutePut d s = s.putRoute a.position e := by
  rw [runRoutePut, onPart_good hl ha]
  simp only [Option.bind_some, he]
  rfl

theorem runRoutePut_noEntry {a : RouteArgs} (hl : d.line = 0x0E) (ha : argRoute.read d.args = .good a)
    (he : a.entry = none) : runRoutePut d s = s.refuse .refusedArg := by
  rw [runRoutePut, onPart_good hl ha]
  simp only [Option.bind_some, he]

theorem routePut_puts {a : RouteArgs} {e : RouteEntry} (hs : s.takes) (hl : d.line = 0x0E)
    (ha : argRoute.read d.args = .good a) (he : a.entry = some e) (hroom : s.routes.length < 24)
    (hpos : a.position ≤ s.routes.length) : exec (.routePut d) s = .next (({ s with
      routes := s.routes.take a.position ++ e :: s.routes.drop a.position } : State).reply ⟨0x28, d.tag, .ok, []⟩) :=
  congrArg Host.Outcome.next (directive_exact
    (t := { s with routes := s.routes.take a.position ++ e :: s.routes.drop a.position }) hs
    ((runRoutePut_entry hl ha he).trans ((if_neg (Nat.not_le.2 hroom)).trans (if_neg (Nat.not_lt.2 hpos)))) hs.1 rfl)

theorem routePut_full {a : RouteArgs} {e : RouteEntry} (hs : s.takes) (hl : d.line = 0x0E)
    (ha : argRoute.read d.args = .good a) (he : a.entry = some e) (hfull : 24 ≤ s.routes.length) :
    exec (.routePut d) s = .next (s.reply ⟨0x28, d.tag, .refusedFull, []⟩) :=
  congrArg Host.Outcome.next (directive_refused hs ((runRoutePut_entry hl ha he).trans (if_pos hfull)) rfl)

theorem routePut_illegal {a : RouteArgs} (hs : s.takes) (hl : d.line = 0x0E) (ha : argRoute.read d.args = .good a)
    (h : a.entry = none ∨ (s.routes.length < 24 ∧ s.routes.length < a.position)) :
    exec (.routePut d) s = .next (s.reply ⟨0x28, d.tag, .refusedArg, []⟩) := by
  refine congrArg Host.Outcome.next (directive_refused hs ?_ rfl)
  cases he : a.entry with
  | none => exact runRoutePut_noEntry hl ha he
  | some e =>
    obtain ⟨hroom, hpos⟩ := h.resolve_left (by simp [he])
    exact (runRoutePut_entry hl ha he).trans ((if_neg (Nat.not_le.2 hroom)).trans (if_pos hpos))

/-- What a ROUTE_READ reports of a position. -/
theorem runRouteRead_eq {p : Nat} (hl : d.line = 0x0E) (ha : (argNum 1).read d.args = .good p) :
    runRouteRead d s = s.routes[p]?.elim (s.answer .refusedNotFound [byte s.routes.length])
      (fun e => s.answer .ok (e.encode ++ [byte s.routes.length])) := by
  rw [runRouteRead, onPart_good hl ha]
  simp only [Option.getD_some]
  cases s.routes[p]? <;> rfl

theorem routeRead_found {p : Nat} {e : RouteEntry} (hs : s.takes) (hl : d.line = 0x0E)
    (ha : (argNum 1).read d.args = .good p) (he : s.routes[p]? = some e) :
    exec (.routeRead d) s = .next (s.reply ⟨0x2B, d.tag, .ok, e.encode ++ [byte s.routes.length]⟩) := by
  have hrun := runRouteRead_eq (s := s.inHand 0x2B d) hl ha
  exact congrArg Host.Outcome.next (directive_reports hs (hrun.trans (congrArg (Option.elim · _ _) he)) rfl)

theorem routeRead_notFound {p : Nat} (hs : s.takes) (hl : d.line = 0x0E) (ha : (argNum 1).read d.args = .good p)
    (hp : s.routes.length ≤ p) :
    exec (.routeRead d) s = .next (s.reply ⟨0x2B, d.tag, .refusedNotFound, [byte s.routes.length]⟩) := by
  have hrun := runRouteRead_eq (s := s.inHand 0x2B d) hl ha
  exact congrArg Host.Outcome.next (directive_reports hs
    (hrun.trans (congrArg (Option.elim · _ _) (List.getElem?_eq_none hp))) rfl)

theorem routeTest_reports {c : CadenceClass} {a : CidArgs} {r : CidRecord} (hs : s.takes)
    (hl : lineOf? d.line = some i) (ha : argRouteTest.read d.args = .good (some c, a)) (hr : a.record = some r) :
    exec (.routeTest d) s = .next (s.reply ⟨0x2F, d.tag, .ok, (s.route i c r).encodeTest⟩) := by
  refine congrArg Host.Outcome.next (directive_reports hs ((onLine_good hl ha).trans ?_) rfl)
  simp only [Option.bind_some, hr]
  rfl

/-- Settles O29: the routing by `route_of_first`, `route_of_none` and `route_of_disabled`, the conditions of an entry each
by its own equivalence, and the directives by their equations. -/
theorem routingTakesFirstMatch : Obligations.RoutingTakesFirstMatch := by
  unfold Obligations.RoutingTakesFirstMatch
  refine ⟨fun s i cls r n e => route_of_first, fun s i cls r => route_of_none, fun s i cls r => route_of_disabled,
    fun c a b => windowHolds_set, fun c a b => windowHolds_unset, fun s d a e => routePut_puts,
    fun s d a e => routePut_full, fun s i d c a r => routeTest_reports, fun s d a => routePut_illegal,
    fun s d p e => routeRead_found, fun s d p => routeRead_notFound, fun s d hs hl => ?_, fun e i cls r c => ?_⟩
  · exact congrArg Host.Outcome.next (onPart_unknown hs hl rfl)
  · rw [← ringMatch_holds_iff, ← numberMatch_holds_iff, ← windowHolds_iff]
    simp only [RouteEntry.matches_, Bool.and_eq_true, and_assoc]

end Sys2Proof.Machine
end

section
/-! SUPPORT. The FIFO of an area (R66, R67): the whole area after an append, a removal and an emptying, and the FLOW notice
of a line with an empty queue. -/

namespace Sys2Proof.Machine

variable (s : State) (k : AreaId)

/-- The area after an append: bytes at the tail as far as they fit, and STOP at the high mark. -/
theorem append_area_eq (bs : List Byte) : (s.append k bs).1.area k = { s.area k with
    fifo := (s.area k).fifo ++ (bs.take (s.area k).room).map (fun b => (b, s.now))
    flow := if bs.take (s.area k).room ≠ [] ∧ (s.area k).flow = .go ∧
        (s.area k).high ≤ (s.area k).fifo.length + min bs.length (s.area k).room then .stop else (s.area k).flow } := by
  unfold State.append
  dsimp only
  cases ht : bs.take (s.area k).room with
  | nil => simp
  | cons b t =>
    have hlen : (b :: t).length = min bs.length (s.area k).room := by rw [← ht, List.length_take, min_comm]
    rw [List.length_cons] at hlen
    simp [setFlow_area_here, Area.flowAfterAppend, Area.occupancy, ← hlen]

/-- A removal takes what is asked for up to the first page mark, where that much is held. -/
theorem removable_eq {a : Area} {n m : Nat} (hm : m = min n ((a.marks.head?.map Prod.fst).getD n))
    (hle : m ≤ a.fifo.length) : a.removable n = m := by
  unfold Area.removable Area.occupancy
  split
  · rename_i q rest hmarks
    simp only [hmarks, List.head?_cons, Option.map_some, Option.getD_some] at hm
    omega
  · rename_i hmarks
    simp only [hmarks, List.head?_nil, Option.map_none, Option.getD_none] at hm
    omega

/-- The area after a removal of `m` bytes: they leave from the head, the marks move with them, and GO returns at the low
mark. -/
theorem remove_area_eq {n m : Nat} (hm : (s.area k).removable n = m) (hpos : 0 < m) :
    (s.remove k n).2.area k = { s.area k with
      fifo := (s.area k).fifo.drop m, marks := (s.area k).marks.map (fun q => (q.1 - m, q.2))
      flow := if (s.area k).flow = .stop ∧ (s.area k).fifo.length - m ≤ (s.area k).low then .go
        else (s.area k).flow } := by
  unfold State.remove
  dsimp only
  rw [hm, if_neg hpos.ne']
  simp [setFlow_area_here, Area.flowAfterRemove, Area.occupancy]

theorem emptyArea_eq : s.emptyArea k = { s with areas := (s.emptyArea k).areas, lines := (s.emptyArea k).lines } := by
  unfold State.emptyArea State.setFlow
  split_ifs
  · rfl
  · dsimp only
    split <;> rfl

/-- An area in GO is emptied and no line is told. -/
theorem emptyArea_of_go (h : (s.area k).flow = .go) :
    s.emptyArea k = s.modArea k (fun a => { a with fifo := [], marks := [] }) := by
  simp [State.emptyArea, State.setFlow, h]

/-- A changed flow state waits alone in the empty queue of its line (R67, R178). -/
theorem setFlow_notifies {i : LineId} {p : Purpose} {f : FlowState} (hjoin : (s.area k).join = some (i, p))
    (hne : (s.area k).flow ≠ f) (hwants : (s.line i).profile.wants .flow = true)
    (hempty : (s.line i).queue.entries = []) :
    s.setFlow k f = (s.setArea k { s.area k with flow := f }).modLine i (fun l =>
      { l with queue := { l.queue with entries := [.flow [(k, f)]] } }) := by
  have hoffer : (s.line i).queue.offer (.flow [(k, f)]) = { (s.line i).queue with entries := [.flow [(k, f)]] } := by
    simp [NoticeQueue.offer, NoticeQueue.enter, mergeInto, hempty, Config.noticeQueueMax]
  have hnotify : (s.line i).notify (.flow [(k, f)]) =
      { s.line i with queue := { (s.line i).queue with entries := [.flow [(k, f)]] } } := by
    rw [Line.notify, ← hoffer]
    exact if_pos hwants
  unfold State.setFlow
  rw [if_neg hne, hjoin]
  exact modLine_congr (s.setArea k { s.area k with flow := f }) i hnotify

end Sys2Proof.Machine
end

section
/-! SUPPORT. SET_CLOCK (R59) and the directives on areas (R61 to R65). -/

namespace Sys2Proof.Machine

variable {s t : State} {d : Directive} {i : LineId} {k : AreaId} {code : Byte}

@[simp] theorem areaOf_val (k : AreaId) : areaOf? k.val = some k := by simp [areaOf?]

/-- A directive whose block does the same with it in hand and without, and what it leaves. -/
theorem repliesWith_exact {run : Directive → State → Answer} {st : Status} {res : List Byte} {p : State → Prop}
    (h : s.takes) (hrun : run d (s.inHand code d) = (t.inHand code d).answer st res) (ht : t.decoder = s.decoder)
    (hrep : t.replies = s.replies) (hcode : resets code st = false) (hp : p t) :
    repliesWith (.next (s.directive code d run)) s ⟨code, d.tag, st, res⟩ p :=
  ⟨t, congrArg Host.Outcome.next (directive_exact h hrun (ht.trans h.1) hcode), hrep, hp⟩

/-! ## SET_CLOCK (R59) -/

theorem setClock_sets {m day : Nat} (hs : s.takes) (hl : d.line = 0x0E) (ha : argClock.read d.args = .good (m, day)) :
    exec (.setClock d) s = .next (if m ≤ 1439 then
      ({ s with clock := ⟨m, day, true, 0⟩ } : State).reply ⟨0x2E, d.tag, .ok, []⟩
      else s.reply ⟨0x2E, d.tag, .refusedArg, []⟩) := by
  refine congrArg Host.Outcome.next ?_
  split_ifs with hm
  · exact directive_exact (t := { s with clock := ⟨m, day, true, 0⟩ }) hs ((onPart_good hl ha).trans (if_pos hm)) hs.1 rfl
  · exact directive_refused hs ((onPart_good hl ha).trans (if_neg hm)) rfl

/-! ## AREA_DEFINE (R61) -/

/-- A definition that gives no marks: refused where its extent is not free, or else the area is made (R61). -/
theorem runAreaDefine_eq {st n : Nat} (hl : d.line = 0x0E)
    (ha : argDefine.read d.args = .good ⟨k.val, st, n, none, none⟩) (hn : 1 ≤ n) (hle : st + n ≤ 96)
    (hjoin : (s.area k).join = none ∨ s.extentFree k st n = false) : runAreaDefine d s =
      if s.extentFree k st n = false then s.refuse .refusedArg
      else (s.defineArea k ⟨k.val, st, n, none, none⟩).answer .ok [] := by
  have hlegal : (⟨k.val, st, n, none, none⟩ : DefineArgs).marksLegal = true := rfl
  rw [runAreaDefine, onPart_good hl ha]
  simp only [areaOf_val, hlegal, Config.bufferUnits]
  rw [if_neg (by omega), if_neg (by simpa using hle)]
  by_cases hfree : s.extentFree k st n = false
  · rw [if_pos hfree, if_pos hfree]
  · rw [if_neg hfree, if_neg hfree, if_neg (by simp [hjoin.resolve_right hfree]),
      if_neg (by simp [hjoin.resolve_right hfree])]

theorem defineArea_of_go {st n : Nat} (h : (s.area k).flow = .go) :
    s.defineArea k ⟨k.val, st, n, none, none⟩ = s.setArea k { s.area k with
      isDefined := true, start := st, units := n, high := n * 192, low := n * 64, content := .none, fifo := []
      marks := [] } := by
  rw [State.defineArea, emptyArea_of_go s k h, modArea_modArea]
  rfl

theorem areaDefine_defines {st n : Nat} (hs : s.takes) (hl : d.line = 0x0E)
    (ha : argDefine.read d.args = .good ⟨k.val, st, n, none, none⟩) (hn : 1 ≤ n) (hle : st + n ≤ 96)
    (hfree : s.extentFree k st n = true) (hjoin : (s.area k).join = none) (hgo : (s.area k).flow = .go) :
    exec (.areaDefine d) s = .next ((s.setArea k { s.area k with
      isDefined := true, start := st, units := n, high := n * 192, low := n * 64, content := .none, fifo := []
      marks := [] }).reply ⟨0x30, d.tag, .ok, []⟩) := by
  have hrun := runAreaDefine_eq (s := s.inHand 0x30 d) hl ha hn hle (.inl hjoin)
  rw [if_neg (show (s.inHand 0x30 d).extentFree k st n ≠ false from ne_false_of_eq_true hfree),
    defineArea_of_go (by simpa using hgo)] at hrun
  exact congrArg Host.Outcome.next (directive_exact hs hrun hs.1 rfl)

theorem areaDefine_taken {st n : Nat} (hs : s.takes) (hl : d.line = 0x0E)
    (ha : argDefine.read d.args = .good ⟨k.val, st, n, none, none⟩) (hn : 1 ≤ n) (hle : st + n ≤ 96)
    (hfree : s.extentFree k st n = false) :
    exec (.areaDefine d) s = .next (s.reply ⟨0x30, d.tag, .refusedArg, []⟩) := by
  have hrun := runAreaDefine_eq (s := s.inHand 0x30 d) hl ha hn hle (.inr hfree)
  exact congrArg Host.Outcome.next (directive_refused hs (hrun.trans (if_pos hfree)) rfl)

/-! ## AREA_JOIN (R62) -/

/-- An area joined to a line without a job is not in use. -/
theorem joinArea_idle {p : Purpose} (h : (s.line i).job = .none) : s.joinArea k i p = s.setArea k { s.area k with
    join := some (i, p), content := .none, fifo := [], marks := [], flow := .go, inUse := none } := by
  simp [State.joinArea, Line.jobUses, h, State.modArea]

theorem runAreaJoin_joins {n : Nat} {p : Purpose} (hl : lineOf? d.line = some i)
    (ha : argPair.read d.args = .good (k.val, n)) (hp : purpose? n = some p) (hdef : (s.area k).isDefined = true)
    (hunits : p.minUnits ≤ (s.area k).units) (hjoin : (s.area k).join = none) (hnone : s.joined i p = none) :
    runAreaJoin d s = (s.joinArea k i p).answer .ok [] := by
  rw [runAreaJoin, onLine_good hl ha]
  simp only [Option.bind_some, areaOf_val, hp]
  rw [if_neg (by simp [hdef]), if_neg (by omega), if_neg (by simp [hjoin, hnone])]

theorem areaJoin_joins {n : Nat} {p : Purpose} (hs : s.takes) (hl : lineOf? d.line = some i)
    (ha : argPair.read d.args = .good (k.val, n)) (hp : purpose? n = some p) (hdef : (s.area k).isDefined = true)
    (hunits : p.minUnits ≤ (s.area k).units) (hjoin : (s.area k).join = none) (hnone : s.joined i p = none)
    (hjob : (s.line i).job = .none) : exec (.areaJoin d) s = .next ((s.setArea k { s.area k with
      join := some (i, p), content := .none, fifo := [], marks := [], flow := .go, inUse := none }).reply
      ⟨0x31, d.tag, .ok, []⟩) := by
  have hrun := runAreaJoin_joins (s := s.inHand 0x31 d) hl ha hp hdef hunits hjoin hnone
  rw [joinArea_idle (by simpa using hjob)] at hrun
  exact congrArg Host.Outcome.next (directive_exact hs hrun hs.1 rfl)

/-! ## AREA_UNJOIN, AREA_FLUSH and AREA_READ (R63 to R65) -/

theorem onFreeArea_free {f : AreaId → State → Answer} (hl : d.line = 0x0E) (ha : (argNum 1).read d.args = .good k.val)
    (hdef : (s.area k).isDefined = true) (huse : (s.area k).inUse = none) : onFreeArea f d s = f k s := by
  rw [onFreeArea, onPart_good hl ha]
  simp [hdef, huse]

theorem areaFlush_flushes (hs : s.takes) (hl : d.line = 0x0E) (ha : (argNum 1).read d.args = .good k.val)
    (hdef : (s.area k).isDefined = true) (huse : (s.area k).inUse = none) :
    repliesWith (exec (.areaFlush d) s) s ⟨0x33, d.tag, .ok, []⟩ (fun t =>
      t = { s with areas := t.areas, lines := t.lines } ∧
      t.area k = { s.area k with fifo := [], marks := [], flow := .go } ∧ ∀ j, j ≠ k → t.area j = s.area j) := by
  have hframe := emptyArea_eq s k
  refine repliesWith_exact (t := s.emptyArea k) hs ((onFreeArea_free (s := s.inHand 0x33 d) hl ha hdef huse).trans ?_)
    (congrArg State.decoder hframe :) (congrArg State.replies hframe :) rfl ⟨hframe, ?_, fun j hj => ?_⟩
  · rw [inHand_emptyArea]
  · simp [emptyArea_area]
  · simp [emptyArea_area, hj]

/-- What AREA_UNJOIN leaves of a joined area that no job uses. -/
def State.unjoinArea (s : State) (k : AreaId) : State :=
  (s.emptyArea k).modArea k (fun a => { a with content := .none, join := none })

theorem unjoinArea_eq (s : State) (k : AreaId) :
    s.unjoinArea k = { s with areas := (s.unjoinArea k).areas, lines := (s.unjoinArea k).lines } := by
  unfold State.unjoinArea
  rw [emptyArea_eq]
  rfl

theorem runAreaUnjoin_joined (hl : d.line = 0x0E) (ha : (argNum 1).read d.args = .good k.val)
    (hdef : (s.area k).isDefined = true) (huse : (s.area k).inUse = none) (hjoin : (s.area k).join.isSome = true) :
    runAreaUnjoin d s = (s.unjoinArea k).answer .ok [] :=
  (onFreeArea_free hl ha hdef huse).trans (if_neg (by simpa [← Option.isSome_iff_ne_none] using hjoin))

theorem areaUnjoin_unjoins (hs : s.takes) (hl : d.line = 0x0E) (ha : (argNum 1).read d.args = .good k.val)
    (hdef : (s.area k).isDefined = true) (huse : (s.area k).inUse = none) (hjoin : (s.area k).join.isSome = true) :
    repliesWith (exec (.areaUnjoin d) s) s ⟨0x32, d.tag, .ok, []⟩ (fun t =>
      t = { s with areas := t.areas, lines := t.lines } ∧
      t.area k = { s.area k with fifo := [], marks := [], flow := .go, content := .none, join := none } ∧
      ∀ j, j ≠ k → t.area j = s.area j) := by
  have hframe := unjoinArea_eq s k
  refine repliesWith_exact (t := s.unjoinArea k) hs 
    ((runAreaUnjoin_joined (s := s.inHand 0x32 d) hl ha hdef huse hjoin).trans ?_)
    (congrArg State.decoder hframe :) (congrArg State.replies hframe :) rfl ⟨hframe, ?_, fun j hj => ?_⟩
  · simp [State.unjoinArea]
  · simp [State.unjoinArea, emptyArea_area]
  · simp [State.unjoinArea, emptyArea_area, hj]

theorem areaRead_reports (hs : s.takes) (hl : d.line = 0x0E) (ha : (argNum 1).read d.args = .good k.val) :
    exec (.areaRead d) s = .next (s.reply ⟨0x34, d.tag, .ok, (s.area k).encode⟩) := by
  refine congrArg Host.Outcome.next (directive_reports hs ((onPart_good hl ha).trans ?_) rfl)
  simp

/-- Settles O30: the directives each by its equation, the FIFO by `append_area_eq` and `remove_area_eq`, the FLOW notice by
`setFlow_notifies`. -/
theorem clockAndAreaDirectives : Obligations.ClockAndAreaDirectives := by
  unfold Obligations.ClockAndAreaDirectives
  refine ⟨fun s d m day => setClock_sets, fun s d k st n => areaDefine_defines, fun s d k st n => areaDefine_taken,
    fun s i d k n p => areaJoin_joins, fun s d k => areaFlush_flushes, fun s d k => areaUnjoin_unjoins,
    fun s d k => areaRead_reports, fun s k bs => ?_, fun s k n m hm hle hpos => ?_,
    fun s i p k f => setFlow_notifies s k⟩
  · exact ⟨by rw [append_count, min_comm], append_area_eq s k bs, fun j hj => append_area_ne s k j bs hj⟩
  · have htaken := removable_eq hm hle
    obtain ⟨-, -, -, hbytes⟩ := remove_area s k n
    rw [htaken] at hbytes
    exact ⟨hbytes, remove_area_eq s k htaken hpos, fun j hj => remove_area_ne s k j n hj⟩

end Sys2Proof.Machine
end

section
/-! SUPPORT. The answer of an incoming call (R42, R44, R53, R54): whatever follows it, the part around the line stands, the
line does not ring again, and the DRAM is written only where a STAGE area was being written out before. -/

namespace Sys2Proof.Machine

variable {s t u : State} {i : LineId}

/-- A state of a line whose ringing is over, outside LOOPBACK. -/
def LineState.pastRinging (st : LineState) : Prop := st ≠ .alerting ∧ st ≠ .loopback

/-- An operation on the way to an answer: around the line nothing changes, nor does the DRAM; the line does not begin to
ring, and its STAGE area does not begin to be written out. -/
structure State.leadsTo (i : LineId) (s t : State) : Prop where
  around : t.around i = s.around i
  dram : t.dram = s.dram
  state : (s.line i).state.pastRinging → (t.line i).state.pastRinging
  stage : (s.line i).stage.isWriting = false → (t.line i).stage.isWriting = false

/-- What an answer comes to: as `leadsTo`, but a recording may have begun, and bytes that waited may have been written. -/
structure State.comesTo (i : LineId) (s t : State) : Prop where
  around : t.around i = s.around i
  state : (s.line i).state.pastRinging → (t.line i).state.pastRinging
  dram : (s.line i).stage.isWriting = false → t.dram = s.dram

theorem State.leadsTo.comesTo (h : State.leadsTo i s t) : State.comesTo i s t := ⟨h.around, h.state, fun _ => h.dram⟩

theorem State.leadsTo.then (h : State.leadsTo i s t) (h' : State.comesTo i t u) : State.comesTo i s u :=
  ⟨h'.around.trans h.around, h'.state ∘ h.state, fun hw => (h'.dram (h.stage hw)).trans h.dram⟩

theorem State.leadsTo.trans (h : State.leadsTo i s t) (h' : State.leadsTo i t u) : State.leadsTo i s u :=
  ⟨h'.around.trans h.around, h'.dram.trans h.dram, h'.state ∘ h.state, h'.stage ∘ h.stage⟩

theorem leadsTo_refl (s : State) : State.leadsTo i s s := ⟨rfl, rfl, id, id⟩

/-- An operation that keeps the line's state and its STAGE operation. -/
theorem leadsTo_of_kept (ha : t.around i = s.around i) (hd : t.dram = s.dram)
    (hst : (t.line i).state = (s.line i).state) (hstage : (t.line i).stage = (s.line i).stage) :
    State.leadsTo i s t := ⟨ha, hd, by rw [hst]; exact id, by rw [hstage]; exact id⟩

/-! ## Operations on the way -/

variable (s i)

/-- An update of the line that names none of the fields in question. -/
theorem modLine_leadsTo {f : Line → Line} (h : ∀ l, (f l).profile = l.profile ∧ (f l).state = l.state ∧
    (f l).stage = l.stage := by exact fun _ => ⟨rfl, rfl, rfl⟩) : State.leadsTo i s (s.modLine i f) :=
  leadsTo_of_kept (modLine_around s i fun l => (h l).1) rfl (by simp [h]) (by simp [h])

theorem notifyLine_leadsTo (n : Notice) : State.leadsTo i s (s.notifyLine i n) :=
  leadsTo_of_kept (notifyLine_around s i i n) rfl (by simp) (by simp)

theorem emptyStage_leadsTo : State.leadsTo i s (s.emptyStage i) :=
  leadsTo_of_kept (emptyStage_around s i i) (emptyStage_dram s i) (by rw [emptyStage_line_eq])
    (by rw [emptyStage_line_eq])

theorem generate_leadsTo (c : ToneClass) (n : Ms) : State.leadsTo i s (s.generate i c n) :=
  leadsTo_of_kept (generate_around s i c n) (generate_dram s i c n) (by simp [State.generate]) (by simp [State.generate])

theorem takeJob_leadsTo (ps : List Purpose) (c : ContentKind) {st : LineState} (h : st.pastRinging) :
    State.leadsTo i s (s.takeJob i ps c st) := by
  refine ⟨takeJob_around s i ps c st, takeJob_dram s i ps c st, fun _ => ?_, fun hw => ?_⟩
  · rw [takeJob_line_eq]; exact h
  · rw [takeJob_line_eq]; exact hw

theorem leaveGreeting_writing (h : (s.line i).stage.isWriting = false) :
    ((s.leaveGreeting i).line i).stage.isWriting = false := by
  unfold State.leaveGreeting State.leaveStage
  dsimp only
  split_ifs
  · simp [StageOp.isWriting]
  · simpa using h

theorem stopGreeting_leadsTo : State.leadsTo i s (s.stopGreeting i) := by
  refine ⟨stopGreeting_around s i, stopGreeting_dram s i, fun h => ?_, fun h => ?_⟩
  · rw [stopGreeting_line_eq]; exact h
  · unfold State.stopGreeting
    split_ifs
    · exact leaveGreeting_writing _ i ((emptyStage_leadsTo s i).stage h)
    · exact leaveGreeting_writing s i h

theorem clearVoice_leadsTo : State.leadsTo i s (s.clearVoice i) :=
  (stopGreeting_leadsTo s i).trans ((emptyStage_leadsTo _ i).trans
    (modLine_leadsTo _ i))

theorem noteResult_leadsTo (j : Job) (b : Basis) : State.leadsTo i s (s.noteResult i j b) :=
  (modLine_leadsTo s i).trans (notifyLine_leadsTo _ i _)

theorem handOver_leadsTo : State.leadsTo i s (s.handOver i) :=
  (modLine_leadsTo s i).trans (notifyLine_leadsTo _ i _)

theorem startReading_leadsTo (id pos len : Nat) : State.leadsTo i s (s.startReading i id pos len) := by
  refine ⟨startReading_around s i i id pos len, by simp [State.startReading], fun h => ?_, fun _ => ?_⟩
  · rw [startReading_line]; exact h
  · rw [startReading_line]; rfl

theorem startGreeting_leadsTo : State.leadsTo i s (s.startGreeting i).1 := by
  have hauto : State.leadsTo i s (s.modLine i (fun l => { l with voice := { mode := .auto } })) :=
    modLine_leadsTo s i
  unfold State.startGreeting
  dsimp only
  split
  · exact hauto
  · rename_i e _
    have hmark := leadsTo_of_kept (i := i) (markPlaying_around (s.modLine i (fun l =>
      { l with voice := { mode := .auto } })) i i e.id) rfl rfl rfl
    dsimp only
    exact hauto.trans (hmark.trans ((startReading_leadsTo _ i _ _ _).trans (modLine_leadsTo _ i)))

/-! ## What an answer comes to -/

theorem release_comesTo (why : EndReason) : State.comesTo i s (s.release i why) := by
  refine ⟨release_around s i why, fun h => ?_, fun h => release_dram (.inr h)⟩
  obtain ⟨hst, -⟩ := release_line (s := s) (i := i) why h.2
  rw [hst]
  exact ⟨by decide, by decide⟩

theorem afterAuto_comesTo : State.comesTo i s (s.afterAuto i) := by
  unfold State.afterAuto
  split
  · exact (handOver_leadsTo s i).comesTo
  · exact release_comesTo s i .done

variable {s i} in
/-- An entry opened in the store changes no line and no byte of the DRAM (R145). -/
theorem openEntry_lines {kind : MsgKind} {mailbox id : Nat} {o : Option LineId} {cid : Option CidRecord}
    {bits : Option Nat} (h : s.openEntry kind mailbox o cid bits = .ok (id, t)) : t.lines = s.lines ∧ t.dram = s.dram := by
  unfold State.openEntry at h
  split_ifs at h
  obtain ⟨-, rfl⟩ := Prod.mk.inj (Except.ok.inj h)
  exact ⟨rfl, rfl⟩

/-- A recording to the store begins, or is refused and the sequence ends (R160, R165). -/
theorem beginStored_comesTo (kind : MsgKind) (mailbox : Nat) (watch : Bool) :
    State.comesTo i s (s.beginStored i kind mailbox watch) := by
  refine (emptyStage_leadsTo s i).then ?_
  unfold State.beginStored
  dsimp only
  generalize s.emptyStage i = s0
  split
  · refine ((modLine_leadsTo s0 i (f := fun l => { l with voice := l.voice.noRecording })).trans
      (notifyLine_leadsTo _ i (.recordDone none 0 .storeLow))).then ?_
    unfold Voice.afterRecording
    split
    · exact afterAuto_comesTo _ i
    · exact (leadsTo_refl _).comesTo
  · rename_i id s1 hopen
    obtain ⟨hlines, hdram⟩ := openEntry_lines hopen
    have hline : s1.line i = s0.line i := by simp only [State.line, hlines]
    refine ⟨?_, fun h => ?_, fun _ => ?_⟩
    · rw [modLine_around _ _ (fun _ => by rfl), startWriting_around, openEntry_around _ i hopen]
    · rw [line_modLine_same, startWriting_line, hline]; exact h
    · simp [State.startWriting, hdram]

theorem startRecordTone_comesTo : State.comesTo i s (s.startRecordTone i) := by
  unfold State.startRecordTone
  dsimp only
  split
  · exact beginStored_comesTo s i _ _ _
  · exact ((modLine_leadsTo s i).trans (generate_leadsTo _ i _ _)).comesTo

theorem startData_answer_comesTo : State.comesTo i s (s.startData i .answer) := by
  by_cases h : s.dataLadder = []
  · unfold State.startData
    simp only [h, List.isEmpty_nil, if_true]
    exact (modLine_leadsTo s i).then (release_comesTo _ i _)
  · rw [startData_answer h]
    exact ((modLine_leadsTo s i).trans (generate_leadsTo _ i _ _)).comesTo

theorem startFaxReceiver_comesTo : State.comesTo i s (s.startFaxReceiver i) := by
  by_cases h : s.faxLadder = []
  · unfold State.startFaxReceiver
    simp only [h, List.isEmpty_nil, if_true]
    exact (modLine_leadsTo s i).then (release_comesTo _ i _)
  · rw [startFaxReceiver_begins h]
    exact ((modLine_leadsTo s i).trans (generate_leadsTo _ i _ _)).comesTo

theorem enterJob_data : s.enterJob i .data =
    ((s.clearVoice i).takeJob i [.tx, .rx] .data .data).startData i .answer := rfl

theorem enterJob_fax : s.enterJob i .fax =
    ((s.clearVoice i).takeJob i (incomingUses (s.line i).copies .fax) .page .fax).startFaxReceiver i := rfl

theorem enterJob_voice : s.enterJob i .voice = (
    let t := s.takeJob i (incomingUses (s.line i).copies .voice) .voice .voice
    if (t.line i).voice.barge then t.handOver i
    else if (t.line i).voice.activity = .none then t.startRecordTone i else t) := by
  unfold State.enterJob State.takeJob
  rfl

theorem enterJob_comesTo (j : Job) : State.comesTo i s (s.enterJob i j) := by
  cases j with
  | none => exact (leadsTo_refl s).comesTo
  | data =>
    rw [enterJob_data]
    exact (clearVoice_leadsTo s i).then ((takeJob_leadsTo _ i _ _ ⟨by decide, by decide⟩).then
      (startData_answer_comesTo _ i))
  | fax =>
    rw [enterJob_fax]
    exact (clearVoice_leadsTo s i).then ((takeJob_leadsTo _ i _ _ ⟨by decide, by decide⟩).then
      (startFaxReceiver_comesTo _ i))
  | voice =>
    rw [enterJob_voice]
    refine (takeJob_leadsTo s i (incomingUses (s.line i).copies .voice) .voice (st := .voice) ⟨by decide, by decide⟩).then ?_
    dsimp only
    split_ifs
    · exact (handOver_leadsTo _ i).comesTo
    · exact startRecordTone_comesTo _ i
    · exact (leadsTo_refl _).comesTo

theorem classResult_comesTo (j : Job) (b : Basis) : State.comesTo i s (s.classResult i j b) := by
  rw [classResult_eq]
  split
  · exact (noteResult_leadsTo s i j b).then (enterJob_comesTo _ i j)
  · exact (noteResult_leadsTo s i j b).then (release_comesTo _ i _)

theorem finding_comesTo (j : Job) (b : Basis) : State.comesTo i s (s.finding i j b) := by
  unfold State.finding
  split
  · exact classResult_comesTo s i j b
  · exact (leadsTo_refl s).comesTo

/-- The answer instant, from the state that CLASSIFY is entered in (R13, R42, R53, R158). -/
theorem enterClassify_comesTo_pass : State.comesTo i (s.pass i .classify) (s.enterClassify i) := by
  unfold State.enterClassify
  dsimp only
  generalize s.pass i .classify = s1
  have hlisten : State.leadsTo i s1 (s1.modLine i (fun l => { l with classifyTimer := s.start l.profile.classifyMs })) :=
    modLine_leadsTo s1 i
  split
  · exact (leadsTo_refl s1).comesTo
  · split_ifs
    · exact (modLine_leadsTo s1 i).comesTo
    · have hgreet := hlisten.trans (startGreeting_leadsTo _ i)
      split
      · rename_i h
        rw [h] at hgreet
        exact hgreet.comesTo
      · rename_i h
        rw [h] at hgreet
        exact hgreet.then (finding_comesTo _ i _ _)
    · exact hlisten.comesTo
    · exact hlisten.then (classResult_comesTo _ i _ _)

/-- An answered line rings no more, and around it nothing has changed. -/
theorem enterClassify_answers : (s.enterClassify i).around i = s.around i ∧
    ((s.enterClassify i).line i).state ≠ .alerting ∧
    ((s.line i).stage.isWriting = false → (s.enterClassify i).dram = s.dram) := by
  obtain ⟨haround, hstate, hdram⟩ := enterClassify_comesTo_pass s i
  have hpast : ((s.pass i .classify).line i).state.pastRinging := by
    rw [pass_line_eq]
    exact ⟨by simp, by simp⟩
  have hstage : ((s.pass i .classify).line i).stage = (s.line i).stage := by rw [pass_line_eq]
  exact ⟨haround.trans (pass_around s i .classify), (hstate hpast).1,
    fun h => (hdram (by rw [hstage]; exact h)).trans (pass_dram s i .classify)⟩

end Sys2Proof.Machine
end

section
/-! SUPPORT. ANSWER and REJECT of the host (R54, R55). -/

namespace Sys2Proof.Machine

variable {s : State} {i : LineId} {d : Directive} {m : JobSet}

/-! ## An ANSWER that takes effect (R54) -/

/-- The state an ANSWER of the host answers from: the window is closed, and the routing copy is overridden, or made with
the override where there is none. -/
def State.copyForAnswer (s : State) (i : LineId) : State :=
  let s1 := (s.modLine i (fun l => { l with answerWaiting := false })).closeWindow i
  match (s1.line i).routing with
  | some _ => s1.modLine i (fun l => l.modCall (fun k =>
      { k with routing := k.routing.map (fun c => c.override_ l.override) }))
  | none => s1.makeCopy i

theorem hostAnswer_eq (s : State) (i : LineId) : s.hostAnswer i = (s.copyForAnswer i).enterClassify i := by
  unfold State.hostAnswer State.copyForAnswer
  generalize (s.modLine i (fun l => { l with answerWaiting := false })).closeWindow i = s1
  dsimp only
  cases (s1.line i).routing <;> rfl

theorem copyForAnswer_without (s : State) (i : LineId) : (s.copyForAnswer i).without i = s.without i := by
  unfold State.copyForAnswer
  dsimp only
  split <;> simp [State.makeCopy]

theorem copyForAnswer_line (s : State) (i : LineId) : (s.copyForAnswer i).line i = { s.line i with
    answerWaiting := false, call := ((s.copyForAnswer i).line i).call, tone := ((s.copyForAnswer i).line i).tone
    queue := ((s.copyForAnswer i).line i).queue } := by
  have hclosed := (closeWindow_line_eq (s.modLine i (fun l => { l with answerWaiting := false })) i).trans
    (by rw [line_modLine_same])
  unfold State.copyForAnswer State.makeCopy
  dsimp only
  generalize (s.modLine i (fun l => { l with answerWaiting := false })).closeWindow i = s1 at *
  split
  · rw [line_modLine_same, hclosed]
    rfl
  · rw [line_notifyLine_same, line_modLine_same]
    refine (notify_eq _ _).trans ?_
    simp only [notify_call, notify_tone]
    rw [hclosed]
    rfl

theorem closeWindow_call_isSome (s : State) (i : LineId) :
    ((s.closeWindow i).line i).call.isSome = (s.line i).call.isSome := by
  have := congrArg Option.isSome (closeWindow_start (s := s) (i := i))
  simpa using this

/-- A routing copy made has the line's override applied (R51). -/
theorem makeCopy_routing {c : CallRecord} (hc : (s.line i).call = some c) : ((s.makeCopy i).line i).routing =
    some ((s.route i (c.cadence.getD .pending) (c.cid.getD { status := .none })).override_ (s.line i).override) := by
  simp [State.makeCopy, Line.routing, Line.modCall, hc]

/-- The copy an ANSWER answers by: ANSWER, with the mask of the host (R51 step 4, R54). -/
theorem copyForAnswer_routing (ho : (s.line i).override = .answer m) (hc : (s.line i).call.isSome = true) :
    ∃ cp, ((s.copyForAnswer i).line i).routing = some cp ∧ cp.action = .answer ∧ cp.mask = m := by
  unfold State.copyForAnswer
  dsimp only
  set s1 := (s.modLine i (fun l => { l with answerWaiting := false })).closeWindow i with hs1
  have hover : (s1.line i).override = .answer m := by rw [hs1, closeWindow_line_eq]; simpa using ho
  have hcall : (s1.line i).call.isSome = true := by rw [hs1, closeWindow_call_isSome]; simpa using hc
  obtain ⟨c, hc1⟩ := Option.isSome_iff_exists.1 hcall
  split
  · rename_i cp hcp
    have hr : c.routing = some cp := by simpa [Line.routing, hc1] using hcp
    refine ⟨cp.override_ (.answer m), ?_, rfl, rfl⟩
    simp [Line.routing, Line.modCall, hc1, hr, hover]
  · exact ⟨_, (makeCopy_routing hc1).trans (by rw [hover]), rfl, rfl⟩

/-- What an ANSWER that takes effect comes to (R54). -/
theorem hostAnswer_answers (s : State) (i : LineId) : (s.hostAnswer i).around i = s.around i ∧
    ((s.hostAnswer i).line i).state ≠ .alerting ∧
    ((s.line i).stage.isWriting = false → (s.hostAnswer i).dram = s.dram) := by
  have hwithout := copyForAnswer_without s i
  have hline := copyForAnswer_line s i
  obtain ⟨haround, hstate, hdram⟩ := enterClassify_answers (s.copyForAnswer i) i
  rw [hostAnswer_eq]
  refine ⟨haround.trans (around_of_without hwithout (by rw [hline])), hstate, fun h => ?_⟩
  exact (hdram (by rw [hline]; exact h)).trans (congrArg State.dram hwithout :)

/-- An ANSWER for DATA and FAX takes effect: the line listens for its classification time (R42, R54). -/
theorem hostAnswer_listens (ho : (s.line i).override = .answer ⟨true, true, false⟩)
    (hc : (s.line i).call.isSome = true) :
    ((s.hostAnswer i).line i).state = .classify ∧ ((s.hostAnswer i).line i).relay = true ∧
    ((s.hostAnswer i).line i).classifyTimer = some (s.now + (s.line i).profile.classifyMs) := by
  obtain ⟨cp, hr, ha, hm⟩ := copyForAnswer_routing ho hc
  have hprofile : ((s.copyForAnswer i).line i).profile = (s.line i).profile := by rw [copyForAnswer_line]
  rw [hostAnswer_eq, enterClassify_listens hr ha hm, line_modLine_same, pass_line_eq]
  simp [LineState.offHook, hprofile, now_of_without (copyForAnswer_without s i)]

/-! ## The directives -/

/-- A nonempty set of jobs has no bit beyond the three (R45). -/
theorem mask_none {n : Nat} (h : n = 0 ∨ 8 ≤ n) : mask? n = none := by
  unfold mask? jobSet?
  split_ifs
  · rfl
  · omega
  · rfl

/-- The state in which an ANSWER has left its override. -/
def State.ordered (s : State) (i : LineId) (m : JobSet) : State :=
  s.modLine i (Line.takeOverride (.answer m) (fun c => { c with override := .answer }))

theorem runAnswer_mask {n : Nat} (hl : lineOf? d.line = some i) (ha : (argNum 1).read d.args = .good n)
    (hm : mask? n = some m) : runAnswer d s =
      if (s.line i).state ≠ .alerting then s.refuse .refusedState
      else if (s.line i).ring.burst.isSome then
        ((s.ordered i m).modLine i (fun l => { l with answerWaiting := true })).answer .ok []
      else ((s.ordered i m).hostAnswer i).answer .ok [] := by
  have hburst : ((s.ordered i m).line i).ring.burst = (s.line i).ring.burst := by
    simp [State.ordered, Line.takeOverride, Line.modCall]
  rw [runAnswer, onLine_good hl ha, ← hburst]
  simp only [Option.bind_some, hm]
  rfl

theorem answer_illegal {n : Nat} (hs : s.takes) (hl : lineOf? d.line = some i) (ha : (argNum 1).read d.args = .good n)
    (hn : n = 0 ∨ 8 ≤ n) : exec (.answer d) s = .next (s.reply ⟨0x2C, d.tag, .refusedArg, []⟩) := by
  refine congrArg Host.Outcome.next (directive_refused hs ((onLine_good hl ha).trans ?_) rfl)
  simp only [Option.bind_some, mask_none hn]

theorem answer_elsewhere {n : Nat} (hs : s.takes) (hl : lineOf? d.line = some i)
    (ha : (argNum 1).read d.args = .good n) (hm : mask? n = some m) (hst : (s.line i).state ≠ .alerting) :
    exec (.answer d) s = .next (s.reply ⟨0x2C, d.tag, .refusedState, []⟩) :=
  congrArg Host.Outcome.next (directive_refused hs ((runAnswer_mask hl ha hm).trans (if_pos hst)) rfl)

theorem answer_waits {n : Nat} {b : Ms} (hs : s.takes) (hl : lineOf? d.line = some i)
    (ha : (argNum 1).read d.args = .good n) (hm : mask? n = some m) (hst : (s.line i).state = .alerting)
    (hb : (s.line i).ring.burst = some b) :
    repliesWith (exec (.answer d) s) s ⟨0x2C, d.tag, .ok, []⟩ (fun t =>
      t = { s with lines := t.lines } ∧
      t.line i = { s.line i with
        override := (t.line i).override, answerWaiting := (t.line i).answerWaiting, call := (t.line i).call } ∧
      (t.line i).answerWaiting = true ∧ (t.line i).override = .answer m ∧ (t.line i).state = .alerting ∧
      othersSame i s t) := by
  have hrun := runAnswer_mask (s := s.inHand 0x2C d) hl ha hm
  rw [if_neg (by simp [hst]), if_pos (by simp [hb])] at hrun
  set u := ((s.inHand 0x2C d).ordered i m).modLine i (fun l => { l with answerWaiting := true }) with hu
  have hframe : u.without i = (s.inHand 0x2C d).without i :=
    (modLine_without _ i _).trans (modLine_without _ i _)
  refine directive_without hs hrun hframe rfl ⟨handDone_eq_of_without hs hframe, ?_, ?_, ?_, ?_,
    handDone_othersSame hframe⟩
  all_goals simp [hu, State.ordered, Line.takeOverride, Line.modCall, hst]

theorem answer_answers {n : Nat} (hs : s.takes) (hl : lineOf? d.line = some i)
    (ha : (argNum 1).read d.args = .good n) (hm : mask? n = some m) (hst : (s.line i).state = .alerting)
    (hb : (s.line i).ring.burst = none) (hc : (s.line i).call.isSome = true) :
    repliesWith (exec (.answer d) s) s ⟨0x2C, d.tag, .ok, []⟩ (fun t =>
      t = { s with lines := t.lines, areas := t.areas, store := t.store, dram := t.dram } ∧
      (t.line i).state ≠ .alerting ∧ ((s.line i).stage.isWriting = false → t.dram = s.dram) ∧
      (m = ⟨true, true, false⟩ → (t.line i).state = .classify ∧ (t.line i).relay = true ∧
        (t.line i).classifyTimer = some (s.now + (s.line i).profile.classifyMs))) := by
  have hrun := runAnswer_mask (s := s.inHand 0x2C d) hl ha hm
  rw [if_neg (by simp [hst]), if_neg (by simp [hb])] at hrun
  have hline : ((s.inHand 0x2C d).ordered i m).line i =
      (s.line i).takeOverride (.answer m) (fun c => { c with override := .answer }) := by simp [State.ordered]
  have hordered : ((s.inHand 0x2C d).ordered i m).around i = (s.inHand 0x2C d).around i :=
    modLine_around _ i (by exact fun _ => rfl)
  obtain ⟨haround, hstate, hdram⟩ := hostAnswer_answers ((s.inHand 0x2C d).ordered i m) i
  have hlistens : m = ⟨true, true, false⟩ → _ := fun heq =>
    hostAnswer_listens (s := (s.inHand 0x2C d).ordered i m) (i := i) (by rw [hline, heq]; rfl)
      (by rw [hline]; simpa [Line.takeOverride, Line.modCall] using hc)
  rw [hline] at hdram hlistens
  have hframe := haround.trans hordered
  generalize ((s.inHand 0x2C d).ordered i m).hostAnswer i = u at *
  exact directive_around hs hrun hframe rfl
    ⟨handDone_eq_of_outside hs (around_outside hframe), hstate, hdram, hlistens⟩

theorem runReject_eq (hl : lineOf? d.line = some i) (ha : d.args = []) : runReject d s =
    if (s.line i).state ≠ .alerting then s.refuse .refusedState
    else (s.modLine i (fun l =>
      { l.takeOverride .reject (fun c => c.override_ .reject) with answerWaiting := false })).answer .ok [] :=
  onLine_good hl (ha ▸ read_none)

theorem reject_elsewhere (hs : s.takes) (hl : lineOf? d.line = some i) (ha : d.args = [])
    (hst : (s.line i).state ≠ .alerting) :
    exec (.reject d) s = .next (s.reply ⟨0x2D, d.tag, .refusedState, []⟩) :=
  congrArg Host.Outcome.next (directive_refused hs ((runReject_eq hl ha).trans (if_pos hst)) rfl)

theorem reject_remembered (hs : s.takes) (hl : lineOf? d.line = some i) (ha : d.args = [])
    (hst : (s.line i).state = .alerting) : repliesWith (exec (.reject d) s) s ⟨0x2D, d.tag, .ok, []⟩ (fun t =>
      t = { s with lines := t.lines } ∧
      t.line i = { s.line i with
        override := (t.line i).override, call := (t.line i).call, answerWaiting := (t.line i).answerWaiting } ∧
      (t.line i).override = .reject ∧ (t.line i).answerWaiting = false ∧ (t.line i).state = .alerting ∧
      othersSame i s t ∧ ∀ c, (s.line i).routing = some c → ∃ c', (t.line i).routing = some c' ∧
        c'.action = .reject ∧ c'.rings = none ∧ c'.override = .reject) := by
  have hrun := runReject_eq (s := s.inHand 0x2D d) hl ha
  rw [if_neg (by simp [hst])] at hrun
  set u := (s.inHand 0x2D d).modLine i (fun l =>
    { l.takeOverride .reject (fun c => c.override_ .reject) with answerWaiting := false }) with hu
  have hframe : u.without i = (s.inHand 0x2D d).without i := modLine_without _ i _
  refine directive_without hs hrun hframe rfl ⟨handDone_eq_of_without hs hframe, ?_, ?_, ?_, ?_,
    handDone_othersSame hframe, fun c hc => ⟨c.override_ .reject, ?_, rfl, rfl, rfl⟩⟩
  case refine_5 =>
    obtain ⟨k, hk, hr⟩ := Option.bind_eq_some_iff.1 hc
    simp [hu, Line.takeOverride, Line.modCall, Line.routing, hk, hr]
  all_goals simp [hu, Line.takeOverride, Line.modCall, hst]

/-- Settles O16: ANSWER by `answer_waits` in a burst and by `answer_answers` outside one, REJECT by `reject_remembered`. -/
theorem answerAndReject : Obligations.AnswerAndReject := by
  unfold Obligations.AnswerAndReject
  exact ⟨fun s i d n m b => answer_waits, fun s i d n m => answer_answers, fun s i d => reject_remembered,
    fun s i d => reject_elsewhere, fun s i d n m => answer_elsewhere, fun s i d n => answer_illegal⟩

end Sys2Proof.Machine
end

section
/-! SUPPORT. The notice queue (R178) is no line operation's to change: each function on a line keeps it. -/

namespace Sys2Proof.Machine

variable (l : Line)

@[simp] theorem ite_queue (c : Prop) [Decidable c] (l l' : Line) :
    (if c then l else l').queue = if c then l.queue else l'.queue :=
  apply_ite Line.queue c l l'

@[simp] theorem modCall_queue (f : CallRecord → CallRecord) : (l.modCall f).queue = l.queue := rfl

@[simp] theorem freshRing_queue (now : Ms) : (l.freshRing now).queue = l.queue := by
  unfold Line.freshRing
  dsimp only
  split <;> rfl

@[simp] theorem resumeRing_queue (now : Ms) : (l.resumeRing now).queue = l.queue := by
  unfold Line.resumeRing
  split <;> rfl

@[simp] theorem leaveLoopJob_queue (old : LineState) (table : List ToneEntry) (now : Ms) :
    (Line.leaveLoopJob old table now l).queue = l.queue := freshRing_queue _ _

@[simp] theorem noCall_queue : l.noCall.queue = l.queue := rfl

@[simp] theorem modReceiver_queue (f : Fax → Fax) : (l.modReceiver f).queue = l.queue := by
  unfold Line.modReceiver
  split_ifs <;> rfl

@[simp] theorem sendDigit_queue (now : Ms) (d : Digit) : (l.sendDigit now d).queue = l.queue := rfl

@[simp] theorem ringChange_queue (now : Ms) (active : Bool) : (l.ringChange now active).queue = l.queue := by
  unfold Line.ringChange
  dsimp only
  split_ifs <;> (split <;> simp)

@[simp] theorem loopChange_queue (now : Ms) : (l.loopChange now).queue = l.queue := rfl
@[simp] theorem recordsFrom_queue (now : Ms) : (l.recordsFrom now).queue = l.queue := rfl
@[simp] theorem aim_queue (now : Ms) : (l.aim now).queue = l.queue := rfl

@[simp] theorem noteData_queue (now : Ms) (seq : Nat) : (l.noteData now seq).queue = l.queue := by
  unfold Line.noteData
  dsimp only
  split_ifs <;> simp

@[simp] theorem kick_queue (now : Ms) : (l.kick now).queue = l.queue := by
  unfold Line.kick
  split
  · rfl
  · split
    · rfl
    · dsimp only
      split <;> simp

@[simp] theorem renegotiate_queue (now : Ms) (target : Nat) (cause : RateCause) :
    (l.renegotiate now target cause).queue = l.queue := by
  simp [Line.renegotiate]

@[simp] theorem retrain_queue (now : Ms) (target : Nat) (kind : TryKind) :
    (l.retrain now target kind).queue = l.queue := by
  rfl

@[simp] theorem abandonRate_queue (now : Ms) : (l.abandonRate now).queue = l.queue := by
  unfold Line.abandonRate
  split <;> rfl

@[simp] theorem sendEnd_queue (now : Ms) : (l.sendEnd now).queue = l.queue := by simp [Line.sendEnd]

@[simp] theorem endDrain_queue (now : Ms) : (l.endDrain now).queue = l.queue := by
  unfold Line.endDrain
  dsimp only
  split_ifs <;> simp

@[simp] theorem enterOutcome_queue (now : Ms) (o : TryOutcome) : (l.enterOutcome now o).queue = l.queue := by
  unfold Line.enterOutcome
  dsimp only
  split_ifs <;> simp

theorem foldl_enterOutcome_queue {α : Type} (now : Ms) (f : α → TryOutcome) (es : List α) :
    (es.foldl (fun acc e => Line.enterOutcome now acc (f e)) l).queue = l.queue := by
  induction es generalizing l with
  | nil => rfl
  | cons e es ih => rw [List.foldl_cons, ih, enterOutcome_queue]

@[simp] theorem acknowledge_queue (now : Ms) (n : Nat) : (l.acknowledge now n).queue = l.queue := by
  unfold Line.acknowledge
  dsimp only
  split
  · rfl
  · rw [aim_queue, foldl_enterOutcome_queue]

@[simp] theorem makeAckDue_queue (now : Ms) : (l.makeAckDue now).queue = l.queue := by
  unfold Line.makeAckDue
  split <;> rfl

@[simp] theorem pausePeer_queue : (l.pausePeer).queue = l.queue := by
  unfold Line.pausePeer
  split <;> rfl

@[simp] theorem holdFrame_queue (q : Nat) (bs : List Byte) : (l.holdFrame q bs).queue = l.queue := by
  unfold Line.holdFrame
  dsimp only
  split_ifs <;> simp

@[simp] theorem trained_queue (now : Ms) (qt : Nat) : (l.trained now qt).queue = l.queue := rfl

@[simp] theorem modHalf_queue (r : FaxRole) (f : Fax → Fax) : (l.modHalf r f).queue = l.queue := by
  unfold Line.modHalf
  split
  · split_ifs <;> rfl
  · simp

@[simp] theorem halfToneOff_queue (r : FaxRole) : (l.halfToneOff r).queue = l.queue := by
  unfold Line.halfToneOff
  split <;> rfl

@[simp] theorem noEcho_queue : (l.noEcho).queue = l.queue := rfl

@[simp] theorem halfStageOff_queue (r : FaxRole) : (l.halfStageOff r).queue = l.queue := by
  unfold Line.halfStageOff
  split <;> rfl

@[simp] theorem bindFax_queue (ladder : List LadderStep) : (l.bindFax ladder).queue = l.queue := rfl

@[simp] theorem faxRecord_queue (r : MeasRecord) : (l.faxRecord r).queue = l.queue := by
  unfold Line.faxRecord
  split
  · rfl
  · split
    · exact modReceiver_queue _ _
    · rfl

@[simp] theorem startCoding_queue (r : Recording) : (l.startCoding r).queue = l.queue := rfl

@[simp] theorem openWindow_queue : (l.openWindow).queue = l.queue := by
  unfold Line.openWindow
  split <;> rfl

@[simp] theorem closeCycle_queue (now : Ms) (patterns : List (List (Ms × Ms))) :
    (l.closeCycle now patterns).queue = l.queue := by
  unfold Line.closeCycle
  split_ifs <;> rfl

@[simp] theorem countRingback_queue : (l.countRingback).queue = l.queue := rfl
@[simp] theorem noLoopback_queue : (l.noLoopback).queue = l.queue := rfl
@[simp] theorem resetEngines_queue : (l.resetEngines).queue = l.queue := rfl

@[simp] theorem realSignals_queue : (l.realSignals).queue = l.queue := by
  unfold Line.realSignals
  split <;> rfl

@[simp] theorem takeOverride_queue (o : HostOverride) (mark : RoutingCopy → RoutingCopy) :
    (l.takeOverride o mark).queue = l.queue := by
  rfl

@[simp] theorem sendNext_queue (now : Ms) : (l.sendNext now).queue = l.queue := by
  unfold Line.sendNext
  split <;> rfl

@[simp] theorem steadyRecord_queue (ladder : List LadderStep) (r : MeasRecord) :
    (l.steadyRecord ladder r).queue = l.queue := by
  unfold Line.steadyRecord Quality.updateRuns
  rfl

@[simp] theorem unscoredCheck_queue : (l.unscoredCheck).queue = l.queue := by simp [Line.unscoredCheck]

@[simp] theorem nextInterval_queue (now : Ms) : (l.nextInterval now).queue = l.queue := by
  unfold Line.nextInterval
  split <;> rfl

@[simp] theorem trainRecord_queue (now : Ms) (r : MeasRecord) : (l.trainRecord now r).queue = l.queue := by
  unfold Line.trainRecord
  split <;> rfl

@[simp] theorem sendRateOk_queue (p : Nat) : (l.sendRateOk p).queue = l.queue := rfl
@[simp] theorem peerRate_queue : (l.peerRate).queue = l.queue := rfl
@[simp] theorem dataCarrier_queue (now : Ms) (on : Bool) : (l.dataCarrier now on).queue = l.queue := rfl
@[simp] theorem resend_queue (e : SendEntry) : (l.resend e).queue = l.queue := rfl
@[simp] theorem resume_queue : (l.resume).queue = l.queue := rfl
@[simp] theorem farCloses_queue (now : Ms) : (l.farCloses now).queue = l.queue := by simp [Line.farCloses]
@[simp] theorem countCoded_queue (n : Nat) : (l.countCoded n).queue = l.queue := rfl
@[simp] theorem busyFrame_queue : (l.busyFrame).queue = l.queue := rfl
@[simp] theorem endFrame_queue (now : Ms) (p : Int) : (l.endFrame now p).queue = l.queue := rfl

end Sys2Proof.Machine
end

section
/-! SUPPORT. The invariant of the part (R60, R66, R175, R176, R178) with the replies made and not transmitted bounded by
a number of their own: what a directive's block keeps with room for its reply. The primitive updates keep it. -/

namespace Sys2Proof.Machine

/-- The invariant of the part, with at most `b` replies made and not transmitted. -/
def State.Within (b : Nat) (s : State) : Prop :=
  dramWf s.dram = true ∧ s.partQueue.fits ∧ (∀ i, (s.line i).queue.fits) ∧ (∀ k, (s.area k).fits) ∧
  s.decoder.input.length ≤ Config.inputListMax ∧ s.repliesOut ≤ b

theorem wf_iff_within {s : State} : s.Wf ↔ s.Within Config.replyListMax := Iff.rfl

variable {b : Nat} {s t : State} {i : LineId} {k : AreaId}

theorem State.Within.ite {c : Prop} [Decidable c] (hs : s.Within b) (ht : t.Within b) :
    (if c then s else t).Within b := by
  split
  · exact hs
  · exact ht

/-! ## Lines -/

theorem State.Within.setLine_of_fits {l : Line} (h : s.Within b) (hl : l.queue.fits) : (s.setLine i l).Within b := by
  obtain ⟨hdram, hpart, hqueue, hrest⟩ := h
  refine ⟨hdram, hpart, fun j => ?_, hrest⟩
  by_cases hj : j = i
  · subst hj
    rwa [line_setLine_same]
  · rw [line_setLine_ne _ _ _ _ hj]
    exact hqueue j

theorem State.Within.queue (h : s.Within b) (i : LineId) : (s.line i).queue.fits := by
  obtain ⟨-, -, hqueue, -⟩ := h
  exact hqueue i

theorem State.Within.setLine {l : Line} (h : s.Within b) (hl : l.queue = (s.line i).queue) :
    (s.setLine i l).Within b :=
  h.setLine_of_fits (hl ▸ h.queue i)

theorem State.Within.modLine {f : Line → Line} (h : s.Within b) (hf : ∀ l, (f l).queue = l.queue) :
    (s.modLine i f).Within b :=
  h.setLine (hf _)

theorem State.Within.notifyLine {n : Notice} (h : s.Within b) : (s.notifyLine i n).Within b :=
  h.setLine_of_fits (notify_fits (h.queue i))

theorem State.Within.notifyPart {n : Notice} (h : s.Within b) : (s.notifyPart n).Within b := by
  obtain ⟨hdram, hpart, hrest⟩ := h
  exact ⟨hdram, notifyPart_fits hpart, hrest⟩

theorem State.Within.mapLines {f : Line → Line} (h : s.Within b) (hf : ∀ l, l.queue.fits → (f l).queue.fits) :
    ({ s with lines := s.lines.map f } : State).Within b := by
  obtain ⟨hdram, hpart, hqueue, hrest⟩ := h
  refine ⟨hdram, hpart, fun j => ?_, hrest⟩
  have hline : ({ s with lines := s.lines.map f } : State).line j = f (s.line j) := by simp [State.line]
  rw [hline]
  exact hf _ (hqueue j)

/-! ## Areas -/

theorem State.Within.setArea {a : Area} (h : s.Within b) (ha : a.fits) : (s.setArea k a).Within b := by
  obtain ⟨hdram, hpart, hqueue, harea, hrest⟩ := h
  refine ⟨hdram, hpart, hqueue, fun c => ?_, hrest⟩
  by_cases hc : c = k
  · subst hc
    rwa [area_setArea_same]
  · rw [area_setArea_ne _ _ _ _ hc]
    exact harea c

theorem State.Within.area (h : s.Within b) (k : AreaId) : (s.area k).fits := by
  obtain ⟨-, -, -, harea, -⟩ := h
  exact harea k

theorem State.Within.modArea {f : Area → Area} (h : s.Within b) (hf : (s.area k).fits → (f (s.area k)).fits) :
    (s.modArea k f).Within b :=
  h.setArea (hf (h.area k))

/-- An area without bytes and marks is within every size. -/
theorem fits_of_empty {a : Area} (hf : a.fifo = []) (hm : a.marks = []) : a.fits := by
  simp [Area.fits, Area.occupancy, hf, hm]

theorem State.Within.setFlow {f : FlowState} (h : s.Within b) : (s.setFlow k f).Within b := by
  have hflow : (s.modArea k fun a => { a with flow := f }).Within b := h.modArea id
  unfold State.setFlow
  refine h.ite ?_
  dsimp only
  split
  · exact hflow.notifyLine
  · exact hflow

theorem State.Within.emptyArea (h : s.Within b) : (s.emptyArea k).Within b :=
  (h.modArea fun _ => fits_of_empty rfl rfl).setFlow

theorem State.Within.append {bs : List Byte} (h : s.Within b) : (s.append k bs).1.Within b := by
  unfold State.append
  dsimp only
  split
  · exact h
  · refine State.Within.setFlow (h.modArea fun ⟨hsize, hcount, hmarks⟩ => ⟨?_, hcount, fun m hm => ?_⟩)
    · simp only [Area.occupancy, Area.size, Area.room, List.length_append, List.length_map, List.length_take] at *
      omega
    · exact (hmarks m hm).trans (by simp [Area.occupancy])

theorem State.Within.remove {n : Nat} (h : s.Within b) : (s.remove k n).2.Within b := by
  unfold State.remove
  dsimp only
  split
  · exact h
  · refine State.Within.setFlow (h.modArea fun ⟨hsize, hcount, hmarks⟩ => ⟨?_, ?_, ?_⟩)
    · simp only [Area.occupancy, Area.size, List.length_drop] at *
      omega
    · rwa [List.length_map]
    · rintro m hm
      obtain ⟨q, hq, rfl⟩ := List.mem_map.1 hm
      simp only [Area.occupancy, List.length_drop]
      exact Nat.sub_le_sub_right (hmarks q hq) _

theorem State.Within.takeMark (h : s.Within b) : (s.takeMark k).Within b :=
  h.modArea fun ⟨hsize, hcount, hmarks⟩ =>
    ⟨hsize, (List.length_tail ▸ Nat.sub_le _ _).trans hcount, fun m hm => hmarks m (List.mem_of_mem_tail hm)⟩

theorem State.Within.addMark {v : PageMark} (h : s.Within b) (ht : s.addMark k v = some t) : t.Within b := by
  unfold State.addMark at ht
  split_ifs at ht with hroom
  obtain rfl := Option.some.inj ht
  refine h.modArea fun ⟨hsize, hcount, hmarks⟩ => ⟨hsize, ?_, fun m hm => ?_⟩
  · rw [List.length_append]
    exact hroom
  · rcases List.mem_append.1 hm with hm | hm
    · exact hmarks m hm
    · rw [List.mem_singleton.1 hm]
      exact le_rfl

theorem State.Within.dropHost {n : Nat} (h : s.Within b) : (s.dropHost i n).Within b := h.ite h.notifyLine
theorem State.Within.overrun {n : Nat} (h : s.Within b) : (s.overrun i n).Within b := h.ite h.notifyLine

theorem State.Within.emptyStage (h : s.Within b) : (s.emptyStage i).Within b := by
  unfold State.emptyStage
  split
  · exact h.emptyArea
  · exact h

theorem State.Within.setContent {p : Purpose} {c : ContentKind} (h : s.Within b) :
    (s.setContent i p k c).Within b := by
  unfold State.setContent
  refine h.ite ((h.modArea id).ite (State.Within.modArea (State.Within.emptyArea ?_) id))
  exact h.dropHost.ite h.overrun

theorem State.Within.useArea {c : ContentKind} {p : Purpose} (h : s.Within b) :
    (State.useArea c i s p).Within b := by
  unfold State.useArea
  split
  · exact h
  · exact State.Within.setContent (h.modArea id)

/-- What one step of a fold keeps, the fold keeps. -/
theorem State.Within.foldl {α : Type} {f : State → α → State} (hf : ∀ {s a}, s.Within b → (f s a).Within b)
    (as : List α) (h : s.Within b) : (as.foldl f s).Within b := by
  induction as generalizing s with
  | nil => exact h
  | cons a as ih => exact ih (hf h)

theorem State.Within.useAreas {ps : List Purpose} {c : ContentKind} (h : s.Within b) : (s.useAreas i ps c).Within b :=
  State.Within.foldl State.Within.useArea ps h

theorem State.Within.releaseAreas (h : s.Within b) : (s.releaseAreas i).Within b := by
  obtain ⟨hdram, hpart, hqueue, harea, hrest⟩ := h
  refine ⟨hdram, hpart, hqueue, fun k => ?_, hrest⟩
  have hk := harea k
  simp only [State.area, State.releaseAreas, Fin.getElem_fin, Vector.getElem_map] at hk ⊢
  split
  · exact hk
  · exact hk

theorem State.Within.resetArea (h : s.Within b) : (State.resetArea i s k).Within b := by
  unfold State.resetArea
  split
  · exact (h.emptyArea.modArea id).ite h
  · exact h

theorem State.Within.resetAreas (h : s.Within b) : (s.resetAreas i).Within b :=
  State.Within.foldl State.Within.resetArea _ h

end Sys2Proof.Machine
end

section
/-! SUPPORT. The store, the signal record and the end of a call keep the part within its bounds (R7, R18 to R20, R136,
R143 to R148, R162 to R168). -/

namespace Sys2Proof.Machine

variable {b id n keep : Nat} {s t : State} {i : LineId}

/-! ## The store (R143 to R148): a change of its record alone leaves every bound as it is -/

theorem State.Within.modEntry {f : Entry → Entry} (h : s.Within b) : (s.modEntry id f).Within b := h
theorem State.Within.request {r : BlockRequest} (h : s.Within b) : (s.request r).Within b := h
theorem State.Within.withdraw (h : s.Within b) : (s.withdraw i).Within b := h
theorem State.Within.markPlaying (h : s.Within b) : (s.markPlaying id i).Within b := h
theorem State.Within.markFaxing (h : s.Within b) : (s.markFaxing id i).Within b := h
theorem State.Within.clearPlaying (h : s.Within b) : (s.clearPlaying i).Within b := h
theorem State.Within.clearFaxing (h : s.Within b) : (s.clearFaxing i).Within b := h
theorem State.Within.addPage {p : PageRecord} (h : s.Within b) : (s.addPage id p).Within b := h

theorem State.Within.storeBytes {bs : List Byte} (h : s.Within b) : (s.storeBytes id bs).Within b := by
  obtain ⟨hdram, hrest⟩ := h
  refine ⟨dramWf_storeBytes id bs hdram, ?_⟩
  unfold State.storeBytes
  split <;> exact hrest

theorem State.Within.allocate (h : s.Within b) : (s.allocate id n).Within b := by
  unfold State.allocate
  split <;> exact h

theorem State.Within.openEntry {kind : MsgKind} {mailbox : Nat} {o : Option LineId} {cid : Option CidRecord}
    {bits : Option Nat} (h : s.Within b) (ho : s.openEntry kind mailbox o cid bits = .ok (id, t)) : t.Within b := by
  unfold State.openEntry at ho
  split_ifs at ho
  obtain ⟨-, rfl⟩ := Prod.mk.inj (Except.ok.inj ho)
  exact h

theorem State.Within.refuseBlock {k : RequestKind} (h : s.Within b) : (s.refuseBlock i k).Within b := by
  have hstage : ((s.modLine i fun l => { l with stage := l.stage.answered true }).emptyStage i).Within b :=
    (h.modLine (by simp)).emptyStage
  cases k
  · exact hstage.modLine (by simp)
  · exact hstage.modLine (by simp [truncatePage_queue])
  · exact hstage.modLine (by simp [truncatePage_queue])

theorem State.Within.serveRequest (h : s.Within b) : s.serveRequest.Within b := by
  unfold State.serveRequest
  split
  · exact h
  · have hrest (rest : List BlockRequest) : ({ s with store.requests := rest } : State).Within b := h
    dsimp only
    split
    · exact (hrest _).allocate.modLine (by simp)
    · exact (hrest _).allocate
    · exact (hrest _).refuseBlock
    · exact hrest _

theorem State.Within.serveMany : ∀ {n : Nat} {s : State}, s.Within b → (Machine.serveMany n s).Within b
  | 0, _, h => h
  | n + 1, _, h => State.Within.serveMany (n := n) h.serveRequest

theorem State.Within.serveAll (h : s.Within b) : s.serveAll.Within b := h.serveMany

theorem State.Within.unlinkTail (h : s.Within b) : (s.unlinkTail id keep).Within b := by
  unfold State.unlinkTail
  split <;> exact h

theorem State.Within.freeTail (h : s.Within b) : (s.freeTail id keep).Within b := h.serveAll.unlinkTail
theorem State.Within.trimEntry (h : s.Within b) : (s.trimEntry id n).Within b := h.modEntry.freeTail
theorem State.Within.deleteEntry (h : s.Within b) : (s.deleteEntry id).Within b := h.freeTail

theorem State.Within.finishEntry {why : EntryEnd} (h : s.Within b) : (s.finishEntry id why).Within b := by
  unfold State.finishEntry
  split
  · exact h
  · exact h.trimEntry.modEntry

theorem State.Within.closeEntry {why : EntryEnd} (h : s.Within b) : (s.closeEntry id why).Within b := by
  unfold State.closeEntry
  split
  · exact h
  · exact h.deleteEntry.ite h.finishEntry

theorem State.Within.stageWrite (h : s.Within b) : (s.stageWrite i).Within b := by
  unfold State.stageWrite
  split
  · refine h.ite (h.emptyArea.ite ?_)
    split
    · exact h
    · have hwritten (k : AreaId) (n id : Nat) : ((s.remove k n).2.storeBytes id (s.remove k n).1).Within b :=
        h.remove.storeBytes
      refine (hwritten _ _ _).ite (State.Within.ite ?_ ?_)
      · exact (hwritten _ _ _).emptyArea.modLine (by simp [truncatePage_queue])
      · exact (hwritten _ _ _).request.modLine (by simp)
  · exact h

theorem State.Within.drainStage : ∀ {n : Nat} {s : State}, s.Within b → (State.drainStage i n s).Within b
  | 0, _, h => h
  | _ + 1, _, h => State.Within.ite (State.Within.drainStage h.stageWrite.serveAll) h.stageWrite

theorem State.Within.stageFill (h : s.Within b) : (s.stageFill i).Within b := by
  unfold State.stageFill
  split
  · dsimp only
    split
    · exact h
    · exact h.append.modLine (by simp)
  · exact h

theorem State.Within.startWriting (h : s.Within b) : (s.startWriting i id).Within b := h.emptyStage.modLine (by simp)

theorem State.Within.startReading {pos len : Nat} (h : s.Within b) : (s.startReading i id pos len).Within b :=
  h.emptyStage.modLine (by simp)

theorem State.Within.leaveStage (h : s.Within b) : (s.leaveStage i).Within b := h.modLine (by simp)
theorem State.Within.stopStage (h : s.Within b) : (s.stopStage i).Within b := h.emptyStage.leaveStage

/-! ## Line state and signals -/

theorem State.Within.setSignals {ring loop carrier hook trail : Bool} (h : s.Within b) :
    (s.setSignals i ring loop carrier hook trail).Within b :=
  h.ite (h.modLine (by simp)).notifyLine

theorem State.Within.signalRing {v trail : Bool} (h : s.Within b) : (s.signalRing i v trail).Within b := h.setSignals
theorem State.Within.signalLoop {v : Bool} (h : s.Within b) : (s.signalLoop i v).Within b := h.setSignals
theorem State.Within.signalCarrier {v : Bool} (h : s.Within b) : (s.signalCarrier i v).Within b := h.setSignals

theorem State.Within.generate {c : ToneClass} {len : Ms} (h : s.Within b) : (s.generate i c len).Within b :=
  h.modLine (by simp)

theorem State.Within.generateEcho {c : ToneClass} {len : Ms} (h : s.Within b) : (s.generateEcho i c len).Within b :=
  h.modLine (by simp)

theorem State.Within.pass {st : LineState} (h : s.Within b) : (s.pass i st).Within b :=
  (h.setLine (linePass_queue _ _ _ _)).setSignals

theorem State.Within.openRelay (h : s.Within b) : (s.openRelay i).Within b := h.modLine (by simp)
theorem State.Within.closeRelay (h : s.Within b) : (s.closeRelay i).Within b := (h.modLine (by simp)).signalLoop

/-! ## Recordings, playbacks and received faxes at their end -/

theorem State.Within.completeStored {r : Recording} {why : RecEnd} (h : s.Within b) :
    (s.completeStored i r id why n).Within b := by
  have htrim (len held : Nat) : (if len < held then s.trimEntry id len else s).Within b := h.trimEntry.ite h
  exact (((htrim _ _).closeEntry.ite (htrim _ _).deleteEntry).modLine (by simp)).notifyLine

theorem State.Within.discardRecording {r : Recording} (h : s.Within b) : (s.discardRecording i r).Within b := by
  refine State.Within.notifyLine (State.Within.modLine ?_ (by simp))
  split
  · exact h.deleteEntry
  · exact h

theorem State.Within.completeHost {r : Recording} {why : RecEnd} (h : s.Within b) :
    (s.completeHost i r why).Within b :=
  (h.modLine (by simp)).notifyLine

theorem State.Within.completeRecording (h : s.Within b) : (s.completeRecording i).Within b := by
  unfold State.completeRecording
  split
  · exact h
  split
  · exact h
  split
  · exact h.drainStage.completeStored
  · exact h.completeHost

theorem State.Within.endRecording {why : RecEnd} {next : AfterRec} (h : s.Within b) :
    (s.endRecording i why n next).Within b :=
  h.modLine (by simp)

theorem State.Within.endPlayback {why : PlayEnd} (h : s.Within b) : (s.endPlayback i why).Within b := by
  unfold State.endPlayback
  split
  · exact h
  · exact ((h.clearPlaying.stopStage.ite h).modLine (by simp)).notifyLine

theorem State.Within.leaveGreeting (h : s.Within b) : (s.leaveGreeting i).Within b :=
  (h.clearPlaying.leaveStage.ite h).modLine (by simp)

theorem State.Within.stopGreeting (h : s.Within b) : (s.stopGreeting i).Within b := (h.emptyStage.ite h).leaveGreeting

theorem State.Within.stopVoice {rec : RecEnd} {pl : PlayEnd} (h : s.Within b) : (s.stopVoice i rec pl).Within b := by
  unfold State.stopVoice
  split
  · exact h
  · exact h.leaveGreeting
  · exact h.leaveGreeting
  · exact h.endPlayback
  · split
    · exact h
    · exact h.endRecording.completeRecording

theorem State.Within.closeFaxEntry {why : EndReason} (h : s.Within b) : (s.closeFaxEntry i why).Within b := by
  unfold State.closeFaxEntry
  split
  · exact h
  · have hpaged {u : State} (hu : u.Within b) (c : Prop) [Decidable c] (id : Nat) (p : PageRecord) :
        (if c then u.addPage id p else u).Within b := hu.addPage.ite hu
    have hdrained : (s.drainStage i drainFuel).serveAll.Within b := h.drainStage.serveAll
    exact (hpaged hdrained _ _ _).deleteEntry.ite (hpaged hdrained _ _ _).finishEntry

/-! ## The end of a call (R17 to R19) -/

theorem State.Within.stopEngine {why : EndReason} (h : s.Within b) : (s.stopEngine i why).Within b :=
  ((h.ite (h.closeFaxEntry.ite h.stopVoice)).withdraw.modLine (by simp [writeFaxPages_queue])).signalCarrier

theorem State.Within.reportEnd (h : s.Within b) : (s.reportEnd i).Within b := by
  unfold State.reportEnd
  split
  · exact h.notifyLine
  · exact h

theorem State.Within.callEnd {why : EndReason} (h : s.Within b) : (s.callEnd i why).Within b :=
  (h.modLine (by simp)).stopEngine.clearFaxing.clearPlaying.releaseAreas.reportEnd.modLine (by simp)

theorem State.Within.enterRelease (h : s.Within b) : (s.enterRelease i).Within b := h.pass.modLine (by simp)

theorem State.Within.release {why : EndReason} (h : s.Within b) : (s.release i why).Within b :=
  (h.callEnd.modLine (by simp)).ite h.callEnd.enterRelease

end Sys2Proof.Machine
end

section
/-! SUPPORT. The data calls and the fax calls keep the part within its bounds (R81 to R138). -/

namespace Sys2Proof.Machine

variable {b : Nat} {s t : State} {i : LineId} {k : AreaId}

/-! ## Data calls (R81 to R116) -/

theorem State.Within.checkDrain (h : s.Within b) : (s.checkDrain i).Within b := (h.modLine (by simp)).ite h
theorem State.Within.pump (h : s.Within b) : (s.pump i).Within b := h.checkDrain.modLine (by simp)

theorem State.Within.afterRaise {raised : List Nat} {l : Line} (h : s.Within b) (hl : l.queue = (s.line i).queue) :
    (s.afterRaise i raised l).Within b :=
  (h.setLine hl).release.ite (h.setLine ((kick_queue l _).trans hl))

theorem State.Within.appendRx {bs : List Byte} (h : s.Within b) : (s.appendRx i bs).Within b := by
  unfold State.appendRx
  split
  · exact h.append
  · exact h

theorem State.Within.deliver {payload : List Byte} (h : s.Within b) : (s.deliver i payload).Within b :=
  h.appendRx.modLine (by simp)

theorem State.Within.deliverHeld : ∀ {n : Nat} {s : State}, s.Within b → (Machine.deliverHeld i n s).Within b
  | 0, _, h => h
  | n + 1, s, h => by
    rw [Machine.deliverHeld]
    split
    · exact h
    · have htaken (rest : List (Nat × List Byte)) : (s.modLine i fun l => { l with link.hold := rest }).Within b :=
        h.modLine (by simp)
      exact h.ite ((State.Within.deliverHeld (n := n) (htaken _).deliver).ite ((htaken _).modLine (by simp)))

theorem State.Within.receiveData {q : Nat} {bs : List Byte} (h : s.Within b) : (s.receiveData i q bs).Within b :=
  (h.deliver.deliverHeld.ite (h.modLine (by simp))).ite ((h.modLine (by simp)).ite (h.modLine (by simp)))

theorem State.Within.checkResume (h : s.Within b) : (s.checkResume i).Within b := by
  unfold State.checkResume
  split
  · exact h
  · exact (h.modLine (by simp)).ite h

theorem State.Within.formFrame (h : s.Within b) : (s.formFrame i).Within b := by
  unfold State.formFrame
  split
  · exact h
  · exact (h.remove.modLine (by simp)).pump

theorem State.Within.startData {role : LinkRole} (h : s.Within b) : (s.startData i role).Within b := by
  unfold State.startData
  refine (h.modLine (by simp)).release.ite ?_
  cases role
  · exact (h.modLine (by simp)).modLine (by simp)
  · exact ((h.modLine (by simp)).modLine (by simp)).generate

theorem State.Within.completeExchange {peer : Capability} (h : s.Within b) : (s.completeExchange i peer).Within b := by
  unfold State.completeExchange
  dsimp only
  split
  · exact (h.modLine (by simp)).release
  · exact (h.modLine (by simp)).release.ite ((h.modLine (by simp)).modLine (by simp))

theorem State.Within.tryFailed (h : s.Within b) : (s.tryFailed i).Within b :=
  (h.modLine (by simp)).ite ((h.modLine (by simp)).ite h.release)

theorem State.Within.trySucceeded {qt : Nat} (h : s.Within b) : (s.trySucceeded i qt).Within b :=
  ((h.modLine (by simp)).notifyLine.modLine (by simp)).ite (h.modLine (by simp)).notifyLine.pump

theorem State.Within.hangUpData {drain : Bool} (h : s.Within b) : (s.hangUpData i drain).Within b := by
  have hlinked : (s.modLine i (Line.abandonRate s.now)).Within b := h.modLine (by simp)
  unfold State.hangUpData
  refine h.ite ?_
  split
  · exact h
  · exact h.release.ite ((hlinked.modLine (by simp)).ite (hlinked.modLine (by simp)).pump)
  · exact h.release.ite ((hlinked.modLine (by simp)).ite (hlinked.modLine (by simp)).pump)
  · exact h.release

/-! ## Fax calls (R117 to R138) -/

theorem State.Within.modFax {r : FaxRole} {f : Fax → Fax} (h : s.Within b) : (s.modFax i r f).Within b :=
  h.modLine (by simp)

theorem State.Within.endFax {r : FaxRole} {why : EndReason} (h : s.Within b) : (s.endFax i r why).Within b := by
  unfold State.endFax
  split
  · exact h
  · exact h.ite ((h.modFax.modLine (by simp)).ite ((h.modLine (by simp)).ite h.release))

theorem State.Within.hangUpFax (h : s.Within b) : (s.hangUpFax i).Within b := by
  unfold State.hangUpFax
  split
  · exact h.endFax
  · exact h.release

theorem State.Within.startFaxReceiver (h : s.Within b) : (s.startFaxReceiver i).Within b :=
  (h.modLine (by simp)).release.ite ((h.modLine (by simp)).modLine (by simp)).generate

theorem State.Within.startFaxEcho (h : s.Within b) : (s.startFaxEcho i).Within b := (h.modLine (by simp)).generateEcho

theorem State.Within.startFaxSender (h : s.Within b) : (s.startFaxSender i).Within b := by
  unfold State.startFaxSender
  have hsends : ((s.modLine i (Line.bindFax s.faxLadder)).modLine i fun l => { l with
      fax := { phase := .establish, role := some .sender, source := l.faxSource, toneEnd := s.start 15000 }
      faxEcho := {} }).Within b := (h.modLine (by simp)).modLine (by simp)
  exact (h.modLine (by simp)).release.ite (hsends.generate.startFaxEcho.ite hsends.generate)

theorem State.Within.beginStorePage (h : s.Within b) : (s.beginStorePage i).Within b := by
  unfold State.beginStorePage
  dsimp only
  split
  · exact h.modFax
  · exact h.modFax.startReading

theorem State.Within.nextPage (h : s.Within b) : (s.nextPage i).Within b := by
  unfold State.nextPage
  dsimp only
  split
  · exact h.modFax.beginStorePage
  · exact h.modFax.ite h.modFax.modFax

theorem State.Within.pageEnds {m : PageMark} (h : s.Within b) : (s.pageEnds i m).Within b := h.modFax
theorem State.Within.faxTxArrives (h : s.Within b) : (s.faxTxArrives i).Within b := h.modFax.ite h
theorem State.Within.retrainFax {q : Nat} (h : s.Within b) : (s.retrainFax i q).Within b := h.modFax

theorem State.Within.openFaxEntry (h : s.Within b) : (s.openFaxEntry i).Within b := by
  unfold State.openFaxEntry
  refine h.ite ?_
  split
  · exact h.modLine (by simp)
  next hopen => exact (h.openEntry hopen).modLine (by simp)

theorem State.Within.beginStoredPage (h : s.Within b) : (s.beginStoredPage i).Within b := by
  unfold State.beginStoredPage
  dsimp only
  split
  · exact h.openFaxEntry.modLine (by simp)
  · exact (h.openFaxEntry.modLine (by simp)).ite (h.openFaxEntry.modLine (by simp)).startWriting

theorem State.Within.beginReceived (h : s.Within b) : (s.beginReceived i).Within b :=
  (h.modFax.modLine (by simp)).beginStoredPage.ite (h.modFax.modLine (by simp))

theorem State.Within.ensurePage (h : s.Within b) : (s.ensurePage i).Within b := by
  unfold State.ensurePage
  split
  · exact h.ite h.beginReceived
  · exact h

theorem State.Within.putPage {bs : List Byte} (h : s.Within b) : (s.putPage i bs).1.Within b := by
  unfold State.putPage
  dsimp only
  split_ifs
  · exact h
  · split
    · exact h.append
    · exact h
  · exact h
  · split
    · exact h.append
    · exact h
  · exact h

theorem State.Within.receivePage {bs : List Byte} (h : s.Within b) : (s.receivePage i bs).Within b :=
  h.putPage.modFax.overrun

theorem State.Within.deliverFrame {payload : List Byte} (h : s.Within b) : (State.deliverFrame i s payload).Within b :=
  h.receivePage.stageWrite.ite h.receivePage

theorem State.Within.deliverBlock {count : Nat} (h : s.Within b) : (s.deliverBlock i count).Within b := by
  unfold State.deliverBlock
  split
  · exact h
  · have hframes (frames : List (List Byte)) : (frames.foldl (State.deliverFrame i)
        (if (s.line i).faxToStore then s.serveAll else s)).Within b :=
      State.Within.foldl State.Within.deliverFrame frames (h.serveAll.ite h)
    dsimp only
    split
    · exact (hframes _).modFax.freeTail.ite (hframes _).modFax
    · exact (hframes _).modFax

theorem State.Within.beginBlock {number : Nat} (h : s.Within b) : (s.beginBlock i number).Within b := by
  unfold State.beginBlock
  dsimp only
  split
  · exact h.modFax.request.ite h.modFax
  · exact h.modFax

theorem State.Within.recordPage {v : Verdict} (h : s.Within b) : (s.recordPage i v).Within b := by
  unfold State.recordPage
  dsimp only
  split
  · exact h.addPage.ite h
  · exact h

theorem State.Within.markPage {m : PageMark} (h : s.Within b) : (s.markPage i m).Within b := by
  unfold State.markPage
  refine State.Within.ite ((h.modLine (by simp)).ite ?_) h
  split
  next hmark =>
    obtain ⟨k, -, hk⟩ := Option.bind_eq_some_iff.1 hmark
    exact h.addMark hk
  · exact h.modLine (by simp)

theorem State.Within.addHeldMark (h : s.Within b) : (s.addHeldMark i).Within b := by
  unfold State.addHeldMark
  split
  · split
    next hmark => exact (h.addMark hmark).modLine (by simp)
    · exact h
  · exact h

theorem State.Within.reportPage {v : Verdict} (h : s.Within b) : (s.reportPage i v).Within b := by
  unfold State.reportPage
  split
  · exact h
  · exact h.modFax.ite h.modFax.notifyLine

theorem State.Within.closeReceived {last : Bool} (h : s.Within b) : (s.closeReceived i last).Within b := by
  have hpage (c : Prop) [Decidable c] (f : Fax → Fax) :
      (if c then ((s.ensurePage i).modFax i .receiver f).drainStage i drainFuel
        else (s.ensurePage i).modFax i .receiver f).Within b :=
    h.ensurePage.modFax.drainStage.ite h.ensurePage.modFax
  unfold State.closeReceived
  dsimp only
  split
  · exact hpage _ _
  · exact (hpage _ _).recordPage.reportPage.markPage.modFax

theorem State.Within.faxConnected {r : FaxRole} {f : Fax} (h : s.Within b) : (s.faxConnected i r f).Within b :=
  h.notifyLine

theorem State.Within.trainGood {f : Fax} {qt : Nat} (h : s.Within b) : (s.trainGood i f qt).Within b :=
  (h.modLine (by simp)).ite (h.modLine (by simp)).faxConnected

theorem State.Within.trainBad (h : s.Within b) : (s.trainBad i).Within b := h.modFax

theorem State.Within.takeOffer {rate : Nat} {resolutions : List Resolution} {bc : Bool} (h : s.Within b) :
    (s.takeOffer i rate resolutions bc).Within b := by
  unfold State.takeOffer
  dsimp only
  split
  · exact h.endFax
  · exact h.endFax.ite (h.modLine (by simp)).modFax

theorem State.Within.senderTrained {f : Fax} (h : s.Within b) : (s.senderTrained i f).Within b :=
  (h.modLine (by simp)).ite (h.modLine (by simp)).faxConnected

theorem State.Within.afterTraining {a : AfterTrain} (h : s.Within b) : (s.afterTraining i a).Within b := by
  cases a
  · exact h.nextPage
  · exact h.modFax

theorem State.Within.retryTraining {f : Fax} (h : s.Within b) : (s.retryTraining i f).Within b :=
  h.modFax.ite (h.modFax.ite h.modFax.endFax)

theorem State.Within.startFill (h : s.Within b) : (s.startFill i).Within b := h.modFax.ite h

theorem State.Within.reachedEnd {f : Fax} {m : PageMark} (h : s.Within b) (he : s.reachedEnd i f k = some (m, t)) :
    t.Within b := by
  unfold State.reachedEnd at he
  split at he
  · split_ifs at he
    obtain ⟨-, rfl⟩ := Prod.mk.inj (Option.some.inj he)
    exact h.stopStage
  · obtain ⟨_, -, hm⟩ := Option.map_eq_some_iff.1 he
    obtain ⟨-, rfl⟩ := Prod.mk.inj hm
    exact h.takeMark

theorem State.Within.noteVerdict {f : Fax} {v : Verdict} {stop : Bool} {q : Nat} (h : s.Within b) :
    (s.noteVerdict i f v stop q).Within b :=
  (h.modLine (by simp)).notifyLine.modFax

theorem State.Within.actOnVerdict {v : Verdict} {stop : Bool} {q : Nat} (h : s.Within b) :
    (s.actOnVerdict i v stop q).Within b :=
  h.endFax.ite (h.endFax.ite (h.modFax.nextPage.ite h.modFax.retrainFax))

theorem State.Within.ensureBlock {number : Option Nat} (h : s.Within b) : (s.ensureBlock i number).Within b := by
  unfold State.ensureBlock
  dsimp only
  split
  · exact h.ensurePage.modFax.ite h.ensurePage.modFax.beginBlock
  · exact h.ensurePage.modFax

theorem State.Within.answerBlock {number count : Nat} (h : s.Within b) : (s.answerBlock i number count).Within b := by
  unfold State.answerBlock
  dsimp only
  split
  · exact h.modFax
  · exact h.modFax.modFax.deliverBlock.ite h.modFax.modFax

theorem State.Within.roundLimit {f : Fax} {missing : List Nat} (h : s.Within b) : (s.roundLimit i f missing).Within b :=
  h.endFax.ite h.modFax

theorem State.Within.actOnMap {f : Fax} {missing : List Nat} (h : s.Within b) : (s.actOnMap i f missing).Within b :=
  h.modFax.startFill.ite (h.roundLimit.ite (h.modFax.ite h.modFax))

theorem State.Within.cutOffPage {f : Fax} (h : s.Within b) : (s.cutOffPage i f).Within b := h.reportPage.ite h

theorem State.Within.releaseFax {r : FaxRole} {why : EndReason} (h : s.Within b) : (s.releaseFax i r why).Within b :=
  (h.modLine (by simp)).ite h.release

theorem State.Within.faxCarrierOn (h : s.Within b) : (s.faxCarrierOn i).Within b := by
  unfold State.faxCarrierOn
  split
  · exact h
  · exact h.modFax.beginReceived.ite h.modFax

theorem State.Within.faxCarrierOff (h : s.Within b) : (s.faxCarrierOff i).Within b := h.modFax

end Sys2Proof.Machine
end

section
/-! SUPPORT. Voice calls, routing, ringing, dialling and tones keep the part within its bounds (R9 to R59, R156 to
R170). -/

namespace Sys2Proof.Machine

variable {b : Nat} {s t : State} {i : LineId}

/-! ## Voice calls (R156 to R170) -/

theorem State.Within.handOver (h : s.Within b) : (s.handOver i).Within b := (h.modLine (by simp)).notifyLine
theorem State.Within.afterAuto (h : s.Within b) : (s.afterAuto i).Within b := h.handOver.ite h.release
theorem State.Within.afterStop (h : s.Within b) : (s.afterStop i).Within b := h.handOver.ite h.release

theorem State.Within.switchToFax (h : s.Within b) : (s.switchToFax i).Within b :=
  (h.stopStage.modLine (by simp)).useAreas.pass.startFaxReceiver.ite (h.stopStage.modLine (by simp)).release

theorem State.Within.afterRecording {next : AfterRec} (h : s.Within b) : (s.afterRecording i next).Within b := by
  cases next
  · exact h.afterAuto
  · exact h.switchToFax
  · exact h.afterStop
  · exact h

theorem State.Within.finishRecording {why : RecEnd} {n : Nat} {next : AfterRec} (h : s.Within b) :
    (s.finishRecording i why n next).Within b := by
  unfold State.finishRecording
  split
  · exact h
  · exact h.ite (h.endRecording.ite h.endRecording.completeRecording.afterRecording)

theorem State.Within.beginStored {kind : MsgKind} {mailbox : Nat} {watch : Bool} (h : s.Within b) :
    (s.beginStored i kind mailbox watch).Within b := by
  unfold State.beginStored
  dsimp only
  split
  · exact (h.emptyStage.modLine (by simp)).notifyLine.afterRecording
  next hopen => exact (h.emptyStage.openEntry hopen).startWriting.modLine (by simp)

theorem State.Within.beginHosted (h : s.Within b) : (s.beginHosted i).Within b := h.modLine (by simp)
theorem State.Within.beginAutoRecording (h : s.Within b) : (s.beginAutoRecording i).Within b := h.beginStored

theorem State.Within.startRecordTone (h : s.Within b) : (s.startRecordTone i).Within b :=
  h.beginAutoRecording.ite (h.modLine (by simp)).generate

theorem State.Within.startGreeting (h : s.Within b) : (s.startGreeting i).1.Within b := by
  unfold State.startGreeting
  dsimp only
  split
  · exact h.modLine (by simp)
  · exact (h.modLine (by simp)).markPlaying.startReading.modLine (by simp)

theorem State.Within.startGreeting_eq {played : Bool} (h : s.Within b) (ht : s.startGreeting i = (t, played)) :
    t.Within b := by
  have := h.startGreeting (i := i)
  rwa [ht] at this

theorem State.Within.openingTone {c : ToneClass} (h : s.Within b) : (s.openingTone i c).Within b :=
  h.stopGreeting.switchToFax.ite (h.stopGreeting.notifyLine.afterAuto.ite h)

theorem State.Within.recordingTone {r : Recording} {c : ToneClass} {first : Nat} (h : s.Within b) :
    (s.recordingTone i r c first).Within b :=
  h.ite (h.finishRecording.ite
    (((h.discardRecording.switchToFax.ite h.finishRecording).ite h.finishRecording).ite h))

theorem State.Within.voiceTone {c : ToneClass} {first : Nat} (h : s.Within b) : (s.voiceTone i c first).Within b := by
  unfold State.voiceTone
  refine h.ite (h.openingTone.ite ?_)
  split
  · exact h.recordingTone
  · exact h

theorem State.Within.bargeIn (h : s.Within b) : (s.bargeIn i).Within b :=
  (h.stopGreeting.modLine (by simp)).notifyLine.handOver.ite (h.stopGreeting.modLine (by simp)).notifyLine

theorem State.Within.voiceDigit {d : Digit} (h : s.Within b) : (s.voiceDigit i d).Within b := by
  unfold State.voiceDigit
  refine h.ite ?_
  split
  · exact h.bargeIn.ite h
  · exact h.bargeIn.ite h
  · exact h.finishRecording.ite h
  · exact h.endPlayback
  · exact h

theorem State.Within.playEntry {e : Entry} {pos : Nat} (h : s.Within b) : (s.playEntry i e pos).Within b :=
  h.markPlaying.startReading.modLine (by simp)

theorem State.Within.playFrom : ∀ {ids : List Nat} {pos : Nat} {s : State}, s.Within b →
    (State.playFrom i ids pos s).Within b
  | [], _, _, h => h.endPlayback
  | id :: ids, _, _, h => by
    rw [State.playFrom]
    split
    · exact h.playEntry
    · exact State.Within.playFrom (ids := ids) (h.modLine (by simp))

theorem State.Within.entryPlayed (h : s.Within b) : (s.entryPlayed i).Within b := by
  unfold State.entryPlayed
  split
  · exact h
  split
  · exact h
  · exact (h.clearPlaying.modEntry.modLine (by simp)).playFrom

theorem State.Within.recordFrame {silent : Bool} (h : s.Within b) : (s.recordFrame i silent).Within b := by
  unfold State.recordFrame
  split
  · exact h
  · exact h.ite ((h.modLine (by simp)).finishRecording.ite (h.modLine (by simp)))

theorem State.Within.startHostVoice (h : s.Within b) : (s.startHostVoice i).Within b := (h.modLine (by simp)).notifyLine

theorem State.Within.startPlaying {target : VoiceTarget} {ids : List Nat} (h : s.Within b) :
    (s.startPlaying i target ids).Within b :=
  h.modLine (by simp)

theorem State.Within.voiceStop (h : s.Within b) : (s.voiceStop i).Within b := by
  unfold State.voiceStop
  dsimp only
  split
  · exact h.finishRecording
  · exact h.endPlayback
  · exact h.release
  · exact h.finishRecording
  · exact h.stopGreeting.afterStop
  · exact h.stopGreeting.afterStop
  · exact h

/-! ## Caller identity, routing and classification (R38 to R59) -/

theorem State.Within.clockFromCid {d : CidDate} (h : s.Within b) : (s.clockFromCid d).Within b := h

theorem State.Within.closeWindowOn {r : CidRecord} (h : s.Within b) : (s.closeWindowOn i r).Within b := by
  have hreport (c : Prop) [Decidable c] (f : Line → Line) (n : Notice) (hf : ∀ l, (f l).queue = l.queue) :
      (if c then s.modLine i f else (s.modLine i f).notifyLine i n).Within b :=
    (h.modLine hf).ite (h.modLine hf).notifyLine
  unfold State.closeWindowOn
  refine h.ite ?_
  dsimp only
  split
  · exact State.Within.ite (State.Within.clockFromCid (hreport _ _ _ (by simp))) (hreport _ _ _ (by simp))
  · exact hreport _ _ _ (by simp)

theorem State.Within.closeWindow (h : s.Within b) : (s.closeWindow i).Within b := h.closeWindowOn

theorem State.Within.enterJob {j : Job} (h : s.Within b) : (s.enterJob i j).Within b := by
  have hstops : (((s.stopGreeting i).emptyStage i).modLine i fun l => { l with voice := {} }).Within b :=
    h.stopGreeting.emptyStage.modLine (by simp)
  unfold State.enterJob
  dsimp only
  split
  · exact h
  · exact h.useAreas.pass.handOver.ite (h.useAreas.pass.startRecordTone.ite h.useAreas.pass)
  · exact hstops.useAreas.pass.startData
  · exact hstops.useAreas.pass.startFaxReceiver

theorem State.Within.classResult {j : Job} {c : Basis} (h : s.Within b) : (s.classResult i j c).Within b :=
  (h.modLine (by simp)).notifyLine.enterJob.ite (h.modLine (by simp)).notifyLine.release

theorem State.Within.finding {j : Job} {c : Basis} (h : s.Within b) : (s.finding i j c).Within b := h.classResult.ite h

theorem State.Within.greetingOver (h : s.Within b) : (s.greetingOver i).Within b :=
  h.stopGreeting.finding.ite h.stopGreeting.startRecordTone

theorem State.Within.enterClassify (h : s.Within b) : (s.enterClassify i).Within b := by
  unfold State.enterClassify
  dsimp only
  split
  · exact h.pass
  · have hlistens : ((s.pass i .classify).modLine i fun l =>
        { l with classifyTimer := s.start l.profile.classifyMs }).Within b := h.pass.modLine (by simp)
    refine (h.pass.modLine (by simp)).ite (State.Within.ite ?_ (hlistens.ite hlistens.classResult))
    split
    next hgreets => exact hlistens.startGreeting_eq hgreets
    next hgreets => exact (hlistens.startGreeting_eq hgreets).finding

theorem State.Within.tryAnswer (h : s.Within b) : (s.tryAnswer i).Within b := by
  unfold State.tryAnswer
  dsimp only
  split
  · exact h.enterClassify.ite h
  · exact h

theorem State.Within.makeCopy (h : s.Within b) : (s.makeCopy i).Within b := (h.modLine (by simp)).notifyLine
theorem State.Within.decide? (h : s.Within b) : (s.decide? i).Within b := h.makeCopy.tryAnswer.ite h

theorem State.Within.hostAnswer (h : s.Within b) : (s.hostAnswer i).Within b := by
  unfold State.hostAnswer
  dsimp only
  split
  · exact ((h.modLine (by simp)).closeWindow.modLine (by simp)).enterClassify
  · exact (h.modLine (by simp)).closeWindow.makeCopy.enterClassify

theorem State.Within.cidSignal {heard : List HeardTone} (h : s.Within b) : (s.cidSignal i heard).Within b :=
  ((h.modLine (by simp)).closeWindowOn.decide?.ite (h.modLine (by simp))).ite h

/-! ## Ringing (R9 to R13) -/

theorem State.Within.enterAlerting (h : s.Within b) : (s.enterAlerting i).Within b :=
  (h.pass.modLine (by simp)).notifyLine

theorem State.Within.enterIdle (h : s.Within b) : (s.enterIdle i).Within b :=
  h.pass.enterAlerting.ite (h.pass.modLine (by simp))

theorem State.Within.nextCycle (h : s.Within b) : (s.nextCycle i).Within b := by
  unfold State.nextCycle
  refine State.Within.ite (State.Within.decide? (State.Within.closeWindow ?_)) ?_
  all_goals
    dsimp only
    split
    · exact (h.modLine (by simp)).notifyLine
    · exact h.modLine (by simp)

theorem State.Within.loopCycle (h : s.Within b) : (s.loopCycle i).Within b := (h.modLine (by simp)).notifyLine

theorem State.Within.burstBegins {t : Ms} (h : s.Within b) : (s.burstBegins i t).Within b := by
  unfold State.burstBegins
  dsimp only
  split
  · exact (h.modLine (by simp)).signalRing.enterAlerting
  · exact (h.modLine (by simp)).signalRing.ite (h.modLine (by simp)).signalRing.nextCycle
  · exact (h.modLine (by simp)).signalRing.ite (h.modLine (by simp)).signalRing.loopCycle
  · exact (h.modLine (by simp)).signalRing

theorem State.Within.burstEnds {t u : Ms} (h : s.Within b) : (s.burstEnds i t u).Within b :=
  (h.modLine (by simp)).signalRing.hostAnswer.ite (h.modLine (by simp)).signalRing

theorem State.Within.windowAtClose (h : s.Within b) : (s.windowAtClose i).Within b := by
  unfold State.windowAtClose
  split
  · exact h.modLine (by simp)
  · exact h.closeWindow
  · exact h

theorem State.Within.alertingClose {first : Bool} (h : s.Within b) : (s.alertingClose i first).Within b :=
  (h.windowAtClose.ite h).tryAnswer.ite (h.windowAtClose.ite h).decide?

/-! ## Dialling and tones (R14 to R37) -/

theorem State.Within.enterProgress (h : s.Within b) : (s.enterProgress i).Within b := h.pass.modLine (by simp)

theorem State.Within.dialDigit {d : Digit} (h : s.Within b) : (s.dialDigit i d).Within b := by
  unfold State.dialDigit
  dsimp only
  split
  · exact h.openRelay.modLine (by simp)
  · exact h.modLine (by simp)

theorem State.Within.startElement (h : s.Within b) : (s.startElement i).Within b := by
  unfold State.startElement
  dsimp only
  split
  · exact h.enterProgress
  · exact h.dialDigit
  · exact h.modLine (by simp)
  · exact h.modLine (by simp)
  · exact h.openRelay.modLine (by simp)

theorem State.Within.endElement (h : s.Within b) : (s.endElement i).Within b := (h.modLine (by simp)).startElement
theorem State.Within.beginDialling (h : s.Within b) : (s.beginDialling i).Within b :=
  (h.pass.modLine (by simp)).startElement
theorem State.Within.seize (h : s.Within b) : (s.seize i).Within b := h.pass.modLine (by simp)

theorem State.Within.answered (h : s.Within b) : (s.answered i).Within b := by
  unfold State.answered
  dsimp only
  split
  · exact (h.modLine (by simp)).pass.startData
  · exact (h.modLine (by simp)).pass.startFaxSender
  · exact (h.modLine (by simp)).pass.startHostVoice
  · exact h.modLine (by simp)

theorem State.Within.progressTone {c : ToneClass} (h : s.Within b) : (s.progressTone i c).Within b :=
  h.release.ite ((h.modLine (by simp)).ite (h.answered.ite h))

theorem State.Within.lineTone {c : ToneClass} (h : s.Within b) : (s.lineTone i c).Within b := by
  unfold State.lineTone
  split
  · exact h.beginDialling.ite (h.release.ite h)
  · exact h.endElement.ite h
  · exact h.progressTone
  · exact h.finding.ite (h.finding.ite h)
  · exact h

theorem State.Within.confirmed {c : ToneClass} {first : Nat} (h : s.Within b) : (s.confirmed i c first).Within b :=
  h.lineTone.voiceTone

theorem State.Within.ringbackStops (h : s.Within b) : (s.ringbackStops i).Within b := h.modLine (by simp)

theorem State.Within.applyMatch {e : ToneEntry} {first : Nat} {r : MatchResult} (h : s.Within b) :
    (s.applyMatch i e first r).Within b := by
  have hconfirmed (f : Line → Line) (hf : ∀ l, (f l).queue = l.queue) (c : Prop) [Decidable c] :
      (if c then (s.modLine i f).confirmed i e.cls first else s.modLine i f).Within b :=
    (h.modLine hf).confirmed.ite (h.modLine hf)
  have hstopped {u : State} (hu : u.Within b) (c : Prop) [Decidable c] :
      (if c then u.ringbackStops i else u).Within b := hu.ringbackStops.ite hu
  exact ((hstopped (hconfirmed _ (by simp) _) _).modLine (by simp)).ite (hstopped (hconfirmed _ (by simp) _) _)

theorem State.Within.matchEvent {id : Nat} {f : ToneEntry → Matcher → MatchResult} (h : s.Within b) :
    (s.matchEvent i id f).Within b := by
  unfold State.matchEvent
  split
  · exact h.applyMatch
  · exact h

theorem State.Within.speechFound (h : s.Within b) : (s.speechFound i).Within b := h.answered.ite h.finding

theorem State.Within.watchFrame {silent : Bool} (h : s.Within b) : (s.watchFrame i silent).Within b := by
  unfold State.watchFrame
  split
  · exact h
  · exact (h.modLine (by simp)).answered.ite (h.modLine (by simp))

theorem State.Within.digitRecognised {d : Digit} (h : s.Within b) : (State.digitRecognised i s d).Within b :=
  h.notifyLine.finding.voiceDigit

theorem State.Within.dtmfEvent {r : DtmfResult} (h : s.Within b) : (s.dtmfEvent i r).Within b :=
  State.Within.foldl State.Within.digitRecognised _ (h.modLine (by simp))

end Sys2Proof.Machine
end

section
/-! SUPPORT. The host link, the Directive Decoder and the resets of the part keep it within its bounds (R68, R153 to
R155, R173 to R182). -/

namespace Sys2Proof.Machine

variable {b : Nat} {s t : State} {i : LineId}

/-! ## Replies and the Decoder (R175, R176) -/

theorem State.Within.reply {r : Reply} (h : s.Within b) : (s.reply r).Within (b + 1) := by
  obtain ⟨hdram, hpart, hqueue, harea, hinput, hreplies⟩ := h
  refine ⟨hdram, hpart, hqueue, harea, hinput, ?_⟩
  have hout : (s.reply r).repliesOut = s.repliesOut + 1 := by
    simp only [State.repliesOut, State.reply, List.length_append, List.length_singleton]
    omega
  omega

/-- With room in the reply list one reply fewer is outstanding than the list holds. -/
theorem State.Within.room (h : s.Within b) (hr : s.replyRoom = true) : s.Within (Config.replyListMax - 1) := by
  obtain ⟨hdram, hpart, hqueue, harea, hinput, -⟩ := h
  exact ⟨hdram, hpart, hqueue, harea, hinput, Nat.le_sub_one_of_lt (of_decide_eq_true hr)⟩

theorem State.Within.setDecoder {d : Decoder} (h : s.Within b) (hd : d.input.length ≤ Config.inputListMax) :
    ({ s with decoder := d } : State).Within b := by
  obtain ⟨hdram, hpart, hqueue, harea, -, hreplies⟩ := h
  exact ⟨hdram, hpart, hqueue, harea, hd, hreplies⟩

theorem State.Within.input (h : s.Within b) : s.decoder.input.length ≤ Config.inputListMax := by
  obtain ⟨-, -, -, -, hinput, -⟩ := h
  exact hinput

theorem decoder_next_input_le (d : Decoder) : d.next.input.length ≤ d.input.length := by
  unfold Decoder.next
  split
  · exact le_rfl
  split
  · exact le_rfl
  next hinput => simp [hinput]

theorem State.Within.arrive {d : Handed} (h : s.Within Config.replyListMax) :
    (s.arrive d).Within Config.replyListMax := by
  unfold State.arrive
  split_ifs with _ hinput hroom
  · exact h.setDecoder h.input
  · exact h.setDecoder (by rwa [List.length_append])
  · exact (h.room hroom).reply
  · exact h.notifyPart

/-- A directive's block keeps the part within its bounds, whatever the number of replies outstanding. -/
def KeepsWithin (run : Directive → State → Answer) : Prop :=
  ∀ {b : Nat} {s : State} (d : Directive), s.Within b → (run d s).state.Within b

variable {run : Directive → State → Answer}

theorem State.Within.deal {d : Handed} (h : s.Within Config.replyListMax) (hrun : KeepsWithin run) :
    (s.deal d run).Within Config.replyListMax := by
  unfold State.deal
  split
  next hroom =>
    have hreplied : ((run d.dir s).state.reply
        ⟨d.code, d.dir.tag, (run d.dir s).status, (run d.dir s).results⟩).Within Config.replyListMax :=
      (hrun d.dir (h.room hroom)).reply
    exact hreplied.setDecoder ((decoder_next_input_le _).trans hreplied.input)
  · exact h

theorem State.Within.directive {code : Byte} {d : Directive} (h : s.Within Config.replyListMax)
    (hrun : KeepsWithin run) : (s.directive code d run).Within Config.replyListMax :=
  have hhand : ({ s with decoder.hand := some ⟨code, d⟩ } : State).Within Config.replyListMax := h
  (h.deal hrun).ite ((hhand.deal hrun).ite h.arrive)

/-! ## Host frames and the receive parser (R68, R153, R154, R173) -/

theorem State.Within.hostData {k : DataKind} {payload : List Byte} (h : s.Within b) :
    (s.hostData i k payload).Within b := by
  unfold State.hostData
  split
  · exact h.dropHost
  · exact (h.append.ite h.append.faxTxArrives).dropHost.ite h.dropHost

theorem State.Within.hostPageEnd {payload : List Byte} (h : s.Within b) : (s.hostPageEnd i payload).Within b := by
  unfold State.hostPageEnd
  refine h.ite ?_
  split
  · refine State.Within.ite ?_ h.dropHost
    split
    next hmark => exact (h.addMark hmark).faxTxArrives
    · exact h.dropHost
  · exact h.dropHost

theorem State.Within.endDownload {id : Nat} {why : TransferEnd} (h : s.Within b) : (s.endDownload id why).Within b :=
  State.Within.notifyPart (h.closeEntry :)

theorem State.Within.dropStore {n : Nat} (h : s.Within b) : (s.dropStore n).Within b := h.ite h.notifyPart

theorem State.Within.hostStoreData {payload : List Byte} (h : s.Within b) : (s.hostStoreData payload).Within b := by
  unfold State.hostStoreData
  split
  · exact h.storeBytes.ite (h.storeBytes.request.serveAll.endDownload.ite h.storeBytes.request.serveAll.storeBytes)
  · exact h.dropStore

theorem State.Within.hostStoreEnd (h : s.Within b) : s.hostStoreEnd.Within b := by
  unfold State.hostStoreEnd
  split
  · exact h.endDownload
  · exact h.dropStore

theorem State.Within.badFrame (h : s.Within b) : s.badFrame.Within b := h.notifyPart

theorem State.Within.handOn {channel kind : Nat} {payload : List Byte} (h : s.Within Config.replyListMax) :
    (s.handOn channel kind payload).Within Config.replyListMax := by
  have hunt : ({ s with parser := .hunt, gapTimer := none } : State).Within Config.replyListMax := h
  unfold State.handOn
  dsimp only
  split
  · split
    · exact hunt.arrive
    · exact hunt.badFrame
  · exact hunt.hostStoreData
  · exact hunt.hostStoreEnd
  · exact hunt.hostData
  · exact hunt.hostData
  · exact hunt.hostPageEnd
  · exact hunt.hostData

theorem State.Within.parsing {p : ParserState} (h : s.Within b) : (s.parsing p).Within b := h

theorem State.Within.takeByte {x : Byte} (h : s.Within Config.replyListMax) :
    (s.takeByte x).Within Config.replyListMax := by
  unfold State.takeByte
  split
  · exact h.parsing.ite h
  · exact h.parsing.ite h.badFrame
  · exact h.handOn.ite h.parsing
  · exact h.handOn.ite h.parsing

theorem State.Within.rx {x : RxByte} (h : s.Within Config.replyListMax) : (s.rx x).Within Config.replyListMax := by
  unfold State.rx
  refine h.ite ?_
  split
  · exact h.takeByte
  · exact h.ite h.badFrame

theorem State.Within.feed {bs : List RxByte} (h : s.Within Config.replyListMax) :
    (s.feed bs).Within Config.replyListMax :=
  State.Within.foldl State.Within.rx bs h

/-! ## The outbound arbiter (R177) -/

/-- A frame that is no reply adds to no count of replies. -/
theorem State.Within.sendFrame {f : OutFrame} (h : s.Within b) (hf : ∀ r, f.source ≠ .reply r) :
    (s.sendFrame f).Within b := by
  obtain ⟨hdram, hpart, hqueue, harea, hinput, hreplies⟩ := h
  refine ⟨hdram, hpart, hqueue, harea, hinput, le_trans ?_ hreplies⟩
  have hout : (s.sendFrame f).repliesOut = s.replies.length := by
    simp only [State.repliesOut, State.sendFrame, Nat.add_zero]
  rw [hout]
  exact Nat.le_add_right _ _

/-- The oldest reply passes from the reply list into transmission. -/
theorem State.Within.sendReply {r : Reply} {rest : List Reply} {f : OutFrame} (h : s.Within b)
    (hout : s.outFrame = none) (hr : s.replies = r :: rest) :
    (({ s with replies := rest } : State).sendFrame f).Within b := by
  obtain ⟨hdram, hpart, hqueue, harea, hinput, hreplies⟩ := h
  refine ⟨hdram, hpart, hqueue, harea, hinput, le_trans ?_ hreplies⟩
  simp only [State.repliesOut, State.sendFrame, hout, hr, List.length_cons]
  split <;> omega

theorem State.Within.serveRx (h : s.Within b) : (s.serveRx i).Within b := by
  unfold State.serveRx
  split
  · exact h
  · split
    · exact h.takeMark.addHeldMark.sendFrame (by simp)
    · exact h.remove.checkResume.sendFrame (by simp)

theorem State.Within.serveTransfer (h : s.Within b) : s.serveTransfer.Within b := by
  have hmoves (tr : Transfer) : ({ s with store.transfer := tr } : State).Within b := h
  unfold State.serveTransfer
  split
  · split
    · exact ((hmoves _).sendFrame (by simp)).ite (h.sendFrame (by simp))
    · exact h.sendFrame (by simp)
  · exact h.sendFrame (by simp)
  · exact h

theorem State.Within.serveSource {d : DataSource} (h : s.Within b) : (s.serveSource d).Within b := by
  cases d
  · exact h.serveRx
  · exact h.serveTransfer

theorem State.Within.choose (h : s.Within b) (hout : s.outFrame = none) : s.choose.Within b := by
  unfold State.choose
  split
  next hr => exact h.sendReply hout hr
  split
  next n lost q htake =>
    obtain ⟨hdram, hpart, hrest⟩ := h
    have hleft : ({ s with partQueue := q } : State).Within b := ⟨hdram, take_fits hpart htake, hrest⟩
    exact hleft.sendFrame (by simp)
  split
  next j _ =>
    split
    next n lost q htake =>
      have hleft : (s.modLine j fun l => { l with queue := q }).Within b :=
        h.setLine_of_fits (take_fits (h.queue j) htake)
      exact State.Within.sendFrame (s := { s.modLine j (fun l => { l with queue := q }) with lastLine := j }) hleft
        (by simp)
    · exact h
  split
  next d _ => exact State.Within.serveSource (s := { s with lastSource := d }) h
  · exact h

/-! ## Resets of the whole part (R155, R174, R182) -/

theorem State.Within.resetStore (h : s.Within b) : s.resetStore.Within b :=
  State.Within.foldl (fun hu => State.Within.closeEntry hu)
    _ (s := { s with store.requests := [] }) h

theorem State.Within.partReset (h : s.Within b) : s.partReset.Within b := by
  obtain ⟨hdram, -⟩ := h.resetStore
  refine ⟨hdram, Nat.zero_le _, fun j => ?_, fun k => ?_, Nat.zero_le _, Nat.zero_le _⟩
  · simp [State.partReset, State.line, Line.atReset, NoticeQueue.fits]
  · exact fits_of_empty (by simp [State.partReset, State.area]) (by simp [State.partReset, State.area])

theorem State.Within.ready {k : ResetKind} (h : s.Within b) : (s.ready k).Within b := h.notifyPart

theorem State.Within.endUpload {id : Nat} {why : TransferEnd} (h : s.Within b) : (s.endUpload id why).Within b :=
  State.Within.notifyPart h

theorem State.Within.frameSent {f : OutFrame} (h : s.Within b) : (s.frameSent f).Within b := by
  have hfree : ({ s with outFrame := none } : State).Within b := by
    obtain ⟨hdram, hpart, hqueue, harea, hinput, hreplies⟩ := h
    exact ⟨hdram, hpart, hqueue, harea, hinput, (Nat.le_add_right _ _).trans hreplies⟩
  unfold State.frameSent
  dsimp only
  split
  · exact hfree.partReset.ready
  · split
    · exact hfree.endUpload
    · exact hfree.endUpload
    · exact hfree
  · exact hfree

end Sys2Proof.Machine
end

section
/-! SUPPORT. The blocks of the directives keep the part within its bounds. -/

namespace Sys2Proof.Machine

variable {b : Nat} {s : State} {i : LineId} {d : Directive}

/-! ## Line values and arguments (R175 steps 2 and 3) -/

theorem onLine_within {α : Type} {p : Arg α} {f : LineId → Option α → State → Answer} (h : s.Within b)
    (hf : ∀ i a, (f i a s).state.Within b) : (onLine p f d s).state.Within b := by
  unfold onLine
  split
  · exact h
  split
  · exact hf _ _
  · exact hf _ _
  · exact h

theorem onPart_within {α : Type} {p : Arg α} {f : Option α → State → Answer} (h : s.Within b)
    (hf : ∀ a, (f a s).state.Within b) : (onPart p f d s).state.Within b := by
  unfold onPart
  split
  · split
    · exact hf _
    · exact hf _
    · exact h
  · exact h

theorem onLines_within {α : Type} {p : Arg α} {f : List LineId → Bool → Option α → State → Answer}
    (h : s.Within b) (hf : ∀ ls all a, (f ls all a s).state.Within b) : (onLines p f d s).state.Within b := by
  have hread (ls : List LineId) (all : Bool) : (match p.read d.args with
      | .good v => f ls all (some v) s
      | .bad => f ls all none s
      | .count => s.refuse .refusedArg).state.Within b := by
    split
    · exact hf _ _ _
    · exact hf _ _ _
    · exact h
  unfold onLines
  dsimp only
  split
  · exact hread _ _
  · split
    · exact hread _ _
    · exact h

theorem onStore_within {α : Type} {p : Arg α} {f : Option α → State → Answer} (h : s.Within b)
    (hf : ∀ a, (f a s).state.Within b) : (onStore p f d s).state.Within b := onPart_within h fun a => by
  split
  · exact hf a
  · exact h

theorem onFreeArea_within {f : AreaId → State → Answer} (h : s.Within b) (hf : ∀ k, (f k s).state.Within b) :
    (onFreeArea f d s).state.Within b := onPart_within h fun a => by
  split
  · exact h
  split_ifs
  · exact h
  · exact h
  · exact hf _

/-- A block that answers as one of two does. -/
theorem ite_answer_within {c : Prop} [Decidable c] {x y : Answer} (hx : x.state.Within b) (hy : y.state.Within b) :
    (if c then x else y).state.Within b := by
  split
  · exact hx
  · exact hy

/-! ## Lines and calls -/

theorem runPartReset_within : KeepsWithin runPartReset := fun _ h => onPart_within h fun _ => h

theorem State.Within.enableLine (h : s.Within b) : (s.enableLine i).Within b := (h.pass.modLine (by simp)).ite h

theorem runLineEnable_within : KeepsWithin runLineEnable := fun _ h => onLines_within h fun ls _ _ =>
  ite_answer_within h (State.Within.foldl State.Within.enableLine ls h :)

theorem State.Within.leaveAlerting (h : s.Within b) : (s.leaveAlerting i).Within b := h.closeWindow.ite h

theorem State.Within.endCall {why : EndReason} (h : s.Within b) : (s.endCall i why).Within b :=
  h.leaveAlerting.callEnd.ite h

theorem State.Within.disableLine (h : s.Within b) : (s.disableLine i).Within b :=
  h.ite (h.endCall.modLine (by simp)).pass

theorem runLineDisable_within : KeepsWithin runLineDisable := fun _ h => onLines_within h fun ls _ _ =>
  State.Within.foldl State.Within.disableLine ls h

theorem State.Within.closeOpenByReset (h : s.Within b) : (s.closeOpenByReset i).Within b := by
  unfold State.closeOpenByReset
  split
  · exact h.closeEntry
  · exact h

theorem State.Within.flushLine (h : s.Within b) : (s.flushLine i).Within b :=
  h.resetAreas.setLine_of_fits (Nat.zero_le _)

theorem State.Within.dropByReset (h : s.Within b) : (s.dropByReset i).Within b :=
  have hended : ((s.leaveAlerting i).modLine i fun l =>
      l.modCall fun c => { c with endReason := some .reset }).Within b := h.leaveAlerting.modLine (by simp)
  have hflushed {u : State} (hu : u.Within b) : (((u.withdraw i).closeOpenByReset i).flushLine i).Within b :=
    hu.withdraw.closeOpenByReset.flushLine
  (hflushed (hended.stopEngine.ite hended)).clearFaxing.clearPlaying.releaseAreas.reportEnd.modLine (by simp)

theorem State.Within.resetLine (h : s.Within b) : (s.resetLine i).Within b :=
  (h.dropByReset.modLine (by simp)).ite (h.dropByReset.modLine (by simp)).enterIdle

theorem runLineReset_within : KeepsWithin runLineReset := fun _ h => onLines_within h fun ls _ _ =>
  State.Within.foldl State.Within.resetLine ls h

theorem State.Within.setProfileOf {pairs : List (Nat × Nat)} (h : s.Within b) :
    (State.setProfileOf pairs s i).Within b := by
  unfold State.setProfileOf
  split
  · exact h.modLine (by simp)
  · exact h

theorem runSetProfile_within : KeepsWithin runSetProfile := fun _ h => onLines_within h fun ls _ a => by
  split
  · exact h
  · exact ite_answer_within (State.Within.foldl State.Within.setProfileOf ls h :) h

theorem State.Within.takeDial {a : DialArgs} {es : List DialElement} (h : s.Within b) :
    (s.takeDial i a es).Within b := by
  unfold State.takeDial
  dsimp only
  split
  · exact (h.modLine (by simp)).markFaxing.useAreas
  · exact (h.modLine (by simp)).useAreas

theorem State.Within.startLoopJob {j : Job} (h : s.Within b) : (s.startLoopJob i j).Within b := by
  unfold State.startLoopJob
  dsimp only
  split
  · exact (h.modLine (by simp)).signalRing.startData
  · exact (h.modLine (by simp)).signalRing.startFaxSender
  · exact (h.modLine (by simp)).signalRing.startHostVoice
  · exact (h.modLine (by simp)).signalRing

theorem runDial_within : KeepsWithin runDial := fun _ h => onLine_within h fun i a => by
  refine ite_answer_within h (ite_answer_within h ?_)
  split
  · exact h
  split
  · exact h
  · exact ite_answer_within h (ite_answer_within h (ite_answer_within h (ite_answer_within h
      (h.takeDial.startLoopJob.ite h.takeDial.seize))))

theorem runHangUp_within : KeepsWithin runHangUp := fun _ h => onLine_within h fun i a => by
  refine ite_answer_within h ?_
  split
  · exact h
  split
  · exact h.hangUpData
  · exact h.hangUpFax
  · exact h.release

theorem State.Within.enterLoopback (h : s.Within b) : (s.enterLoopback i).Within b := (h.modLine (by simp)).pass
theorem State.Within.leaveLoopback (h : s.Within b) : (s.leaveLoopback i).Within b :=
  (h.endCall.modLine (by simp)).enterIdle

theorem runLoopback_within : KeepsWithin runLoopback := fun _ h => onLine_within h fun i a => by
  split
  · exact ite_answer_within h.enterLoopback h
  · exact ite_answer_within h.leaveLoopback h
  · exact h

theorem State.Within.substitute {ring loop : Bool} (h : s.Within b) : (s.substitute i ring loop).Within b :=
  (h.modLine (by simp)).ite (h.modLine (by simp)).signalLoop

theorem runLoopSignals_within : KeepsWithin runLoopSignals := fun _ h => onLine_within h fun i a => by
  refine ite_answer_within h ?_
  split
  · exact h.substitute
  · exact h

theorem runSendDigits_within : KeepsWithin runSendDigits := fun _ h => onLine_within h fun i a => by
  refine ite_answer_within h ?_
  split
  · exact h
  · exact h
  · exact ite_answer_within h (ite_answer_within h (h.modLine (by simp)))

theorem runAnswer_within : KeepsWithin runAnswer := fun {b s} _ h => onLine_within h fun i a => by
  split
  · exact h
  · have hordered (m : JobSet) : (s.modLine i
        (Line.takeOverride (.answer m) (fun c => { c with override := .answer }))).Within b := h.modLine (by simp)
    exact ite_answer_within h (ite_answer_within ((hordered _).modLine (by simp)) (hordered _).hostAnswer)

theorem runReject_within : KeepsWithin runReject := fun _ h => onLine_within h fun _ _ =>
  ite_answer_within h (h.modLine (by simp))

theorem runRateRequest_within : KeepsWithin runRateRequest := fun _ h => onLine_within h fun i a => by
  dsimp only
  split
  · exact h
  · exact ite_answer_within h (ite_answer_within h (h.modLine (by simp)))

theorem runQualityRead_within : KeepsWithin runQualityRead := fun _ h => onLine_within h fun _ _ => h

theorem State.Within.takeDocument {id : Nat} (h : s.Within b) : (s.takeDocument i id).Within b :=
  (h.modLine (by simp)).markFaxing.useArea.beginStorePage.ite (h.modLine (by simp)).markFaxing.useArea

theorem runFaxDocument_within : KeepsWithin runFaxDocument := fun _ h => onLine_within h fun _ _ =>
  ite_answer_within h (ite_answer_within h (ite_answer_within h (ite_answer_within h (ite_answer_within h
    h.takeDocument))))

/-- The SIGNALS entry that LINE_STATUS takes from the queue leaves it no longer than it was (R181). -/
theorem runLineStatus_within : KeepsWithin runLineStatus := fun _ h => onLine_within h fun i _ =>
  h.setLine_of_fits ((List.length_filter_le _ _).trans (h.queue i))

/-! ## The store -/

theorem runStoreFormat_within : KeepsWithin runStoreFormat := fun _ h => onPart_within h fun a => by
  split
  · exact h
  · exact ite_answer_within h (ite_answer_within h h)

theorem runStoreStatus_within : KeepsWithin runStoreStatus := fun _ h => onPart_within h fun _ => h

theorem runMsgList_within : KeepsWithin runMsgList := fun _ h => onStore_within h fun a => by
  split
  · exact h
  split
  · exact h
  · exact ite_answer_within h h

theorem runMsgInfo_within : KeepsWithin runMsgInfo := fun _ h => onStore_within h fun a => by
  split <;> exact h

theorem runMsgMark_within : KeepsWithin runMsgMark := fun _ h => onStore_within h fun a => by
  split
  · exact h
  dsimp only
  split
  · exact h
  · exact ite_answer_within h h.modEntry

theorem runMsgDelete_within : KeepsWithin runMsgDelete := fun _ h => onStore_within h fun a => by
  dsimp only
  split
  · exact h
  · exact ite_answer_within h h.deleteEntry

theorem runMsgUpload_within : KeepsWithin runMsgUpload := fun _ h => onStore_within h fun a => by
  refine ite_answer_within h ?_
  split
  · exact h
  · exact ite_answer_within h (ite_answer_within h h)

theorem runMsgDownload_within : KeepsWithin runMsgDownload := fun _ h => onStore_within h fun a => by
  split
  · exact h
  split
  · refine ite_answer_within h (ite_answer_within h (ite_answer_within h ?_))
    split
    next hopen => exact (h.openEntry hopen :)
    · exact h
  · exact h

theorem runTransferStop_within : KeepsWithin runTransferStop := fun _ h => onStore_within h fun _ => by
  split
  · exact h
  · exact h
  · exact h
  · exact h.endDownload

/-! ## Voice -/

theorem runRecordStore_within {kind : MsgKind} {mailbox : Nat} (h : s.Within b) :
    (s.runRecordStore i kind mailbox).state.Within b :=
  ite_answer_within h (ite_answer_within h (ite_answer_within h h.beginStored))

theorem runRecord_within : KeepsWithin runRecord := fun _ h => onLine_within h fun i a => by
  refine ite_answer_within h ?_
  split
  · exact h
  · exact ite_answer_within h (ite_answer_within h h.beginHosted)
  split
  · exact ite_answer_within h (runRecordStore_within h)
  · exact h

theorem runPlay_within : KeepsWithin runPlay := fun _ h => onLine_within h fun i a => by
  refine ite_answer_within h ?_
  split
  · exact h
  · exact ite_answer_within h (ite_answer_within h h.startPlaying)
  · exact ite_answer_within h (ite_answer_within h (ite_answer_within h (ite_answer_within h h.startPlaying.playFrom)))

theorem runVoiceStop_within : KeepsWithin runVoiceStop := fun _ h => onLine_within h fun _ _ =>
  ite_answer_within h h.voiceStop

/-! ## The tables, the clock and the areas -/

theorem runLoadRingPatterns_within : KeepsWithin runLoadRingPatterns := fun _ h => onPart_within h fun _ =>
  ite_answer_within h (ite_answer_within h h)

theorem runLoadTones_within : KeepsWithin runLoadTones := fun _ h => onPart_within h fun a => by
  split
  · exact h.mapLines fun _ hl => hl
  · exact h

theorem runRoutePut_within : KeepsWithin runRoutePut := fun _ h => onPart_within h fun a => by
  split
  · exact ite_answer_within h (ite_answer_within h h)
  · exact h

theorem runRouteDrop_within : KeepsWithin runRouteDrop := fun _ h => onPart_within h fun _ => ite_answer_within h h
theorem runRouteClear_within : KeepsWithin runRouteClear := fun _ h => onPart_within h fun _ => h

theorem runRouteRead_within : KeepsWithin runRouteRead := fun _ h => onPart_within h fun a => by
  split <;> exact h

theorem runRouteTest_within : KeepsWithin runRouteTest := fun _ h => onLine_within h fun i a => by
  split <;> exact h

theorem runSetClock_within : KeepsWithin runSetClock := fun _ h => onPart_within h fun a => by
  split
  · exact ite_answer_within h h
  · exact h

theorem runLoadLadder_within : KeepsWithin runLoadLadder := fun _ h => onPart_within h fun a => by
  split
  · exact h
  · exact ite_answer_within h (ite_answer_within h (by split <;> exact h))

theorem State.Within.defineArea {k : AreaId} {a : DefineArgs} (h : s.Within b) : (s.defineArea k a).Within b := by
  refine h.emptyArea.modArea fun _ => fits_of_empty ?_ ?_
  · simp [State.emptyArea, setFlow_area]
  · simp [State.emptyArea, setFlow_area]

theorem runAreaDefine_within : KeepsWithin runAreaDefine := fun _ h => onPart_within h fun a => by
  split
  · exact h
  split
  · exact h
  · exact ite_answer_within (ite_answer_within h (h.setArea (fits_of_empty rfl rfl)))
      (ite_answer_within h (ite_answer_within h (ite_answer_within h (ite_answer_within h h.defineArea))))

theorem State.Within.joinArea {k : AreaId} {p : Purpose} (h : s.Within b) : (s.joinArea k i p).Within b := by
  have hjoined : (s.modArea k fun a => { a with
      join := some (i, p), content := .none, fifo := [], marks := [], flow := .go, inUse := none }).Within b :=
    h.modArea fun _ => fits_of_empty rfl rfl
  exact hjoined.useArea.ite hjoined

theorem runAreaJoin_within : KeepsWithin runAreaJoin := fun _ h => onLine_within h fun i a => by
  split
  · exact ite_answer_within h (ite_answer_within h (ite_answer_within h h.joinArea))
  · exact h

theorem runAreaUnjoin_within : KeepsWithin runAreaUnjoin := fun _ h => onFreeArea_within h fun _ =>
  ite_answer_within h (h.emptyArea.modArea id)

theorem runAreaFlush_within : KeepsWithin runAreaFlush := fun _ h => onFreeArea_within h fun _ => h.emptyArea

theorem runAreaRead_within : KeepsWithin runAreaRead := fun _ h => onPart_within h fun a => by
  split <;> exact h

end Sys2Proof.Machine
end

section
/-! SUPPORT. The events keep the part within its bounds. -/

namespace Sys2Proof.Machine

variable {b : Nat} {s : State} (i : LineId)

/-! ## Ring input, loop current and dialling (R8 to R33) -/

theorem execRingInputChange_within (active : Bool) (h : s.Within b) :
    nextHolds (execRingInputChange i active s) (State.Within b) := ⟨_, rfl, h.modLine (by simp)⟩

theorem execRingQualified_within (h : s.Within b) : nextHolds (execRingQualified i s) (State.Within b) := by
  refine ⟨_, rfl, ?_⟩
  split
  · exact h.burstBegins.ite h
  · exact h

theorem execBurstTrailingEdge_within (h : s.Within b) : nextHolds (execBurstTrailingEdge i s) (State.Within b) := by
  refine ⟨_, rfl, ?_⟩
  split
  · exact h.burstEnds.ite h
  · exact h

theorem execRingGapExpiry_within (h : s.Within b) : nextHolds (execRingGapExpiry i s) (State.Within b) :=
  ⟨_, rfl, ((h.modLine (by simp)).alertingClose.ite (h.modLine (by simp))).ite h⟩

theorem execRingAbandonExpiry_within (h : s.Within b) : nextHolds (execRingAbandonExpiry i s) (State.Within b) :=
  ⟨_, rfl, ((h.endCall.modLine (by simp)).enterIdle.ite (h.modLine (by simp))).ite h⟩

theorem execLoopInputChange_within (present : Bool) (h : s.Within b) :
    nextHolds (execLoopInputChange i present s) (State.Within b) :=
  have hinput : (s.modLine i fun l => { l with realLoop := present }).Within b := h.modLine (by simp)
  ⟨_, rfl, ((hinput.modLine (by simp)).ite (hinput.modLine (by simp)).signalLoop).ite hinput⟩

theorem execLoopDrop_within (h : s.Within b) : nextHolds (execLoopDrop i s) (State.Within b) :=
  ⟨_, rfl, (h.release.ite h.release).ite h⟩

theorem execReleaseGuardExpiry_within (h : s.Within b) : nextHolds (execReleaseGuardExpiry i s) (State.Within b) :=
  ⟨_, rfl, (h.modLine (by simp)).enterIdle.ite h⟩

theorem execDialToneWaitExpiry_within (h : s.Within b) : nextHolds (execDialToneWaitExpiry i s) (State.Within b) :=
  ⟨_, rfl, (h.beginDialling.ite h.release).ite h⟩

theorem execAwaitToneExpiry_within (h : s.Within b) : nextHolds (execAwaitToneExpiry i s) (State.Within b) := by
  refine ⟨_, rfl, ?_⟩
  dsimp only
  split
  · exact (h.endElement.ite h.release).ite h
  · exact h

theorem execDtmfDigitOnEnd_within (h : s.Within b) : nextHolds (execDtmfDigitOnEnd i s) (State.Within b) := by
  refine ⟨_, rfl, ?_⟩
  split
  · exact (h.modLine (by simp)).ite h
  · exact h

theorem execDtmfDigitOffEnd_within (h : s.Within b) : nextHolds (execDtmfDigitOffEnd i s) (State.Within b) := by
  refine ⟨_, rfl, ?_⟩
  split
  · exact ((h.modLine (by simp)).endElement.ite ((h.modLine (by simp)).modLine (by simp))).ite h
  · exact h

theorem execPulseBreakEnd_within (h : s.Within b) : nextHolds (execPulseBreakEnd i s) (State.Within b) := by
  refine ⟨_, rfl, ?_⟩
  dsimp only
  split
  · exact (h.closeRelay.modLine (by simp)).ite h
  · exact h

theorem execPulseMakeEnd_within (h : s.Within b) : nextHolds (execPulseMakeEnd i s) (State.Within b) := by
  refine ⟨_, rfl, ?_⟩
  split
  · exact (h.openRelay.modLine (by simp)).ite h
  · exact h

theorem execPulseInterdigitEnd_within (h : s.Within b) : nextHolds (execPulseInterdigitEnd i s) (State.Within b) := by
  refine ⟨_, rfl, ?_⟩
  split
  · exact h.endElement.ite h
  · exact h

theorem execDialPauseEnd_within (h : s.Within b) : nextHolds (execDialPauseEnd i s) (State.Within b) := by
  refine ⟨_, rfl, ?_⟩
  split
  · exact h.endElement.ite h
  · exact h

theorem execFlashEnd_within (h : s.Within b) : nextHolds (execFlashEnd i s) (State.Within b) := by
  refine ⟨_, rfl, ?_⟩
  split
  · exact h.closeRelay.endElement.ite h
  · exact h

theorem execAnswerWaitExpiry_within (h : s.Within b) : nextHolds (execAnswerWaitExpiry i s) (State.Within b) :=
  ⟨_, rfl, h.release.ite h⟩

/-! ## Tones, caller identity and classification (R22 to R53) -/

theorem execToneDetectorChange_within (id : Nat) (heard : List HeardTone) (already : Bool) (h : s.Within b) :
    nextHolds (execToneDetectorChange i id heard already s) (State.Within b) := by
  refine ⟨_, rfl, ?_⟩
  split
  · exact h.ite (((h.modLine (by simp)).matchEvent.ite (h.modLine (by simp)).matchEvent).ite h.matchEvent)
  · exact h

theorem execCadencePeriodExpiry_within (id : Nat) (h : s.Within b) :
    nextHolds (execCadencePeriodExpiry i id s) (State.Within b) := ⟨_, rfl, h.matchEvent⟩

theorem execContinuousToneConfirm_within (id : Nat) (h : s.Within b) :
    nextHolds (execContinuousToneConfirm i id s) (State.Within b) := ⟨_, rfl, h.matchEvent⟩

theorem execGeneratedToneEnd_within (h : s.Within b) : nextHolds (execGeneratedToneEnd i s) (State.Within b) :=
  ⟨_, rfl, h.modLine (by simp)⟩

theorem execPowerFrameEnd_within (power : Int) (h : s.Within b) :
    nextHolds (execPowerFrameEnd i power s) (State.Within b) :=
  ⟨_, rfl, ((h.modLine (by simp)).speechFound.ite (h.modLine (by simp))).watchFrame.recordFrame.ite h⟩

theorem execDtmfPairChange_within (heard : List HeardTone) (h : s.Within b) :
    nextHolds (execDtmfPairChange i heard s) (State.Within b) := by
  refine ⟨_, rfl, State.Within.ite ?_ h⟩
  split
  · exact (h.modLine (by simp)).dtmfEvent
  · exact (h.modLine (by simp)).dtmfEvent

theorem execDtmfPresenceExpiry_within (h : s.Within b) : nextHolds (execDtmfPresenceExpiry i s) (State.Within b) := by
  refine ⟨_, rfl, ?_⟩
  split
  · exact h.dtmfEvent
  · exact h

theorem execDtmfAbsenceExpiry_within (h : s.Within b) : nextHolds (execDtmfAbsenceExpiry i s) (State.Within b) := by
  refine ⟨_, rfl, ?_⟩
  split
  · exact h.dtmfEvent
  · exact h

theorem execCidMessageEnd_within (heard : List HeardTone) (h : s.Within b) :
    nextHolds (execCidMessageEnd i heard s) (State.Within b) := ⟨_, rfl, h.cidSignal⟩

theorem execCidSynchronised_within (heard : List HeardTone) (h : s.Within b) :
    nextHolds (execCidSynchronised i heard s) (State.Within b) := ⟨_, rfl, h.cidSignal⟩

theorem execCidWaitExpiry_within (h : s.Within b) : nextHolds (execCidWaitExpiry i s) (State.Within b) :=
  ⟨_, rfl, h.closeWindow.decide?.ite h⟩

theorem execClassifyTimeExpiry_within (h : s.Within b) : nextHolds (execClassifyTimeExpiry i s) (State.Within b) :=
  ⟨_, rfl, h.classResult.ite h⟩

theorem execAnswerDropExpiry_within (h : s.Within b) : nextHolds (execAnswerDropExpiry i s) (State.Within b) :=
  ⟨_, rfl, h.release.ite h⟩

theorem execClockMinuteAdvance_within (h : s.Within b) : nextHolds (execClockMinuteAdvance s) (State.Within b) :=
  have hadvanced : ({ s with clock := s.clock.advance } : State).Within b := h
  ⟨_, rfl, hadvanced.ite h⟩

/-! ## Quality, rate and the data link (R73 to R116) -/

theorem State.Within.qualityDrop {i : LineId} (h : s.Within b) : (s.qualityDrop i).Within b :=
  h.ite (h.release.ite (h.modLine (by simp)))

theorem State.Within.decideRate {i : LineId} (h : s.Within b) : (s.decideRate i).Within b :=
  (h.modLine (by simp)).ite (h.qualityDrop.ite ((h.modLine (by simp)).ite h))

theorem execMeasurementRecord_within (r : MeasRecord) (h : s.Within b) :
    nextHolds (execMeasurementRecord i r s) (State.Within b) :=
  have hnext : (s.modLine i (Line.nextInterval s.now)).Within b := h.modLine (by simp)
  have hfax (f : Line → Line) (hf : ∀ l, (f l).queue = l.queue) (c : Prop) [Decidable c] :
      (if c then (s.modLine i (Line.nextInterval s.now)).modLine i f
        else s.modLine i (Line.nextInterval s.now)).Within b := (hnext.modLine hf).ite hnext
  ⟨_, rfl, ((hfax _ (by simp) _).ite ((hnext.modLine (by simp)).decideRate.ite (hfax _ (by simp) _))).ite h⟩

theorem execTrainingRecord_within (r : MeasRecord) (h : s.Within b) :
    nextHolds (execTrainingRecord i r s) (State.Within b) := ⟨_, rfl, (h.modLine (by simp)).ite h⟩

theorem execTrainingOutcome_within (locked : Bool) (h : s.Within b) :
    nextHolds (execTrainingOutcome i locked s) (State.Within b) := by
  refine ⟨_, rfl, State.Within.ite ?_ h⟩
  split
  · exact h.trySucceeded
  · exact h.tryFailed

theorem execRateOkWaitExpiry_within (h : s.Within b) : nextHolds (execRateOkWaitExpiry i s) (State.Within b) :=
  ⟨_, rfl, (h.modLine (by simp)).ite h⟩

theorem execLinkRateReceived_within (step : Nat) (h : s.Within b) :
    nextHolds (execLinkRateReceived i step s) (State.Within b) := by
  refine ⟨_, rfl, State.Within.ite ?_ h⟩
  dsimp only
  split
  · exact h.modLine (by simp)
  · exact h.modLine (by simp)
  · exact h

theorem execLinkRateOkReceived_within (step : Nat) (h : s.Within b) :
    nextHolds (execLinkRateOkReceived i step s) (State.Within b) := ⟨_, rfl, (h.modLine (by simp)).ite h⟩

theorem execCarrierChange_within (on : Bool) (h : s.Within b) :
    nextHolds (execCarrierChange i on s) (State.Within b) :=
  have hsignal : ((s.modLine i fun l => { l with carrier := on }).signalCarrier i on).Within b :=
    (h.modLine (by simp)).signalCarrier
  ⟨_, rfl, ((hsignal.modLine (by simp)).ite (hsignal.faxCarrierOn.ite hsignal.faxCarrierOff)).ite h⟩

theorem execCarrierLossExpiry_within (h : s.Within b) : nextHolds (execCarrierLossExpiry i s) (State.Within b) :=
  ⟨_, rfl, h.release.ite h⟩

theorem execCapsReceived_within (c : Capability) (h : s.Within b) :
    nextHolds (execCapsReceived i c s) (State.Within b) := ⟨_, rfl, h.completeExchange.ite h⟩

theorem execCapsRepeatExpiry_within (h : s.Within b) : nextHolds (execCapsRepeatExpiry i s) (State.Within b) :=
  ⟨_, rfl, (h.modLine (by simp)).ite h⟩

theorem execExchangeTimerExpiry_within (h : s.Within b) : nextHolds (execExchangeTimerExpiry i s) (State.Within b) :=
  ⟨_, rfl, h.release.ite h⟩

theorem execDataAnswerToneEnd_within (h : s.Within b) : nextHolds (execDataAnswerToneEnd i s) (State.Within b) :=
  ⟨_, rfl, (h.modLine (by simp)).ite h⟩

theorem execLinkDataReceived_within (seq ack : Fin 64) (payload : List Byte) (h : s.Within b) :
    nextHolds (execLinkDataReceived i seq ack payload s) (State.Within b) :=
  ⟨_, rfl, (h.modLine (by simp)).receiveData.pump.ite h⟩

theorem execLinkAckReceived_within (n : Fin 64) (h : s.Within b) :
    nextHolds (execLinkAckReceived i n s) (State.Within b) := ⟨_, rfl, (h.modLine (by simp)).pump.ite h⟩

theorem execLinkResendReceived_within (seq : Fin 64) (h : s.Within b) :
    nextHolds (execLinkResendReceived i seq s) (State.Within b) := by
  refine ⟨_, rfl, ?_⟩
  dsimp only
  split
  · exact h
  · exact (h.afterRaise (resend_queue _ _)).ite h

theorem execLinkPauseReceived_within (h : s.Within b) : nextHolds (execLinkPauseReceived i s) (State.Within b) :=
  ⟨_, rfl, (h.modLine (by simp)).ite h⟩

theorem execLinkResumeReceived_within (h : s.Within b) : nextHolds (execLinkResumeReceived i s) (State.Within b) :=
  ⟨_, rfl, (h.afterRaise (resume_queue _)).ite h⟩

theorem execLinkEndReceived_within (h : s.Within b) : nextHolds (execLinkEndReceived i s) (State.Within b) :=
  ⟨_, rfl, (h.modLine (by simp)).ite h⟩

theorem execLinkEndOkReceived_within (h : s.Within b) : nextHolds (execLinkEndOkReceived i s) (State.Within b) :=
  ⟨_, rfl, h.release.ite h⟩

theorem execLinkFrameFormed_within (h : s.Within b) : nextHolds (execLinkFrameFormed i s) (State.Within b) :=
  ⟨_, rfl, h.formFrame.ite h⟩

theorem execLinkFrameTransmitted_within (h : s.Within b) :
    nextHolds (execLinkFrameTransmitted i s) (State.Within b) := by
  refine ⟨_, rfl, ?_⟩
  dsimp only
  split
  · exact h
  · exact (h.modLine (by simp)).release
  · exact (h.modLine (by simp)).release.ite (h.modLine (by simp)).pump
  · exact (h.modLine (by simp)).pump

theorem execResendTimerExpiry_within (h : s.Within b) : nextHolds (execResendTimerExpiry i s) (State.Within b) := by
  refine ⟨_, rfl, ?_⟩
  dsimp only
  split
  · refine State.Within.ite (h.afterRaise ?_) h
    exact resend_queue _ _
  · exact h

theorem execPauseTimerExpiry_within (h : s.Within b) : nextHolds (execPauseTimerExpiry i s) (State.Within b) :=
  ⟨_, rfl, h.release.ite h⟩

theorem execAckSpacingExpiry_within (h : s.Within b) : nextHolds (execAckSpacingExpiry i s) (State.Within b) :=
  ⟨_, rfl, (h.modLine (by simp)).ite h⟩

theorem execDrainTimerExpiry_within (h : s.Within b) : nextHolds (execDrainTimerExpiry i s) (State.Within b) :=
  ⟨_, rfl, (h.modLine (by simp)).ite h⟩

theorem execEndOkWaitExpiry_within (h : s.Within b) : nextHolds (execEndOkWaitExpiry i s) (State.Within b) :=
  ⟨_, rfl, h.release.ite h⟩

/-! ## Fax calls (R117 to R138) -/

theorem execFaxAnswerToneEnd_within (h : s.Within b) : nextHolds (execFaxAnswerToneEnd i s) (State.Within b) := by
  refine ⟨_, rfl, ?_⟩
  split
  · exact h
  · exact (h.modLine (by simp)).modFax.ite h

theorem execFaxCallToneExpiry_within (h : s.Within b) : nextHolds (execFaxCallToneExpiry i s) (State.Within b) := by
  refine ⟨_, rfl, ?_⟩
  split
  · exact h
  · exact h.endFax.ite h

theorem execFaxOfferReceived_within (rate : Nat) (resolutions : List Resolution) (bc : Bool) (h : s.Within b) :
    nextHolds (execFaxOfferReceived i rate resolutions bc s) (State.Within b) := by
  refine ⟨_, rfl, ?_⟩
  split
  · exact h
  · exact h.takeOffer.ite h

theorem execFaxChooseReceived_within (step : Nat) (res : Resolution) (bc : Bool) (h : s.Within b) :
    nextHolds (execFaxChooseReceived i step res bc s) (State.Within b) := by
  refine ⟨_, rfl, ?_⟩
  split
  · exact h
  · exact (h.modFax.modLine (by simp)).ite h

theorem execFaxCheckEnd_within (locked : Bool) (errors : Nat) (h : s.Within b) :
    nextHolds (execFaxCheckEnd i locked errors s) (State.Within b) := by
  refine ⟨_, rfl, ?_⟩
  split
  · exact h
  · refine State.Within.ite ?_ h
    split
    · exact h.trainGood
    · exact h.trainBad

theorem execFaxTrainLockTimeout_within (h : s.Within b) :
    nextHolds (execFaxTrainLockTimeout i s) (State.Within b) := by
  refine ⟨_, rfl, ?_⟩
  split
  · exact h
  · exact h.trainBad.ite h

theorem execFaxTrainOkReceived_within (h : s.Within b) : nextHolds (execFaxTrainOkReceived i s) (State.Within b) := by
  refine ⟨_, rfl, ?_⟩
  split
  · exact h
  · exact h.senderTrained.afterTraining.ite h

theorem execFaxTrainRetryReceived_within (h : s.Within b) :
    nextHolds (execFaxTrainRetryReceived i s) (State.Within b) := by
  refine ⟨_, rfl, ?_⟩
  split
  · exact h
  · exact h.retryTraining.ite h

theorem execFaxPageBegin_within (h : s.Within b) : nextHolds (execFaxPageBegin i s) (State.Within b) := by
  refine ⟨_, rfl, ?_⟩
  split
  · exact h
  · exact h.modFax.ite h

theorem execFaxPageDataSent_within (n : Nat) (h : s.Within b) :
    nextHolds (execFaxPageDataSent i n s) (State.Within b) := by
  refine ⟨_, rfl, ?_⟩
  split
  · exact h.remove.modFax.startFill.ite h
  · exact h

theorem execFaxSenderPageEnd_within (h : s.Within b) : nextHolds (execFaxSenderPageEnd i s) (State.Within b) := by
  refine ⟨_, rfl, ?_⟩
  split
  · refine State.Within.ite ?_ h
    split
    next hend => exact (h.reachedEnd hend).pageEnds
    · exact h
  · exact h

theorem execFaxFillExpiry_within (h : s.Within b) : nextHolds (execFaxFillExpiry i s) (State.Within b) := by
  refine ⟨_, rfl, ?_⟩
  split
  · exact h
  · exact h.endFax.ite h

theorem execFaxPageDataReceived_within (bytes : List Byte) (h : s.Within b) :
    nextHolds (execFaxPageDataReceived i bytes s) (State.Within b) := by
  refine ⟨_, rfl, ?_⟩
  split
  · exact h
  · exact h.ensurePage.modFax.receivePage.ite h

theorem execFaxErrorBurst_within (h : s.Within b) : nextHolds (execFaxErrorBurst i s) (State.Within b) :=
  ⟨_, rfl, h.modFax⟩

theorem execFaxPageCloseReceived_within (last again : Bool) (h : s.Within b) :
    nextHolds (execFaxPageCloseReceived i last again s) (State.Within b) := by
  refine ⟨_, rfl, ?_⟩
  split
  · exact h
  · refine h.ite ?_
    split
    · exact h.modFax
    · exact h.closeReceived.ite h

theorem execFaxVerdictReceived_within (v : Verdict) (stop : Bool) (q : Nat) (h : s.Within b) :
    nextHolds (execFaxVerdictReceived i v stop q s) (State.Within b) := by
  refine ⟨_, rfl, ?_⟩
  split
  · exact h
  · exact h.noteVerdict.actOnVerdict.ite h

theorem execFaxBlockFrameReceived_within (seq : Fin 32) (payload : List Byte) (h : s.Within b) :
    nextHolds (execFaxBlockFrameReceived i seq payload s) (State.Within b) := by
  refine ⟨_, rfl, ?_⟩
  split
  · exact h
  · exact h.ensureBlock.modFax.ite h

theorem execFaxBlockEndReceived_within (number count : Nat) (h : s.Within b) :
    nextHolds (execFaxBlockEndReceived i number count s) (State.Within b) := by
  refine ⟨_, rfl, ?_⟩
  split
  · exact h
  · exact (h.modFax.ite h.ensureBlock.answerBlock).ite h

theorem execFaxBlockMapReceived_within (number : Nat) (missing : List Nat) (h : s.Within b) :
    nextHolds (execFaxBlockMapReceived i number missing s) (State.Within b) := by
  refine ⟨_, rfl, ?_⟩
  split
  · exact h
  · exact h.actOnMap.ite h

theorem execFaxEndReceived_within (r : FaxRole) (h : s.Within b) :
    nextHolds (execFaxEndReceived i r s) (State.Within b) := by
  refine ⟨_, rfl, ?_⟩
  split
  · exact h
  · exact h.ite (h.cutOffPage.ite h).releaseFax

theorem execFaxEndTransmitted_within (r : FaxRole) (h : s.Within b) :
    nextHolds (execFaxEndTransmitted i r s) (State.Within b) := by
  refine ⟨_, rfl, ?_⟩
  split
  · exact h
  · exact h.releaseFax.ite h

theorem execFaxResponseWaitExpiry_within (r : FaxRole) (h : s.Within b) :
    nextHolds (execFaxResponseWaitExpiry i r s) (State.Within b) := by
  refine ⟨_, rfl, ?_⟩
  split
  · exact h
  split
  · exact h
  · exact (h.modFax.ite h.endFax).ite h

theorem execFaxReceiveWaitExpiry_within (h : s.Within b) :
    nextHolds (execFaxReceiveWaitExpiry i s) (State.Within b) := by
  refine ⟨_, rfl, ?_⟩
  split
  · exact h
  · exact h.endFax.ite h

/-! ## The Store Controller and the Voice Engine (R144, R148, R157 to R169) -/

theorem execGreetingEnd_within (h : s.Within b) : nextHolds (execGreetingEnd i s) (State.Within b) :=
  ⟨_, rfl, h.greetingOver.ite h⟩

theorem execRecordToneEnd_within (h : s.Within b) : nextHolds (execRecordToneEnd i s) (State.Within b) :=
  ⟨_, rfl, (h.modLine (by simp)).beginAutoRecording.ite h⟩

theorem execVoiceBytesCoded_within (bytes : List Byte) (h : s.Within b) :
    nextHolds (execVoiceBytesCoded i bytes s) (State.Within b) := by
  refine ⟨_, rfl, ?_⟩
  split
  · exact h
  · refine h.ite ?_
    dsimp only
    split
    · exact (h.modLine (by simp)).overrun
    · exact (h.append.modLine (by simp)).overrun

theorem execRecordMaxLength_within (h : s.Within b) : nextHolds (execRecordMaxLength i s) (State.Within b) := by
  refine ⟨_, rfl, ?_⟩
  split
  · exact h
  · exact h.finishRecording.ite h

theorem execRecordingComplete_within (h : s.Within b) : nextHolds (execRecordingComplete i s) (State.Within b) := by
  refine ⟨_, rfl, ?_⟩
  split
  · exact h
  · exact h.completeRecording.afterRecording

theorem execFaxWatchExpiry_within (h : s.Within b) : nextHolds (execFaxWatchExpiry i s) (State.Within b) :=
  ⟨_, rfl, h.modLine (by simp)⟩

theorem execPlayEntryEnd_within (h : s.Within b) : nextHolds (execPlayEntryEnd i s) (State.Within b) :=
  ⟨_, rfl, h.entryPlayed.ite h⟩

theorem execVoiceBytesDecoded_within (n : Nat) (h : s.Within b) :
    nextHolds (execVoiceBytesDecoded i n s) (State.Within b) := by
  refine ⟨_, rfl, ?_⟩
  split
  · exact h.modLine (by simp)
  · exact h.remove.modLine (by simp)

/-! ## The host link and the resets (R173 to R182) -/

theorem execPowerOn_within : nextHolds (execPowerOn s) (State.Within b) := by
  refine ⟨_, rfl, rfl, Nat.le_add_left 1 15, fun j => ?_, fun k => ?_, Nat.zero_le _, Nat.zero_le _⟩
  · simp [State.line, Line.atReset, NoticeQueue.fits]
  · exact fits_of_empty (by simp [State.reset, State.area]) (by simp [State.reset, State.area])

theorem execLineBreak_within (h : s.Within b) : nextHolds (execLineBreak s) (State.Within b) :=
  have hreset : ({ s.partReset with inBreak := true } : State).Within b := h.partReset
  ⟨_, rfl, h.ite hreset⟩

theorem execBreakEnd_within (h : s.Within b) : nextHolds (execBreakEnd s) (State.Within b) :=
  have hmark : ({ s with inBreak := false } : State).Within b := h
  ⟨_, rfl, hmark.ready.ite h⟩

theorem execInterByteGapExpiry_within (h : s.Within b) : nextHolds (execInterByteGapExpiry s) (State.Within b) :=
  ⟨_, rfl, h.badFrame.ite h⟩

theorem execUnknownDirective_within (code : Byte) (d : Directive) (h : s.Within Config.replyListMax) :
    nextHolds (execUnknownDirective code d s) (State.Within Config.replyListMax) :=
  ⟨_, rfl, h.ite (h.directive fun _ hu => hu)⟩

theorem execOutboundFrameChoice_within (h : s.Within b) :
    nextHolds (execOutboundFrameChoice s) (State.Within b) := by
  refine ⟨_, rfl, ?_⟩
  split
  · exact h
  next hout => exact h.choose (by simpa using hout)

theorem execOutboundFrameSent_within (h : s.Within b) : nextHolds (execOutboundFrameSent s) (State.Within b) := by
  refine ⟨_, rfl, ?_⟩
  split
  · exact h.frameSent
  · exact h

end Sys2Proof.Machine
end

section
/-! O57: every step keeps the invariant. -/

namespace Sys2Proof.Machine

variable {s : State}

theorem State.Within.exec (h : s.Within Config.replyListMax) (c : Instr) :
    nextHolds (Machine.exec c s) (State.Within Config.replyListMax) := by
  cases c with
  | powerOn => exact execPowerOn_within
  | partReset d => exact ⟨_, rfl, h.directive runPartReset_within⟩
  | lineBreak => exact execLineBreak_within h
  | breakEnd => exact execBreakEnd_within h
  | hostDirectiveFrame _ => exact ⟨_, rfl, h.feed⟩
  | hostLineDataFrame _ _ _ => exact ⟨_, rfl, h.feed⟩
  | hostPageEndFrame _ _ => exact ⟨_, rfl, h.feed⟩
  | hostStoreDataFrame _ => exact ⟨_, rfl, h.feed⟩
  | hostStoreEndFrame _ => exact ⟨_, rfl, h.feed⟩
  | hostFrameBad _ => exact ⟨_, rfl, h.feed⟩
  | interByteGapExpiry => exact execInterByteGapExpiry_within h
  | unknownDirective code d => exact execUnknownDirective_within code d h
  | outboundFrameChoice => exact execOutboundFrameChoice_within h
  | outboundFrameSent => exact execOutboundFrameSent_within h
  | lineEnable d => exact ⟨_, rfl, h.directive runLineEnable_within⟩
  | lineDisable d => exact ⟨_, rfl, h.directive runLineDisable_within⟩
  | lineReset d => exact ⟨_, rfl, h.directive runLineReset_within⟩
  | setProfile d => exact ⟨_, rfl, h.directive runSetProfile_within⟩
  | loadRingPatterns d => exact ⟨_, rfl, h.directive runLoadRingPatterns_within⟩
  | dial d => exact ⟨_, rfl, h.directive runDial_within⟩
  | hangUp d => exact ⟨_, rfl, h.directive runHangUp_within⟩
  | loopbackEnter d => exact ⟨_, rfl, h.directive runLoopback_within⟩
  | loopbackLeave d => exact ⟨_, rfl, h.directive runLoopback_within⟩
  | loopSignals d => exact ⟨_, rfl, h.directive runLoopSignals_within⟩
  | loadTones d => exact ⟨_, rfl, h.directive runLoadTones_within⟩
  | sendDigits d => exact ⟨_, rfl, h.directive runSendDigits_within⟩
  | routePut d => exact ⟨_, rfl, h.directive runRoutePut_within⟩
  | routeDrop d => exact ⟨_, rfl, h.directive runRouteDrop_within⟩
  | routeClear d => exact ⟨_, rfl, h.directive runRouteClear_within⟩
  | routeRead d => exact ⟨_, rfl, h.directive runRouteRead_within⟩
  | routeTest d => exact ⟨_, rfl, h.directive runRouteTest_within⟩
  | answer d => exact ⟨_, rfl, h.directive runAnswer_within⟩
  | reject d => exact ⟨_, rfl, h.directive runReject_within⟩
  | setClock d => exact ⟨_, rfl, h.directive runSetClock_within⟩
  | areaDefine d => exact ⟨_, rfl, h.directive runAreaDefine_within⟩
  | areaJoin d => exact ⟨_, rfl, h.directive runAreaJoin_within⟩
  | areaUnjoin d => exact ⟨_, rfl, h.directive runAreaUnjoin_within⟩
  | areaFlush d => exact ⟨_, rfl, h.directive runAreaFlush_within⟩
  | areaRead d => exact ⟨_, rfl, h.directive runAreaRead_within⟩
  | loadLadder d => exact ⟨_, rfl, h.directive runLoadLadder_within⟩
  | rateRequestTrial d => exact ⟨_, rfl, h.directive runRateRequest_within⟩
  | rateRequest d => exact ⟨_, rfl, h.directive runRateRequest_within⟩
  | qualityRead d => exact ⟨_, rfl, h.directive runQualityRead_within⟩
  | faxDocument d => exact ⟨_, rfl, h.directive runFaxDocument_within⟩
  | storeFormat d => exact ⟨_, rfl, h.directive runStoreFormat_within⟩
  | storeStatus d => exact ⟨_, rfl, h.directive runStoreStatus_within⟩
  | msgList d => exact ⟨_, rfl, h.directive runMsgList_within⟩
  | msgInfo d => exact ⟨_, rfl, h.directive runMsgInfo_within⟩
  | msgMark d => exact ⟨_, rfl, h.directive runMsgMark_within⟩
  | msgDelete d => exact ⟨_, rfl, h.directive runMsgDelete_within⟩
  | msgUpload d => exact ⟨_, rfl, h.directive runMsgUpload_within⟩
  | msgDownload d => exact ⟨_, rfl, h.directive runMsgDownload_within⟩
  | transferStop d => exact ⟨_, rfl, h.directive runTransferStop_within⟩
  | record d => exact ⟨_, rfl, h.directive runRecord_within⟩
  | play d => exact ⟨_, rfl, h.directive runPlay_within⟩
  | voiceStop d => exact ⟨_, rfl, h.directive runVoiceStop_within⟩
  | lineStatus d => exact ⟨_, rfl, h.directive runLineStatus_within⟩
  | ringInputChange l active => exact execRingInputChange_within l active h
  | ringQualified l => exact execRingQualified_within l h
  | burstTrailingEdge l => exact execBurstTrailingEdge_within l h
  | ringGapExpiry l => exact execRingGapExpiry_within l h
  | ringAbandonExpiry l => exact execRingAbandonExpiry_within l h
  | loopInputChange l present => exact execLoopInputChange_within l present h
  | loopDrop l => exact execLoopDrop_within l h
  | releaseGuardExpiry l => exact execReleaseGuardExpiry_within l h
  | dialToneWaitExpiry l => exact execDialToneWaitExpiry_within l h
  | awaitToneExpiry l => exact execAwaitToneExpiry_within l h
  | dtmfDigitOnEnd l => exact execDtmfDigitOnEnd_within l h
  | dtmfDigitOffEnd l => exact execDtmfDigitOffEnd_within l h
  | pulseBreakEnd l => exact execPulseBreakEnd_within l h
  | pulseMakeEnd l => exact execPulseMakeEnd_within l h
  | pulseInterdigitEnd l => exact execPulseInterdigitEnd_within l h
  | dialPauseEnd l => exact execDialPauseEnd_within l h
  | flashEnd l => exact execFlashEnd_within l h
  | answerWaitExpiry l => exact execAnswerWaitExpiry_within l h
  | toneDetectorChange l id on already => exact execToneDetectorChange_within l id on already h
  | cadencePeriodExpiry l id => exact execCadencePeriodExpiry_within l id h
  | continuousToneConfirm l id => exact execContinuousToneConfirm_within l id h
  | generatedToneEnd l => exact execGeneratedToneEnd_within l h
  | powerFrameEnd l power => exact execPowerFrameEnd_within l power h
  | dtmfPairChange l pair => exact execDtmfPairChange_within l pair h
  | dtmfPresenceExpiry l => exact execDtmfPresenceExpiry_within l h
  | dtmfAbsenceExpiry l => exact execDtmfAbsenceExpiry_within l h
  | cidMessageEnd l bits => exact execCidMessageEnd_within l bits h
  | cidWaitExpiry l => exact execCidWaitExpiry_within l h
  | classifyTimeExpiry l => exact execClassifyTimeExpiry_within l h
  | answerDropExpiry l => exact execAnswerDropExpiry_within l h
  | clockMinuteAdvance => exact execClockMinuteAdvance_within h
  | measurementRecord l r => exact execMeasurementRecord_within l r h
  | trainingRecord l r => exact execTrainingRecord_within l r h
  | trainingOutcome l locked => exact execTrainingOutcome_within l locked h
  | rateOkWaitExpiry l => exact execRateOkWaitExpiry_within l h
  | linkRateReceived l step => exact execLinkRateReceived_within l step h
  | linkRateOkReceived l step => exact execLinkRateOkReceived_within l step h
  | carrierChange l on => exact execCarrierChange_within l on h
  | carrierLossExpiry l => exact execCarrierLossExpiry_within l h
  | frameCheckFail _ => exact ⟨_, rfl, h⟩
  | capsReceived l c => exact execCapsReceived_within l c h
  | capsRepeatExpiry l => exact execCapsRepeatExpiry_within l h
  | exchangeTimerExpiry l => exact execExchangeTimerExpiry_within l h
  | dataAnswerToneEnd l => exact execDataAnswerToneEnd_within l h
  | linkDataReceived l seq ack payload => exact execLinkDataReceived_within l seq ack payload h
  | linkAckReceived l n => exact execLinkAckReceived_within l n h
  | linkResendReceived l seq => exact execLinkResendReceived_within l seq h
  | linkPauseReceived l => exact execLinkPauseReceived_within l h
  | linkResumeReceived l => exact execLinkResumeReceived_within l h
  | linkEndReceived l => exact execLinkEndReceived_within l h
  | linkEndOkReceived l => exact execLinkEndOkReceived_within l h
  | linkFrameFormed l => exact execLinkFrameFormed_within l h
  | linkFrameTransmitted l => exact execLinkFrameTransmitted_within l h
  | resendTimerExpiry l => exact execResendTimerExpiry_within l h
  | pauseTimerExpiry l => exact execPauseTimerExpiry_within l h
  | ackSpacingExpiry l => exact execAckSpacingExpiry_within l h
  | drainTimerExpiry l => exact execDrainTimerExpiry_within l h
  | endOkWaitExpiry l => exact execEndOkWaitExpiry_within l h
  | faxAnswerToneEnd l => exact execFaxAnswerToneEnd_within l h
  | faxCallToneExpiry l => exact execFaxCallToneExpiry_within l h
  | faxOfferReceived l rate res bc => exact execFaxOfferReceived_within l rate res bc h
  | faxChooseReceived l step res bc => exact execFaxChooseReceived_within l step res bc h
  | faxCheckEnd l locked errors => exact execFaxCheckEnd_within l locked errors h
  | faxTrainLockTimeout l => exact execFaxTrainLockTimeout_within l h
  | faxTrainOkReceived l => exact execFaxTrainOkReceived_within l h
  | faxTrainRetryReceived l => exact execFaxTrainRetryReceived_within l h
  | faxPageBegin l => exact execFaxPageBegin_within l h
  | faxSenderPageEnd l => exact execFaxSenderPageEnd_within l h
  | faxFillExpiry l => exact execFaxFillExpiry_within l h
  | faxErrorBurst l => exact execFaxErrorBurst_within l h
  | faxPageCloseReceived l last again => exact execFaxPageCloseReceived_within l last again h
  | faxVerdictReceived l v stop q => exact execFaxVerdictReceived_within l v stop q h
  | faxBlockFrameReceived l seq payload => exact execFaxBlockFrameReceived_within l seq payload h
  | faxBlockEndReceived l number count => exact execFaxBlockEndReceived_within l number count h
  | faxBlockMapReceived l number missing => exact execFaxBlockMapReceived_within l number missing h
  | faxEndReceived l role => exact execFaxEndReceived_within l role h
  | faxEndTransmitted l role => exact execFaxEndTransmitted_within l role h
  | faxResponseWaitExpiry l role => exact execFaxResponseWaitExpiry_within l role h
  | faxReceiveWaitExpiry l => exact execFaxReceiveWaitExpiry_within l h
  | storeBlockRequest => exact ⟨_, rfl, h.serveRequest⟩
  | storeStageWrite _ => exact ⟨_, rfl, h.stageWrite⟩
  | storeStageFill _ => exact ⟨_, rfl, h.stageFill⟩
  | greetingEnd l => exact execGreetingEnd_within l h
  | recordToneEnd l => exact execRecordToneEnd_within l h
  | recordMaxLength l => exact execRecordMaxLength_within l h
  | recordingComplete l => exact execRecordingComplete_within l h
  | faxWatchExpiry l => exact execFaxWatchExpiry_within l h
  | playEntryEnd l => exact execPlayEntryEnd_within l h
  | cidSynchronised l bits => exact execCidSynchronised_within l bits h
  | faxPageDataReceived l bytes => exact execFaxPageDataReceived_within l bytes h
  | faxPageDataSent l n => exact execFaxPageDataSent_within l n h
  | voiceBytesCoded l bytes => exact execVoiceBytesCoded_within l bytes h
  | voiceBytesDecoded l n => exact execVoiceBytesDecoded_within l n h

theorem State.Within.step (h : s.Within Config.replyListMax) :
    nextHolds (Machine.step s) (State.Within Config.replyListMax) := by
  unfold Machine.step
  split
  next c rest _ => exact State.Within.exec (s := { s with pending := rest }) h c
  · exact ⟨_, rfl, h⟩

/-- Settles O57: an update of a line, an area, a queue or the DRAM keeps its bound, each operation is made of such
updates, and a directive's block leaves room for its reply. -/
theorem stepKeepsWf : Obligations.StepKeepsWf := by
  unfold Obligations.StepKeepsWf
  intro s t hs hstep
  obtain ⟨u, hu, hwithin⟩ := (wf_iff_within.1 hs).step
  obtain rfl : u = t := Host.Outcome.next.inj (hu.symm.trans hstep)
  exact wf_iff_within.2 hwithin

end Sys2Proof.Machine
end

section
/-! SUPPORT. What an offer does to a notice queue, and what the arbiter takes from one (R177 to R180). -/

namespace Sys2Proof.Machine

variable {q : NoticeQueue} {a b : List Notice} {m m' n : Notice}

/-! ## The entry the arbiter takes (R177) -/

theorem priority_lt_ninetyNine (n : Notice) : n.priority < 99 := by
  cases n <;> simp [Notice.priority, Notice.kind, NoticeKind.priority]

theorem le_foldl_min_priority {v p : Nat} (hp : v ≤ p) (h : ∀ m ∈ a, v ≤ m.priority) :
    v ≤ a.foldl (fun p n => min p n.priority) p := by
  induction a generalizing p with
  | nil => exact hp
  | cons x a ih =>
    exact ih (le_min hp (h x List.mem_cons_self)) fun m hm => h m (List.mem_cons_of_mem _ hm)

theorem foldl_min_priority_self {p : Nat} (h : ∀ m ∈ b, p ≤ m.priority) :
    b.foldl (fun p n => min p n.priority) p = p := by
  induction b with
  | nil => rfl
  | cons x b ih =>
    rw [List.foldl_cons, min_eq_left (h x List.mem_cons_self)]
    exact ih fun m hm => h m (List.mem_cons_of_mem _ hm)

/-- An entry more urgent than those before it, and at least as urgent as those after, has the highest priority. -/
theorem highestPriority_split (ha : ∀ m ∈ a, n.priority < m.priority) (hb : ∀ m ∈ b, n.priority ≤ m.priority) :
    highestPriority (a ++ n :: b) = n.priority := by
  have hle : n.priority ≤ a.foldl (fun p n => min p n.priority) 99 :=
    le_foldl_min_priority (priority_lt_ninetyNine n).le fun m hm => (ha m hm).le
  rw [highestPriority, List.foldl_append, List.foldl_cons, min_eq_right hle]
  exact foldl_min_priority_self hb

/-- The first element of a list with a property is found, whatever follows it. -/
theorem find?_first {α : Type} {p : α → Bool} {xs ys : List α} {x : α} (h : ∀ y ∈ xs, p y = false) (hx : p x = true) :
    (xs ++ x :: ys).find? p = some x := by
  rw [List.find?_append, List.find?_eq_none.2 fun y hy => by simp [h y hy]]
  simp [hx]

/-- The first element of a list with a property is the one erased. -/
theorem eraseP_first {α : Type} {p : α → Bool} {xs ys : List α} {x : α} (h : ∀ y ∈ xs, p y = false) (hx : p x = true) :
    (xs ++ x :: ys).eraseP p = xs ++ ys := by
  rw [List.eraseP_append_right _ fun y hy => by simp [h y hy], List.eraseP_cons_of_pos hx]

/-- The arbiter takes the oldest entry of the highest priority, and the lost flag with it. -/
theorem take_oldest (hq : q.entries = a ++ n :: b) (ha : ∀ m ∈ a, n.priority < m.priority)
    (hb : ∀ m ∈ b, n.priority ≤ m.priority) : q.take? = some (n, q.lost, ⟨a ++ b, false⟩) := by
  have hfirst : ∀ m ∈ a, decide (m.priority = n.priority) = false := fun m hm => decide_eq_false (ha m hm).ne'
  rw [NoticeQueue.take?, hq, highestPriority_split ha hb, find?_first hfirst (decide_eq_true rfl),
    eraseP_first hfirst (decide_eq_true rfl)]

theorem take_of_empty (hq : q.entries = []) : q.take? = none := by
  simp [NoticeQueue.take?, hq]

/-! ## Coalescing (R179) -/

/-- Two notices of one of the seven coalescing kinds coalesce, and no others. -/
theorem merge_isSome_iff : (m.merge n).isSome = true ↔ m.kind = n.kind ∧
    n.kind ∈ [NoticeKind.linkFrameBad, .hostDataDropped, .lineOverrun, .ring, .digits, .flow, .signals] := by
  constructor
  · intro h
    unfold Notice.merge at h
    split at h
    case h_8 => cases h
    all_goals exact ⟨rfl, by simp [Notice.kind]⟩
  · rintro ⟨hkind, hmem⟩
    cases n <;> simp [Notice.kind] at hmem <;> cases m <;> cases hkind <;> rfl

/-- Notices of different kinds do not coalesce. -/
theorem merge_none_of_kind (h : m.kind ≠ n.kind) : m.merge n = none := by
  rw [← Option.not_isSome_iff_eq_none, merge_isSome_iff]
  exact fun hmerge => h hmerge.1

theorem mergeInto_first (ha : ∀ x ∈ a, x.merge n = none) (hm : m.merge n = some m') :
    mergeInto n (a ++ m :: b) = some (a ++ m' :: b) := by
  induction a with
  | nil => simp [mergeInto, hm]
  | cons x a ih =>
    simp [mergeInto, ha x List.mem_cons_self, ih fun y hy => ha y (List.mem_cons_of_mem _ hy)]

/-- A notice joins the waiting entry of its kind, in that entry's place. -/
theorem offer_coalesces (hq : q.entries = a ++ m :: b) (ha : ∀ x ∈ a, x.kind ≠ n.kind) (hm : m.merge n = some m') :
    q.offer n = ⟨a ++ m' :: b, q.lost⟩ := by
  rw [NoticeQueue.offer, hq, mergeInto_first (fun x hx => merge_none_of_kind (ha x hx)) hm]

/-- A FLOW list with one area's state replaced where the area stands in it, and added at the end otherwise. -/
theorem setFlowEntry_eq {l : List (AreaId × FlowState)} {k : AreaId} {f : FlowState} (h : (l.map Prod.fst).Nodup) :
    setFlowEntry k f l =
      if k ∈ l.map Prod.fst then l.map (fun p => if p.1 = k then (k, f) else p) else l ++ [(k, f)] := by
  induction l with
  | nil => rfl
  | cons p l ih =>
    obtain ⟨hp, hl⟩ := List.nodup_cons.1 (show (p.1 :: l.map Prod.fst).Nodup from h)
    by_cases hk : p.1 = k
    · have hrest : l.map (fun p => if p.1 = k then (k, f) else p) = l := by
        refine (List.map_congr_left fun r hr => if_neg fun hrk => hp ?_).trans (List.map_id' l)
        rw [hk, ← hrk]
        exact List.mem_map_of_mem hr
      simp [setFlowEntry, hk, hrest]
    · simp only [setFlowEntry, if_neg hk, ih hl, List.map_cons, List.mem_cons, Ne.symm hk, false_or]
      split <;> rfl

/-! ## Entering a queue (R180) -/

/-- A notice that coalesces with nothing is entered. -/
theorem offer_enters (h : ∀ m ∈ q.entries, m.merge n = none) : q.offer n = q.enter n := by
  rw [NoticeQueue.offer, mergeInto_none h]

theorem enter_room (h : q.entries.length < 16) : q.enter n = ⟨q.entries ++ [n], q.lost⟩ := if_pos h

/-- A notice offered to an empty queue waits alone. -/
theorem offer_alone (hq : q.entries = []) (n : Notice) : q.offer n = ⟨[n], q.lost⟩ := by
  rw [offer_enters (by simp [hq]), enter_room (by simp [hq]), hq, List.nil_append]

theorem foldl_max_priority_le {v p : Nat} (hp : p ≤ v) (h : ∀ m ∈ a, m.priority ≤ v) :
    a.foldl (fun p n => max p n.priority) p ≤ v := by
  induction a generalizing p with
  | nil => exact hp
  | cons x a ih =>
    exact ih (max_le hp (h x List.mem_cons_self)) fun m hm => h m (List.mem_cons_of_mem _ hm)

theorem foldl_max_priority_self {p : Nat} (h : ∀ m ∈ b, m.priority ≤ p) :
    b.foldl (fun p n => max p n.priority) p = p := by
  induction b with
  | nil => rfl
  | cons x b ih =>
    rw [List.foldl_cons, max_eq_left (h x List.mem_cons_self)]
    exact ih fun m hm => h m (List.mem_cons_of_mem _ hm)

/-- An entry less urgent than those before it, and at most as urgent as those after, has the lowest priority. -/
theorem lowestPriority_split (ha : ∀ x ∈ a, x.priority < m.priority) (hb : ∀ x ∈ b, x.priority ≤ m.priority) :
    lowestPriority (a ++ m :: b) = m.priority := by
  have hle : a.foldl (fun p n => max p n.priority) 0 ≤ m.priority :=
    foldl_max_priority_le (Nat.zero_le _) fun x hx => (ha x hx).le
  rw [lowestPriority, List.foldl_append, List.foldl_cons, max_eq_right hle]
  exact foldl_max_priority_self hb

/-- A full queue drops its oldest entry of the lowest priority for a notice at least as urgent, and else the notice. -/
theorem enter_full (hfull : 16 ≤ q.entries.length) (hq : q.entries = a ++ m :: b)
    (ha : ∀ x ∈ a, x.priority < m.priority) (hb : ∀ x ∈ b, x.priority ≤ m.priority) :
    q.enter n = if n.priority ≤ m.priority then ⟨a ++ b ++ [n], true⟩ else ⟨q.entries, true⟩ := by
  have hfirst : ∀ x ∈ a, decide (x.priority = m.priority) = false := fun x hx => decide_eq_false (ha x hx).ne
  rw [NoticeQueue.enter, if_neg (show ¬ q.entries.length < Config.noticeQueueMax from Nat.not_lt.2 hfull), hq,
    lowestPriority_split ha hb, eraseP_first hfirst (decide_eq_true rfl)]

end Sys2Proof.Machine
end

section
/-! SUPPORT. The arbiter's frames (R69, R111, R152, R154, R177): the source it serves, and what serving leaves. -/

namespace Sys2Proof.Machine

variable {s : State} {i : LineId} {k : AreaId}

/-! ## The source served (R177) -/

theorem exec_choice_of_free (h : s.outFrame = none) : exec .outboundFrameChoice s = .next s.choose := by
  rw [exec_outboundFrameChoice, execOutboundFrameChoice, h]
  rfl

theorem exec_choice_of_busy {f : OutFrame} (h : s.outFrame = some f) : exec .outboundFrameChoice s = .next s := by
  rw [exec_outboundFrameChoice, execOutboundFrameChoice, h]
  rfl

theorem exec_sent {f : OutFrame} (h : s.outFrame = some f) : exec .outboundFrameSent s = .next (s.frameSent f) := by
  rw [exec_outboundFrameSent, execOutboundFrameSent, h]

theorem choose_reply {r : Reply} {rest : List Reply} (h : s.replies = r :: rest) :
    s.choose = { s with replies := rest, outFrame := some ⟨0, 2, r.payload, .reply (resets r.code r.status)⟩ } := by
  rw [State.choose, h]
  rfl

theorem choose_partNotice {n : Notice} {lost : Bool} {q : NoticeQueue} (hrep : s.replies = [])
    (htake : s.partQueue.take? = some (n, lost, q)) :
    s.choose = { s with partQueue := q, outFrame := some ⟨0, 3, n.payload 0x0E lost, .partNotice⟩ } := by
  simp only [State.choose, hrep, htake]
  rfl

theorem choose_lineNotice {n : Notice} {lost : Bool} {q : NoticeQueue} (hrep : s.replies = [])
    (hpart : s.partQueue.entries = []) (hline : s.noticeLine (linesAfter s.lastLine) = some i)
    (htake : (s.line i).queue.take? = some (n, lost, q)) :
    s.choose = { s.modLine i (fun l => { l with queue := q }) with
      lastLine := i, outFrame := some ⟨0, 3, n.payload (byte i.val) lost, .lineNotice i⟩ } := by
  simp only [State.choose, hrep, take_of_empty hpart, hline, htake]
  rfl

/-- The first line of an order with an entry waiting. -/
theorem noticeLine_first {before after : List LineId} (hbefore : ∀ j ∈ before, (s.line j).queue.entries = [])
    (hi : (s.line i).queue.entries ≠ []) : s.noticeLine (before ++ i :: after) = some i :=
  find?_first (fun j hj => by simp [hbefore j hj]) (by simpa using hi)

/-- Nothing but data may be offered: no reply and no notice waits. -/
structure State.Quiet (s : State) : Prop where
  replies : s.replies = []
  part : s.partQueue.entries = []
  lines : ∀ j, (s.line j).queue.entries = []

theorem State.Quiet.choose_eq (h : s.Quiet) :
    s.choose = (((sourcesAfter s.lastSource).find? s.offers).map fun d =>
      ({ s with lastSource := d } : State).serveSource d).getD s := by
  have hnone : ∀ ls, s.noticeLine ls = none := fun ls => List.find?_eq_none.2 fun j _ => by simp [h.lines j]
  simp only [State.choose, h.replies, take_of_empty h.part, hnone]
  cases (sourcesAfter s.lastSource).find? s.offers <;> rfl

/-- The first source of the order that offers a frame is served. -/
theorem State.Quiet.choose_first {d : DataSource} {before after : List DataSource} (h : s.Quiet)
    (horder : sourcesAfter s.lastSource = before ++ d :: after) (hbefore : ∀ e ∈ before, s.offers e = false)
    (hd : s.offers d = true) : s.choose = ({ s with lastSource := d } : State).serveSource d := by
  rw [h.choose_eq, horder, find?_first hbefore hd]
  rfl

theorem State.Quiet.choose_none (h : s.Quiet) (hnone : ∀ x, s.offers x = false) : s.choose = s := by
  rw [h.choose_eq, List.find?_eq_none.2 fun x _ => by simp [hnone x]]
  rfl

/-! ## An RX area (R69) -/

theorem offers_rx (hk : s.joined i .rx = some k) :
    s.offers (.rx i) = (decide (0 < (s.area k).occupancy) || (s.area k).headMark.isSome) := by
  simp only [State.offers, hk]

theorem serveRx_mark {m : PageMark} (hk : s.joined i .rx = some k) (hm : (s.area k).headMark = some m) :
    s.serveRx i = ((s.takeMark k).addHeldMark i).sendFrame ⟨i.val + 1, 3, [if m = .more then 0 else 1], .rx i⟩ := by
  simp only [State.serveRx, hk, hm]

theorem serveRx_bytes (hk : s.joined i .rx = some k) (hm : (s.area k).headMark = none) :
    s.serveRx i = ((s.remove k 255).2.checkResume i).sendFrame
      ⟨i.val + 1, (s.area k).content.wireKind, (s.remove k 255).1, .rx i⟩ := by
  simp only [State.serveRx, hk, hm]

/-- The Fax Engine holds no mark: none is added. -/
theorem addHeldMark_none (h : (s.line i).fax.heldMark = none) : s.addHeldMark i = s := by
  simp only [State.addHeldMark, h]

/-- A removal ends before the first mark. -/
theorem removable_to_mark {a : Area} {c n : Nat} (hn : n = min c ((a.marks.head?.map Prod.fst).getD a.fifo.length))
    (hle : n ≤ a.fifo.length) : a.removable c = n := by
  unfold Area.removable Area.occupancy
  split
  · rename_i p v rest hmarks
    simp only [hmarks, List.head?_cons, Option.map_some, Option.getD_some] at hn
    omega
  · rename_i hmarks
    simpa [hmarks] using hn.symm

theorem headMark_none {a : Area} {c n : Nat} (hn : n = min c ((a.marks.head?.map Prod.fst).getD a.fifo.length))
    (hpos : 0 < n) : a.headMark = none := by
  unfold Area.headMark
  split
  · rename_i v rest hmarks
    simp [hmarks] at hn
    omega
  · rfl

/-! ## A removal from an area joined to a line (R66, R67) -/

theorem setFlow_apart (hjoin : ∀ j p, (s.area k).join = some (j, p) → j = i) (f : FlowState) :
    (s.setFlow k f).apart i = s.apart i := by
  unfold State.setFlow
  split_ifs
  · rfl
  · dsimp only
    split
    · rename_i hj
      obtain rfl := hjoin _ _ (by simpa using hj)
      simp
    · simp

@[simp] theorem setFlow_silent (s : State) (i : LineId) (k : AreaId) (f : FlowState) :
    ((s.setFlow k f).line i).silent = (s.line i).silent := by
  unfold State.setFlow
  split_ifs
  · rfl
  · dsimp only
    split <;> simp

theorem remove_apart {p : Purpose} (hjoin : (s.area k).join = some (i, p)) (n : Nat) :
    (s.remove k n).2.apart i = s.apart i := by
  unfold State.remove
  dsimp only
  split_ifs
  · rfl
  · exact setFlow_apart (fun j p' hj => by simp [hjoin] at hj; exact hj.1.symm) _

@[simp] theorem remove_silent (s : State) (i : LineId) (k : AreaId) (n : Nat) :
    ((s.remove k n).2.line i).silent = (s.line i).silent := by
  unfold State.remove
  dsimp only
  split_ifs <;> simp

@[simp] theorem remove_join (s : State) (k b : AreaId) (n : Nat) :
    ((s.remove k n).2.area b).join = (s.area b).join := by
  by_cases hb : b = k
  · subst hb
    unfold State.remove
    dsimp only
    split_ifs <;> simp [setFlow_area_here]
  · rw [remove_area_ne s k b n hb]

@[simp] theorem remove_joined (s : State) (i : LineId) (k : AreaId) (n : Nat) (p : Purpose) :
    (s.remove k n).2.joined i p = s.joined i p := by
  simp only [State.joined, remove_join]

/-! ## The end of the line's own pause (R111) -/

/-- The transmitter's choice leaves the line's own pause as it is. -/
theorem link_choose_localPaused {steady : Bool} {c k : Link} {f : LinkFrame} (h : k.choose steady = some (f, c)) :
    c.localPaused = k.localPaused := by
  unfold Link.choose at h
  repeat' split at h
  all_goals cases h <;> rfl

/-- The transmitter changes the link of its line alone. -/
theorem kick_eq (now : Ms) (l : Line) : l.kick now = { l with link := (l.kick now).link } := by
  unfold Line.kick
  split_ifs
  · rfl
  · split
    · rfl
    · dsimp only
      split
      · unfold Line.noteData
        dsimp only
        split_ifs <;> rfl
      · rfl

theorem noteData_localPaused (now : Ms) (seq : Nat) (l : Line) :
    (l.noteData now seq).link.localPaused = l.link.localPaused := by
  unfold Line.noteData
  dsimp only
  split_ifs <;> rfl

theorem kick_localPaused (now : Ms) (l : Line) : (l.kick now).link.localPaused = l.link.localPaused := by
  unfold Line.kick
  split_ifs
  · rfl
  · split
    · rfl
    · rename_i f c hc
      dsimp only
      split
      · rw [noteData_localPaused]
        exact (link_choose_localPaused hc :)
      · exact (link_choose_localPaused hc :)

/-- A line whose own pause ends: RESUME waits to be sent. -/
def Line.resumed (l : Line) : Line :=
  { l with link := { l.link with localPaused := false, pauseWait := l.link.pauseWait ++ [.resume] } }

theorem checkResume_stays (hk : s.joined i .rx = some k)
    (h : (s.line i).link.localPaused = false ∨ (s.area k).low < (s.area k).occupancy) : s.checkResume i = s := by
  simp only [State.checkResume, hk]
  refine if_neg ?_
  rintro ⟨hpaused, hlow⟩
  rcases h with h | h
  · simp [h] at hpaused
  · omega

theorem checkResume_resumes (hk : s.joined i .rx = some k) (hpaused : (s.line i).link.localPaused = true)
    (hlow : (s.area k).occupancy ≤ (s.area k).low) :
    s.checkResume i = s.modLine i (fun l => l.resumed.kick s.now) := by
  simp only [State.checkResume, hk]
  exact if_pos ⟨hpaused, hlow⟩

theorem checkResume_without (s : State) (i : LineId) : (s.checkResume i).without i = s.without i := by
  unfold State.checkResume
  split
  · rfl
  · split_ifs <;> simp

/-- The line after its RX area has been looked at: only its link may have changed. -/
theorem checkResume_line_eq (s : State) (i : LineId) :
    (s.checkResume i).line i = { s.line i with link := ((s.checkResume i).line i).link } := by
  unfold State.checkResume
  split
  · rfl
  · split_ifs
    · rw [line_modLine_same]
      exact kick_eq s.now (s.line i).resumed
    · rfl

/-- The pause ends, and a busy transmitter has RESUME waiting. -/
theorem checkResume_resumed (hk : s.joined i .rx = some k) (hpaused : (s.line i).link.localPaused = true)
    (hlow : (s.area k).occupancy ≤ (s.area k).low) :
    ((s.checkResume i).line i).link.localPaused = false ∧ ((s.line i).link.txNow.isSome = true →
      ((s.checkResume i).line i).link.pauseWait = (s.line i).link.pauseWait ++ [.resume]) := by
  rw [checkResume_resumes hk hpaused hlow, line_modLine_same]
  refine ⟨kick_localPaused s.now (s.line i).resumed, fun hbusy => ?_⟩
  obtain ⟨f, hf⟩ := Option.isSome_iff_exists.1 hbusy
  rw [kick_busy (l := (s.line i).resumed) s.now hf]
  rfl

/-! ## The two frames of an RX area -/

theorem State.Quiet.choose_pageMark {before after : List DataSource} {m : PageMark} {ms : List (Nat × PageMark)}
    (h : s.Quiet) (horder : sourcesAfter s.lastSource = before ++ .rx i :: after)
    (hbefore : ∀ e ∈ before, s.offers e = false) (hk : s.joined i .rx = some k) (hm : (s.area k).marks = (0, m) :: ms)
    (hheld : (s.line i).fax.heldMark = none) :
    s.choose = { s.setArea k { s.area k with marks := ms } with
      lastSource := .rx i, outFrame := some ⟨i.val + 1, 3, [if m = .more then 0 else 1], .rx i⟩ } := by
  have hhead : (s.area k).headMark = some m := by simp only [Area.headMark, hm]
  rw [h.choose_first horder hbefore (by rw [offers_rx hk, hhead, Option.isSome_some, Bool.or_true]), State.serveSource,
    serveRx_mark (s := { s with lastSource := .rx i }) hk hhead,
    addHeldMark_none (s := ({ s with lastSource := .rx i } : State).takeMark k) hheld]
  rw [show ms = (s.area k).marks.tail by rw [hm]; rfl]
  rfl

/-- Up to 255 bytes go, and what goes ends before the next page mark. -/
theorem State.Quiet.choose_rxBytes {before after : List DataSource} {n : Nat} (h : s.Quiet)
    (horder : sourcesAfter s.lastSource = before ++ .rx i :: after) (hbefore : ∀ e ∈ before, s.offers e = false)
    (hk : s.joined i .rx = some k)
    (hn : n = min 255 (((s.area k).marks.head?.map Prod.fst).getD (s.area k).fifo.length))
    (hpos : 0 < n) (hle : n ≤ (s.area k).fifo.length) :
    s.choose = ((({ s with lastSource := .rx i } : State).remove k 255).2.checkResume i).sendFrame
      ⟨i.val + 1, (s.area k).content.wireKind, ((s.area k).fifo.take n).map Prod.fst, .rx i⟩ := by
  have hhead : (s.area k).headMark = none := headMark_none hn hpos
  obtain ⟨-, -, -, hbytes⟩ := remove_area ({ s with lastSource := .rx i } : State) k 255
  have hremovable : (({ s with lastSource := .rx i } : State).area k).removable 255 = n := removable_to_mark hn hle
  rw [hremovable] at hbytes
  rw [h.choose_first horder hbefore (by rw [offers_rx hk, Area.occupancy, decide_eq_true (hpos.trans_le hle),
      Bool.true_or]), State.serveSource, serveRx_bytes (s := { s with lastSource := .rx i }) hk hhead, hbytes]
  rfl

end Sys2Proof.Machine
end

section
/-! O9: the outbound arbiter and the notice queues. -/

namespace Sys2Proof.Machine

variable {s : State} {i : LineId} {k : AreaId}

/-! ## A frame of bytes from an RX area -/

/-- A removal of `n` bytes from the RX area of a line, and the look at the line's own pause after it. -/
theorem rxBytes_leave {n : Nat} {u t : State} (hu : u = (s.remove k 255).2) (ht : t = u.checkResume i)
    (hk : s.joined i .rx = some k) (hn : (s.area k).removable 255 = n) (hpos : 0 < n) :
    t = { s with areas := t.areas, lines := t.lines } ∧
    t.area k = { s.area k with
      fifo := (s.area k).fifo.drop n, marks := (s.area k).marks.map (fun q => (q.1 - n, q.2))
      flow := if (s.area k).flow = .stop ∧ (s.area k).fifo.length - n ≤ (s.area k).low then .go
        else (s.area k).flow } ∧
    (∀ j, j ≠ k → t.area j = s.area j) ∧
    t.line i = { s.line i with queue := (t.line i).queue, link := (t.line i).link } ∧
    ((s.line i).link.localPaused = false ∨ (s.area k).low < (s.area k).fifo.length - n →
      (t.line i).link = (s.line i).link) ∧
    ((s.line i).link.localPaused = true → (s.area k).fifo.length - n ≤ (s.area k).low →
      (t.line i).link.localPaused = false ∧ ((s.line i).link.txNow.isSome = true →
        (t.line i).link.pauseWait = (s.line i).link.pauseWait ++ [.resume])) ∧ othersSame i s t := by
  have hjoined : u.joined i .rx = some k := by rw [hu, remove_joined, hk]
  have hapart : t.apart i = s.apart i := by
    rw [ht, apart_of_without (checkResume_without u i), hu, remove_apart (joined_join hk)]
  have hareas : t.areas = u.areas := by rw [ht, areas_of_without (checkResume_without u i)]
  have hline : u.line i = { s.line i with queue := (u.line i).queue } :=
    eq_of_silent (by rw [hu, remove_silent])
  have hlink : (u.line i).link = (s.line i).link := by rw [hline]
  have hqueue : (t.line i).queue = (u.line i).queue := by rw [ht, checkResume_line_eq]
  have harea : t.area k = _ := (congrArg (·[k]) hareas).trans (hu ▸ remove_area_eq s k hn hpos)
  have hocc : (u.area k).occupancy = (s.area k).fifo.length - n := by
    rw [hu, Area.occupancy, remove_area_eq s k hn hpos, List.length_drop]
  have hlow : (u.area k).low = (s.area k).low := by rw [hu, remove_area_eq s k hn hpos]
  refine ⟨?_, harea, fun j hj => ?_, ?_, fun hstay => ?_, fun hpaused hle => ?_, othersSame_of_apart hapart⟩
  · exact eq_of_apart hapart
  · exact (congrArg (·[j]) hareas).trans (hu ▸ remove_area_ne s k j 255 hj)
  · rw [hqueue]
    exact (ht ▸ checkResume_line_eq u i).trans (congrArg (fun l : Line => { l with link := (t.line i).link }) hline)
  · rw [ht, checkResume_stays hjoined (by rwa [hlink, hocc, hlow]), hlink]
  · rw [← hlink] at hpaused ⊢
    rw [ht]
    exact checkResume_resumed hjoined hpaused (by rwa [hocc, hlow])

/-! ## A frame of an upload, and a frame sent -/

theorem serveTransfer_upload {id pos : Nat} {e : Entry} (ht : s.store.transfer = .upload id pos)
    (he : s.entry? id = some e) : s.serveTransfer = if pos < e.length then
      { s with
        store := { s.store with transfer := .upload id (pos + min 255 (e.length - pos)) }
        outFrame := some ⟨5, 1, s.readEntry e pos (min 255 (e.length - pos)), .upload⟩ }
      else { s with outFrame := some ⟨5, 2, [], .uploadEnd⟩ } := by
  simp only [State.serveTransfer, ht, he]
  rfl

theorem frameSent_other {f : OutFrame} (hreset : f.source ≠ .reply true) (hend : f.source ≠ .uploadEnd) :
    s.frameSent f = { s with outFrame := none } := by
  unfold State.frameSent
  dsimp only
  split
  · contradiction
  · contradiction
  · rfl

theorem frameSent_uploadEnd {f : OutFrame} {id pos : Nat} (hf : f.source = .uploadEnd)
    (ht : s.store.transfer = .upload id pos) :
    s.frameSent f = ({ s with outFrame := none } : State).endUpload id .done := by
  simp only [State.frameSent, hf, ht]

/-- The entry of an upload that ends is no longer marked. -/
theorem endUpload_mark {id : Nat} {why : TransferEnd} {e : Entry} (h : (s.endUpload id why).entry? id = some e) :
    e.uploading = false := by
  have hmap : (s.endUpload id why).entry? id = (s.entry? id).map (fun e => { e with uploading := false }) :=
    entry_modEntry_same s id (fun e => { e with uploading := false }) fun _ => rfl
  obtain ⟨_, -, rfl⟩ := Option.map_eq_some_iff.1 (hmap.symm.trans h)
  rfl

/-! ## The obligation -/

/-- Settles O9: each source of a frame is served by the branch of the arbiter that the empty sources before it leave,
and an offer to a queue is settled by where its first mergeable, or its first lowest, entry stands. -/
theorem outboundArbiter : Obligations.OutboundArbiter := by
  unfold Obligations.OutboundArbiter
  refine ⟨?_, ?_, ?_, ?_, ?_, ?_, ?_, ?_, ?_, ?_, ?_, ?_, ?_, ?_, ?_, ?_, ?_⟩
  · intro s r rest hfree hrep
    exact ⟨_, (exec_choice_of_free hfree).trans (congrArg _ (choose_reply hrep)), rfl, rfl, rfl, rfl, rfl, rfl, rfl⟩
  · intro s n hfree hrep hpart
    have htake := take_oldest (a := []) (b := []) hpart (by simp) (by simp)
    exact ⟨_, (exec_choice_of_free hfree).trans (congrArg _ (choose_partNotice hrep htake)), rfl, rfl, rfl, rfl, rfl⟩
  · intro s f hbusy
    exact exec_choice_of_busy hbusy
  · intro s f hbusy hreset hend
    exact (exec_sent hbusy).trans (congrArg _ (frameSent_other hreset hend))
  · intro s f id pos hbusy hf ht hpart
    exact ⟨_, (exec_sent hbusy).trans (congrArg _ (frameSent_uploadEnd hf ht)), rfl, rfl,
      congrArg NoticeQueue.entries (offer_alone hpart _), rfl, fun e he => endUpload_mark he⟩
  · intro s i n before after a b hfree hrep hpart horder hbefore hqueue ha hb
    have hline : s.noticeLine (linesAfter s.lastLine) = some i :=
      (congrArg s.noticeLine horder).trans (noticeLine_first hbefore (by simp [hqueue]))
    exact (exec_choice_of_free hfree).trans
      (congrArg _ (choose_lineNotice hrep hpart hline (take_oldest hqueue ha hb)))
  · intro s i k before after m ms hfree hrep hpart hlines horder hbefore hk hm hheld
    have hquiet : s.Quiet := ⟨hrep, hpart, hlines⟩
    exact (exec_choice_of_free hfree).trans (congrArg _ (hquiet.choose_pageMark horder hbefore hk hm hheld))
  · intro s i k before after n hfree hrep hpart hlines horder hbefore hk hn hpos hle
    have hquiet : s.Quiet := ⟨hrep, hpart, hlines⟩
    obtain ⟨hstate, hleft⟩ := rxBytes_leave (s := { s with lastSource := .rx i }) rfl rfl hk
      (removable_to_mark hn hle) hpos
    exact ⟨_, (exec_choice_of_free hfree).trans (congrArg _ (hquiet.choose_rxBytes horder hbefore hk hn hpos hle)),
      congrArg (State.sendFrame · _) hstate, rfl, hleft⟩
  · intro s id pos e before after hfree hrep hpart hlines horder hbefore ht he
    have hquiet : s.Quiet := ⟨hrep, hpart, hlines⟩
    have hoffers : s.offers .channel5 = true := by simp only [State.offers, ht]
    rw [exec_choice_of_free hfree, hquiet.choose_first horder hbefore hoffers, State.serveSource,
      serveTransfer_upload (s := { s with lastSource := .channel5 }) ht he]
    rfl
  · intro s hfree hrep hpart hlines hnone
    have hquiet : s.Quiet := ⟨hrep, hpart, hlines⟩
    rw [exec_choice_of_free hfree, hquiet.choose_none hnone]
  · exact ⟨rfl, rfl, rfl, rfl, rfl⟩
  · intro q n m m' a b hq ha hm
    exact offer_coalesces hq ha hm
  · intro m n
    exact merge_isSome_iff
  · intro a b c d x y o p u v
    exact ⟨rfl, rfl, rfl, rfl, rfl, rfl⟩
  · intro l k f h
    exact congrArg (fun l => some (Notice.flow l)) (setFlowEntry_eq h)
  · intro q n hroom hnone
    rw [offer_enters hnone, enter_room hroom]
  · intro q n m a b hfull hq hnone ha hb
    rw [offer_enters hnone, enter_full hfull hq ha hb]

end Sys2Proof.Machine
end

section
/-! SUPPORT. The quality arithmetic and the ladder searches (R75 to R77, R84, R99): each search finds the highest value
that its rule allows. -/

namespace Sys2Proof.Machine

/-! ## The interval quality (R75) -/

variable {es ee k n : Nat}

theorem qiUpTo_le (es ee n : Nat) : qiUpTo es ee n ≤ n := by
  induction n with
  | zero => exact le_rfl
  | succ n ih =>
    unfold qiUpTo
    split
    · exact le_rfl
    · exact ih.trans n.le_succ

/-- No k that the rule allows is above the one found. -/
theorem le_qiUpTo (hk : k ≤ n) (h : ee ^ 40 * 10 ^ k ≤ es ^ 40) : k ≤ qiUpTo es ee n := by
  induction n with
  | zero => exact hk
  | succ n ih =>
    unfold qiUpTo
    split_ifs with hn
    · exact hk
    · refine ih (Nat.le_of_lt_succ (lt_of_le_of_ne hk ?_))
      rintro rfl
      exact hn h

/-- The k found is one that the rule allows, where it allows 0. -/
theorem qiUpTo_allowed (h : ee ≤ es) (n : Nat) : ee ^ 40 * 10 ^ qiUpTo es ee n ≤ es ^ 40 := by
  induction n with
  | zero => simpa [qiUpTo] using Nat.pow_le_pow_left h 40
  | succ n ih =>
    unfold qiUpTo
    split_ifs with hn
    · exact hn
    · exact ih

/-- An error as strong as the signal leaves no quality. -/
theorem qiUpTo_eq_zero (h : es ≤ ee) (hee : ee ≠ 0) (n : Nat) : qiUpTo es ee n = 0 := by
  have hpow : es ^ 40 ≤ ee ^ 40 := Nat.pow_le_pow_left h 40
  have hpos : 0 < ee ^ 40 := Nat.pow_pos (Nat.pos_of_ne_zero hee)
  induction n with
  | zero => rfl
  | succ n ih =>
    have hten : 1 < 10 ^ (n + 1) := Nat.one_lt_pow n.succ_ne_zero (by decide)
    have hbig : ee ^ 40 * 1 < ee ^ 40 * 10 ^ (n + 1) := Nat.mul_lt_mul_of_pos_left hten hpos
    unfold qiUpTo
    rw [if_neg (by omega), ih]

theorem intervalQuality_eq_top {r : MeasRecord} (h : r.ee ^ 40 * 10 ^ 160 ≤ r.es ^ 40) : intervalQuality r = 160 :=
  le_antisymm (qiUpTo_le _ _ _) (le_qiUpTo le_rfl h)

/-- A signal ten thousand times the error has the greatest quality: 10^160 is the fortieth power of 10000. -/
theorem top_of_strong {r : MeasRecord} (h : 10000 * r.ee ≤ r.es) : r.ee ^ 40 * 10 ^ 160 ≤ r.es ^ 40 := by
  have hpow : (10000 * r.ee) ^ 40 ≤ r.es ^ 40 := Nat.pow_le_pow_left h 40
  rwa [Nat.mul_pow, show (10000 : Nat) ^ 40 = 10 ^ 160 by norm_num, Nat.mul_comm] at hpow

/-! ## The score and the accumulator (R76, R77) -/

theorem score_cast (r : MeasRecord) (penalty : Nat) : (score r penalty : Int) =
    max 0 ((intervalQuality r : Int) - (penalty : Int) * (min r.hits 12 : Nat)) := by
  rw [score, ← Nat.cast_mul]
  omega

/-- A is at most 1280 with Q and the score at most 160, and settles where Q is the score. -/
theorem accumulate_bounds {a sc : Nat} (ha : a ≤ 1280) (hsc : sc ≤ 160) : accumulate a sc ≤ 1280 ∧
    accumulate a sc / 8 ≤ 160 ∧ (accumulate a sc = a ↔ a / 8 = sc) := by
  unfold accumulate
  omega

/-! ## The ladder searches (R84, R99) -/

variable {ladder : List LadderStep} {floor q rate j : Nat}

/-- The step found is the floor, or one in reach whose D allows it. -/
theorem bestStep_cases (ladder : List LadderStep) (floor q n : Nat) : bestStep ladder floor q n = floor ∨
    floor ≤ bestStep ladder floor q n ∧ bestStep ladder floor q n < n ∧
      (ladderStep ladder (bestStep ladder floor q n)).d ≤ q := by
  induction n with
  | zero => exact .inl rfl
  | succ n ih =>
    unfold bestStep
    split_ifs with h
    · exact .inr ⟨h.1, n.lt_succ_self, h.2⟩
    · exact ih.imp_right fun ⟨hfloor, hlt, hd⟩ => ⟨hfloor, hlt.trans n.lt_succ_self, hd⟩

/-- No step above the one found has a D that allows it. -/
theorem lt_d_of_bestStep_lt (h : bestStep ladder floor q n < j) (hj : j < n) : q < (ladderStep ladder j).d := by
  induction n with
  | zero => exact absurd hj j.not_lt_zero
  | succ n ih =>
    unfold bestStep at h
    split_ifs at h with hn
    · omega
    · rcases Nat.lt_succ_iff_lt_or_eq.1 hj with hlt | rfl
      · exact ih h hlt
      · have hfloor : floor ≤ bestStep ladder floor q j := by
          rcases bestStep_cases ladder floor q j with heq | ⟨hle, -⟩
          · exact heq.ge
          · exact hle
        exact not_le.1 fun hd => hn ⟨hfloor.trans h.le, hd⟩

/-- The step found is the highest in reach whose rate is within the rate given. -/
theorem highestRate_eq_some_iff : highestRate ladder rate n = some j ↔ j < n ∧ j < ladder.length ∧
    (ladderStep ladder j).rate ≤ rate ∧
    ∀ m, j < m → m < n → m < ladder.length → rate < (ladderStep ladder m).rate := by
  induction n with
  | zero => simp [highestRate]
  | succ n ih =>
    unfold highestRate
    split_ifs with h
    · obtain ⟨hlen, hrate⟩ := h
      rw [Option.some_inj]
      constructor
      · rintro rfl
        exact ⟨n.lt_succ_self, hlen, hrate, fun m hm hm' _ => by omega⟩
      · rintro ⟨hj, -, -, habove⟩
        by_contra hne
        exact absurd hrate (not_le.2 (habove n (by omega) n.lt_succ_self hlen))
    · rw [ih]
      constructor
      · rintro ⟨hj, hlen, hrate, habove⟩
        refine ⟨hj.trans n.lt_succ_self, hlen, hrate, fun m hm hm' hmlen => ?_⟩
        rcases Nat.lt_succ_iff_lt_or_eq.1 hm' with hlt | rfl
        · exact habove m hm hlt hmlen
        · exact not_le.1 fun hle => h ⟨hmlen, hle⟩
      · rintro ⟨hj, hlen, hrate, habove⟩
        have hne : j ≠ n := by
          rintro rfl
          exact h ⟨hlen, hrate⟩
        exact ⟨by omega, hlen, hrate, fun m hm hm' => habove m hm (hm'.trans n.lt_succ_self)⟩

/-- Settles O36: the fall-back target by `bestStep_cases` and `lt_d_of_bestStep_lt`, the agreed ceiling by
`highestRate_eq_some_iff`. -/
theorem ladderSearchesAreHighest : Obligations.LadderSearchesAreHighest := by
  unfold Obligations.LadderSearchesAreHighest
  constructor
  · intro ladder f c q hfc
    have hcases := bestStep_cases ladder f q c
    unfold fallBackTarget
    refine ⟨?_, ?_, hcases.symm.imp_left fun h => h.2.2, fun j h hj => lt_d_of_bestStep_lt h hj⟩
    all_goals omega
  · intro s c own peer j
    unfold State.agreedCeiling
    simp only [highestRate_eq_some_iff, Nat.lt_succ_iff]

end Sys2Proof.Machine
end

section
/-! SUPPORT. Rate Control on the line of a data call (R82, R87 to R90, R102): what a renegotiation and a training begin,
and the frame that goes to the free transmitter. -/

namespace Sys2Proof.Machine

variable {s : State} {i : LineId} {l : Line}

theorem rateIs_data {c : RateState} (hst : l.state = .data) (hrc : l.quality.rc = c) : l.rateIs c = true := by
  simp [Line.rateIs, row_of_state (l := l) (by simp [hst]), hst, hrc]

theorem due_some {d now : Ms} (h : d ≤ now) : due now (some d) = true := decide_eq_true h

/-- An outcome that updates one line: the rest of the part stands, and the line is as updated. -/
theorem nextHolds_of_modLine {o : Result} {f : Line → Line} {p : State → Prop} (ho : o = .next (s.modLine i f))
    (hp : ∀ t : State, t = { s with lines := t.lines } → othersSame i s t → t.line i = f (s.line i) → p t) :
    nextHolds o p :=
  ⟨_, ho, hp _ (eq_of_without (modLine_without s i f)) (othersSame_of_without (modLine_without s i f))
    (line_modLine_same s i f)⟩

theorem takesLink_linked (hphase : l.link.phase = .linked) (hrc : l.quality.rc ≠ .retraining) : l.takesLink = true := by
  simp [Line.takesLink, hphase, hrc]

/-! ## The transmitter (R102) -/

@[simp] theorem kick_quality (now : Ms) (l : Line) : (l.kick now).quality = l.quality := by rw [kick_eq]

/-- The transmitter's choice takes a frame from one of the lists of waiting frames. -/
theorem choose_eq {steady : Bool} {k c : Link} {f : LinkFrame} (h : k.choose steady = some (f, c)) : c = { k with
    rateWait := c.rateWait, endWait := c.endWait, pauseWait := c.pauseWait, ackWait := c.ackWait
    requestWait := c.requestWait, resendWait := c.resendWait, newWait := c.newWait } := by
  unfold Link.choose at h
  repeat' split at h
  all_goals cases h <;> rfl

theorem noteData_link_eq (now : Ms) (seq : Nat) (l : Line) : (l.noteData now seq).link = { l.link with
    sendQueue := (l.noteData now seq).link.sendQueue, ackDue := false, ackWait := false
    ackSpacing := (l.noteData now seq).link.ackSpacing, resendTimer := (l.noteData now seq).link.resendTimer } := by
  unfold Line.noteData
  dsimp only
  split_ifs <;> rfl

/-- What the transmitter leaves of the link: its phase, its ends and its history, and all it has received. -/
def Link.beside (k : Link) : Link := { k with
  rateWait := [], endWait := [], pauseWait := [], ackWait := false, requestWait := [], resendWait := [], newWait := []
  txNow := none, sendQueue := [], ackDue := false, ackSpacing := none, resendTimer := .stopped }

theorem kick_beside (now : Ms) (l : Line) : (l.kick now).link.beside = l.link.beside := by
  unfold Line.kick
  split_ifs
  · rfl
  · split
    · rfl
    · rename_i f c hc
      have hchoice : c.beside = l.link.beside := by rw [choose_eq hc]; rfl
      dsimp only
      split
      · rw [noteData_link_eq]
        exact hchoice
      · exact hchoice

@[simp] theorem kick_phase (now : Ms) (l : Line) : (l.kick now).link.phase = l.link.phase :=
  (congrArg Link.phase (kick_beside now l) :)

@[simp] theorem kick_history (now : Ms) (l : Line) : (l.kick now).link.history = l.link.history :=
  (congrArg Link.history (kick_beside now l) :)

/-- A message of Rate Control goes to the free transmitter ahead of every other frame. -/
theorem kick_rateWait {f : LinkFrame} (now : Ms) (htx : l.link.txNow = none) (hwait : l.link.rateWait = [f])
    (hf : ∀ seq ack payload, f ≠ .data seq ack payload) :
    l.kick now = { l with link := { l.link with rateWait := [], txNow := some f } } := by
  cases f
  case data seq ack payload => exact absurd rfl (hf seq ack payload)
  all_goals simp [Line.kick, Link.choose, htx, hwait]

/-- Outside a drain wait only the transmitter looks for something to do. -/
theorem pump_undrained (h : (s.line i).link.phase ≠ .draining) : s.pump i = s.modLine i (Line.kick s.now) := by
  have hstands : s.checkDrain i = s := if_neg fun hdrain => h hdrain.1
  rw [State.pump, hstands]

/-- With no drain wait and a frame in transmission nothing goes on. -/
theorem pump_busy {f : LinkFrame} (hphase : (s.line i).link.phase ≠ .draining)
    (hbusy : (s.line i).link.txNow = some f) : s.pump i = s := by
  rw [pump_undrained hphase]
  exact modLine_same s i (kick_busy s.now hbusy)

theorem sendEnd_quality (now : Ms) (l : Line) : (l.sendEnd now).quality = l.quality := by simp [Line.sendEnd]

/-- In STEADY the end of a drain wait, and the transmitter, leave the quality state. -/
theorem pump_quality (h : (s.line i).quality.rc = .steady) : ((s.pump i).line i).quality = (s.line i).quality := by
  unfold State.pump State.checkDrain
  dsimp only
  rw [line_modLine_same, kick_quality]
  split_ifs
  · rw [line_modLine_same, Line.endDrain, if_neg (by simp [h]), abandonRate_idle _ (by simp [h]), sendEnd_quality]
  · rfl

/-! ## Renegotiation (R87) -/

/-- The quality state as a renegotiation begins. -/
def Quality.renegotiated (now : Ms) (target : Nat) (cause : RateCause) (k : Quality) : Quality := { k with
  rc := .renegotiating, oldStep := k.step, cause := some cause, target := some target, tries := 0
  lowRun := 0, highRun := 0, rateOkWait := some (now + 2000) }

@[simp] theorem renegotiate_quality (now : Ms) (target : Nat) (cause : RateCause) (l : Line) :
    (l.renegotiate now target cause).quality = l.quality.renegotiated now target cause := kick_quality _ _

/-- A renegotiation changes the quality state and the link of its line alone. -/
theorem renegotiate_eq (now : Ms) (target : Nat) (cause : RateCause) (l : Line) : l.renegotiate now target cause =
    { l with quality := l.quality.renegotiated now target cause, link := (l.renegotiate now target cause).link } := by
  unfold Line.renegotiate
  rw [kick_eq]
  rfl

@[simp] theorem renegotiate_history (now : Ms) (target : Nat) (cause : RateCause) (l : Line) :
    (l.renegotiate now target cause).link.history = l.link.history := kick_history _ _

@[simp] theorem renegotiate_phase (now : Ms) (target : Nat) (cause : RateCause) (l : Line) :
    (l.renegotiate now target cause).link.phase = l.link.phase := kick_phase _ _

/-- RATE goes at once where the transmitter is free. -/
theorem renegotiate_link (now : Ms) (target : Nat) (cause : RateCause) (htx : l.link.txNow = none)
    (hwait : l.link.rateWait = []) : (l.renegotiate now target cause).link = { l.link with
      resendTimer := l.link.resendTimer.freeze now, txNow := some (.rate target) } := by
  unfold Line.renegotiate
  rw [kick_rateWait (f := .rate target)]
  · simp [hwait]
  · exact htx
  · simp [hwait]
  · simp

/-! ## RATE and RATE_OK (R88, R89) -/

/-- The quality state as a training of its kind begins at a target. -/
def Quality.retrained (now : Ms) (target : Nat) (kind : TryKind) (k : Quality) : Quality := { k with
  rc := .retraining, target := some target, tries := 0, rateOkWait := none, tryKind := kind, tryQt := none
  tryEnd := some (now + kind.time), nextTraining := some (now + 125) }

theorem retrain_eq (now : Ms) (target : Nat) (kind : TryKind) (l : Line) : l.retrain now target kind = { l with
    quality := l.quality.retrained now target kind
    link := { l.link with resendTimer := l.link.resendTimer.freeze now } } := rfl

/-- RATE_OK goes at once where the transmitter is free, and a short training begins. -/
theorem retrain_answered (now : Ms) (p : Nat) (htx : l.link.txNow = none) (hwait : l.link.rateWait = []) :
    ((l.sendRateOk p).retrain now p .short).kick now = { l with
      quality := l.quality.retrained now p .short
      link := { l.link with resendTimer := l.link.resendTimer.freeze now, txNow := some (.rateOk p) } } := by
  rw [retrain_eq, kick_rateWait (f := .rateOk p)]
  · simp [Line.sendRateOk, hwait]
  · exact htx
  · simp [Line.sendRateOk, hwait]
  · simp

theorem exec_linkRateReceived_steady (n : Nat) (hphase : (s.line i).link.phase = .linked)
    (hrc : (s.line i).quality.rc = .steady) : exec (.linkRateReceived i n) s = .next (s.modLine i (fun l =>
      ((l.peerRate.sendRateOk ((s.line i).quality.clampToBounds n)).retrain s.now
        ((s.line i).quality.clampToBounds n) .short).kick s.now)) := by
  simp [execLinkRateReceived, takesLink_linked hphase, hrc]

theorem exec_linkRateReceived_crossed {n m : Nat} (hphase : (s.line i).link.phase = .linked)
    (hrc : (s.line i).quality.rc = .renegotiating) (htarget : (s.line i).quality.target = some m) :
    exec (.linkRateReceived i n) s = .next (s.modLine i (fun l =>
      ((l.sendRateOk (min ((s.line i).quality.clampToBounds n) m)).retrain s.now
        (min ((s.line i).quality.clampToBounds n) m) .short).kick s.now)) := by
  simp [execLinkRateReceived, takesLink_linked hphase, hrc, htarget]

theorem exec_linkRateOkReceived_taken (n : Nat) (hst : (s.line i).state = .data)
    (hphase : (s.line i).link.phase = .linked) (hrc : (s.line i).quality.rc = .renegotiating) :
    exec (.linkRateOkReceived i n) s =
      .next (s.modLine i (Line.retrain s.now ((s.line i).quality.clampToBounds n) .short)) := by
  simp [execLinkRateOkReceived, takesLink_linked hphase, rateIs_data hst hrc, hrc]

theorem exec_rateOkWaitExpiry_due {d m : Nat} (hst : (s.line i).state = .data)
    (hrc : (s.line i).quality.rc = .renegotiating) (hwait : (s.line i).quality.rateOkWait = some d) (hd : d ≤ s.now)
    (htarget : (s.line i).quality.target = some m) :
    exec (.rateOkWaitExpiry i) s = .next (s.modLine i (Line.retrain s.now m .full)) := by
  simp [execRateOkWaitExpiry, rateIs_data hst hrc, hwait, due_some hd, htarget]

theorem clampToBounds_bounds {k : Quality} {f c : Nat} (p : Nat) (hf : k.floor = some f) (hc : k.ceiling = some c)
    (hfc : f ≤ c) : f ≤ k.clampToBounds p ∧ k.clampToBounds p ≤ c ∧ (f ≤ p → p ≤ c → k.clampToBounds p = p) := by
  simp only [Quality.clampToBounds, hf, hc, Option.getD_some]
  omega

/-! ## The outcome history (R86, R104, R107) -/

theorem seqDistance_next {a n : Nat} (hn : n = (a + 1) % 64) : seqDistance a n = 1 := by
  unfold seqDistance
  omega

/-- An acknowledgement of the head alone: it leaves, and its outcome enters the history. -/
theorem acknowledge_head {x : SendEntry} {rest : List SendEntry} {n : Nat} (now : Ms)
    (hqueue : l.link.sendQueue = x :: rest) (hn : n = (x.seq + 1) % 64) :
    l.acknowledge now n = (({ l with link.sendQueue := rest } : Line).enterOutcome now
      (if x.retx then .retransmitted else .firstTry)).aim now := by
  have hdist : seqDistance l.link.base n = 1 := by
    simpa [Link.base, hqueue] using seqDistance_next hn
  simp [Line.acknowledge, hdist, hqueue]

/-- As many resends in the history as err_limit in STEADY empty it, and above the floor start a renegotiation one step
down. -/
theorem enterOutcome_resent {c f : Nat} (now : Ms) (hrc : l.quality.rc = .steady) (hlen : l.link.history.length < 16)
    (herr : l.profile.errLimit ≤ l.link.history.count .retransmitted + 1) (hstep : l.quality.step = some c)
    (hfloor : l.quality.floor = some f) : l.enterOutcome now .retransmitted =
      if f < c then ({ l with link.history := [] } : Line).renegotiate now (c - 1) .errors
      else { l with link.history := [] } := by
  have hcount : (pushOutcome .retransmitted l.link.history).count .retransmitted =
      l.link.history.count .retransmitted + 1 := by
    simp [pushOutcome, Nat.not_le.2 hlen]
  simp [Line.enterOutcome, hrc, hcount, herr, hstep, hfloor]

/-- The send queue and the history a resend acknowledged as its last leaves. -/
def Line.ackedResend (rest : List SendEntry) (l : Line) : Line :=
  { l with link := { l.link with sendQueue := rest, history := [] } }

section
variable {x : SendEntry} {rest : List SendEntry} {n : Fin 64} {c f : Nat}
  (hphase : (s.line i).link.phase = .linked) (hrc : (s.line i).quality.rc = .steady)
  (hqueue : (s.line i).link.sendQueue = x :: rest) (hn : n.val = (x.seq + 1) % 64) (hretx : x.retx = true)
  (hlen : (s.line i).link.history.length < 16)
  (herr : (s.line i).profile.errLimit ≤ (s.line i).link.history.count .retransmitted + 1)
  (hstep : (s.line i).quality.step = some c) (hfloor : (s.line i).quality.floor = some f)
include hphase hrc hqueue hn hretx hlen herr hstep hfloor

theorem exec_linkAckReceived_resent : exec (.linkAckReceived i n) s = .next ((s.modLine i (fun l =>
    (if f < c then (l.ackedResend rest).renegotiate s.now (c - 1) .errors
      else l.ackedResend rest).aim s.now)).pump i) := by
  have houtcome := enterOutcome_resent (l := { s.line i with link.sendQueue := rest }) s.now hrc hlen herr hstep hfloor
  have hack : s.modLine i (Line.acknowledge s.now n.val) = s.modLine i (fun l =>
      (if f < c then (l.ackedResend rest).renegotiate s.now (c - 1) .errors else l.ackedResend rest).aim s.now) := by
    refine modLine_congr s i ?_
    rw [acknowledge_head s.now hqueue hn, hretx, if_pos rfl, houtcome]
    rfl
  simp [execLinkAckReceived, takesLink_linked hphase, hrc, hack]

/-- Too many resends above the floor: a renegotiation one step down begins (R86). -/
theorem exec_linkAckReceived_down (hfc : f < c) (htx : (s.line i).link.txNow = none)
    (hwait : (s.line i).link.rateWait = []) : exec (.linkAckReceived i n) s = .next (s.modLine i (fun l =>
      ((l.ackedResend rest).renegotiate s.now (c - 1) .errors).aim s.now)) := by
  have hlink := renegotiate_link (l := (s.line i).ackedResend rest) s.now (c - 1) .errors htx hwait
  rw [exec_linkAckReceived_resent hphase hrc hqueue hn hretx hlen herr hstep hfloor]
  simp only [if_pos hfc]
  rw [pump_busy (f := .rate (c - 1))]
  · simp [Line.aim, Line.ackedResend, hphase]
  · rw [line_modLine_same]
    exact (congrArg Link.txNow hlink :)

/-- Too many resends at the floor: the history begins again (R86). -/
theorem exec_linkAckReceived_floor {g : LinkFrame} (hfc : ¬ f < c) (htx : (s.line i).link.txNow = some g) :
    exec (.linkAckReceived i n) s = .next (s.modLine i (fun l => (l.ackedResend rest).aim s.now)) := by
  rw [exec_linkAckReceived_resent hphase hrc hqueue hn hretx hlen herr hstep hfloor]
  simp only [if_neg hfc]
  rw [pump_busy (f := g)]
  · simp [Line.aim, Line.ackedResend, hphase]
  · rw [line_modLine_same]
    exact htx

end

end Sys2Proof.Machine
end

section
/-! SUPPORT. The messages of Rate Control and the outcome history (R86 to R89, R107), and the handshake of a data call
(R81, R97 to R99). -/

namespace Sys2Proof.Machine

/-- Settles O39: RATE by `retrain_answered`, RATE_OK and its wait by `retrain_eq`, the bounds of a step by
`clampToBounds_bounds`, and the outcome history by `exec_linkAckReceived_down` and
`exec_linkAckReceived_floor`. -/
theorem rateMessages : Obligations.RateMessages := by
  unfold Obligations.RateMessages
  refine ⟨fun s i n hst hphase hrc htx hwait => ?_, fun s i n m hst hphase hrc htarget htx hwait => ?_,
    fun s i n hst hphase hrc => ?_, fun s i d m hst hrc hok hd htarget => ?_,
    fun k f c p hf hc hfc => clampToBounds_bounds p hf hc hfc,
    fun s i x rest n c f hst hphase hrc hqueue hx hn hretx hlen herr hstep hfloor htx hwait hfc => ?_,
    fun s i x rest n c g hst hphase hrc hqueue hx hn hretx hlen herr hstep hfloor htx => ?_⟩
  · refine nextHolds_of_modLine (exec_linkRateReceived_steady n hphase hrc) fun t ht hothers hl => ?_
    rw [hl, retrain_answered (l := (s.line i).peerRate) _ _ htx hwait]
    exact ⟨ht, rfl, rfl, rfl, rfl, rfl, rfl, rfl, rfl, hothers⟩
  · refine nextHolds_of_modLine (exec_linkRateReceived_crossed hphase hrc htarget) fun t ht hothers hl => ?_
    rw [hl, retrain_answered _ _ htx hwait]
    exact ⟨ht, rfl, rfl, rfl, rfl, hothers⟩
  · refine nextHolds_of_modLine (exec_linkRateOkReceived_taken n hst hphase hrc) fun t ht hothers hl => ?_
    rw [hl, retrain_eq]
    exact ⟨ht, rfl, rfl, rfl, rfl, rfl, rfl, rfl, hothers⟩
  · refine nextHolds_of_modLine (exec_rateOkWaitExpiry_due hst hrc hok hd htarget) fun t ht hothers hl => ?_
    rw [hl, retrain_eq]
    exact ⟨ht, rfl, rfl, rfl, rfl, rfl, rfl, rfl, hothers⟩
  · have hlink := renegotiate_link (l := (s.line i).ackedResend rest) s.now (c - 1) .errors htx hwait
    refine nextHolds_of_modLine (exec_linkAckReceived_down hphase hrc hqueue hn hretx hlen herr hstep hfloor hfc htx
      hwait) fun t ht hothers hl => ?_
    rw [hl, renegotiate_eq, hlink]
    refine ⟨ht, ?_, rfl, rfl, rfl, hothers⟩
    rw [← hstep]
    rfl
  · refine nextHolds_of_modLine (exec_linkAckReceived_floor hphase hrc hqueue hn hretx hlen herr hstep hfloor
      (lt_irrefl c) htx) fun t ht hothers hl => ?_
    rw [hl]
    exact ⟨ht, rfl, rfl, rfl, hothers⟩

/-- The line whose exchange is complete: the window of both ends, and the first training at the agreed ceiling. -/
def Line.exchanged (now : Ms) (peer : Capability) (c : Nat) (l : Line) : Line := { l with
  link := { l.link with
    peer := some peer, exchangeTimer := none, capsRepeat := none, phase := .training
    capsSent := if l.link.role = some .originate ∧ l.state ≠ .loopback then 1 else l.link.capsSent
    window := some (agreedWindow l.copies peer) }
  quality := { l.quality with
    ceiling := some c, target := some (min l.copies.dataStart c), tries := 0 }.startTry now .full }

theorem exec_capsReceived_agrees {s : State} {i : LineId} {own peer : Capability} {c : Nat}
    (hphase : (s.line i).link.phase = .exchange) (hown : (s.line i).link.own = some own)
    (hceil : s.agreedCeiling (s.line i).copies own peer = some c) (hfloor : (s.line i).quality.floor.getD 0 ≤ c) :
    exec (.capsReceived i peer) s = .next (s.modLine i (Line.exchanged s.now peer c)) := by
  simp only [exec_capsReceived, execCapsReceived, hphase, if_true, State.completeExchange, hown, Option.getD_some,
    hceil, if_neg (Nat.not_lt.2 hfloor), modLine_modLine]
  refine congrArg _ (modLine_congr s i ?_)
  simp [Line.exchanged]

/-- Settles O41: each event of the handshake is one update of its line, or the release of its call. -/
theorem dataHandshake : Obligations.DataHandshake := by
  unfold Obligations.DataHandshake
  refine ⟨fun s i d hphase htone hd => ?_, fun s i d hphase hcaps hd => ?_, fun s i d hphase htimer hd => ?_,
    fun s i own peer c hphase hown hceil hfloor => ?_, fun _ _ => rfl⟩
  · refine nextHolds_of_modLine (s := s) (i := i) 
      (f := fun l => { l with tone.gen := none, link := l.link.beginExchange s.now })
      (by simp [execDataAnswerToneEnd, hphase, htone, due_some hd]) fun t ht hothers hl => ?_
    rw [hl]
    exact ⟨ht, rfl, rfl, rfl, rfl, rfl, rfl, hothers⟩
  · simp [execCapsRepeatExpiry, hphase, hcaps, due_some hd, Link.capsAgain]
  · simp [execExchangeTimerExpiry, hphase, htimer, due_some hd]
  · refine nextHolds_of_modLine (exec_capsReceived_agrees hphase hown hceil hfloor) fun t ht hothers hl => ?_
    rw [hl]
    exact ⟨ht, rfl, rfl, rfl, rfl, rfl, rfl, rfl, rfl, rfl, rfl, hothers⟩

end Sys2Proof.Machine
end

section
/-! SUPPORT. The end of a call keeps what its line's quality state holds of the last record, and A (R74). -/

namespace Sys2Proof.Machine

variable (s : State) (i : LineId)

/-- An operation that leaves the part around every line leaves every quality state. -/
theorem quality_of_all {s t : State} (h : ∀ k, t.around k = s.around k) (j : LineId) :
    (t.line j).quality = (s.line j).quality := (congrArg Line.quality (settled_of_all h j) :)

@[simp] theorem signalCarrier_quality (v : Bool) : ((s.signalCarrier i v).line i).quality = (s.line i).quality := by
  unfold State.signalCarrier
  rw [setSignals_line_eq]

@[simp] theorem drainStage_quality (n : Nat) : ((s.drainStage i n).line i).quality = (s.line i).quality :=
  quality_of_all (fun k => drainStage_around k i n s) i

@[simp] theorem stopStage_quality : ((s.stopStage i).line i).quality = (s.line i).quality :=
  quality_of_all (fun k => stopStage_around s k i) i

@[simp] theorem completeStored_quality (r : Recording) (id : Nat) (why : RecEnd) (n : Nat) :
    ((s.completeStored i r id why n).line i).quality = (s.line i).quality := by
  unfold State.completeStored
  dsimp only
  rw [line_notifyLine_same, notify_quality, line_modLine_same]
  have htrim (t : State) : ((t.closeEntry id (.recording why)).line i).quality = (t.line i).quality ∧
      ((t.deleteEntry id).line i).quality = (t.line i).quality ∧
      ∀ m, ((t.trimEntry id m).line i).quality = (t.line i).quality :=
    ⟨quality_of_all (fun k => closeEntry_around t k id _) i, quality_of_all (fun k => deleteEntry_around t k id) i,
      fun m => quality_of_all (fun k => trimEntry_around t k id m) i⟩
  split_ifs <;> simp [Line.modCall, htrim]

@[simp] theorem completeRecording_quality : ((s.completeRecording i).line i).quality = (s.line i).quality := by
  unfold State.completeRecording
  split
  · rfl
  · split
    · rfl
    · split
      · simp
      · simp [State.completeHost]

@[simp] theorem endPlayback_quality (why : PlayEnd) : ((s.endPlayback i why).line i).quality = (s.line i).quality := by
  unfold State.endPlayback
  split
  · rfl
  · dsimp only
    rw [line_notifyLine_same, notify_quality, line_modLine_same]
    split_ifs
    · exact stopStage_quality (s.clearPlaying i) i
    · rfl

@[simp] theorem leaveGreeting_quality : ((s.leaveGreeting i).line i).quality = (s.line i).quality := by
  unfold State.leaveGreeting State.leaveStage
  dsimp only
  rw [line_modLine_same]
  split_ifs
  · rw [line_modLine_same, clearPlaying_line]
  · rfl

@[simp] theorem stopVoice_quality (r : RecEnd) (p : PlayEnd) :
    ((s.stopVoice i r p).line i).quality = (s.line i).quality := by
  unfold State.stopVoice
  split
  · rfl
  · simp
  · simp
  · simp
  · split
    · rfl
    · simp [State.endRecording]

@[simp] theorem closeFaxEntry_quality (why : EndReason) :
    ((s.closeFaxEntry i why).line i).quality = (s.line i).quality := by
  have hclose (t : State) (id : Nat) : ((t.deleteEntry id).line i).quality = (t.line i).quality ∧
      ((t.finishEntry id (.call why)).line i).quality = (t.line i).quality :=
    ⟨quality_of_all (fun k => deleteEntry_around t k id) i, quality_of_all (fun k => finishEntry_around t k id _) i⟩
  have hserve (t : State) : (t.serveAll.line i).quality = (t.line i).quality :=
    quality_of_all (fun k => serveAll_around t k) i
  unfold State.closeFaxEntry
  split
  · rfl
  · dsimp only
    split_ifs <;> simp [hclose, hserve]

@[simp] theorem stopEngine_quality (why : EndReason) : ((s.stopEngine i why).line i).quality = (s.line i).quality := by
  have hpages (l : Line) : l.writeFaxPages.quality = l.quality := by
    unfold Line.writeFaxPages
    split_ifs <;> rfl
  unfold State.stopEngine
  dsimp only
  rw [signalCarrier_quality, line_modLine_same, withdraw_line]
  split_ifs <;> simp [hpages]

theorem callEnd_quality (why : EndReason) : ((s.callEnd i why).line i).quality = (s.line i).quality.callEnd := by
  have hreport (t : State) : ((t.reportEnd i).line i).quality = (t.line i).quality := by
    unfold State.reportEnd
    split <;> simp
  unfold State.callEnd
  dsimp only
  rw [line_modLine_same, Line.noCall, hreport, releaseAreas_line, clearPlaying_line, clearFaxing_line,
    stopEngine_quality, line_modLine_same]
  rfl

/-- A release keeps last qi, last s and A (R74). -/
theorem release_quality (why : EndReason) (h : (s.line i).state ≠ .loopback) :
    ((s.release i why).line i).quality = (s.line i).quality.callEnd := by
  rw [release_eq why h, enterRelease_eq, line_modLine_same, pass_line_eq, ← callEnd_quality]

end Sys2Proof.Machine
end

section
/-! SUPPORT. The records of a data call in STEADY (R73, R75 to R77, R83 to R85): the record scored, its runs, and what
is decided on them. -/

namespace Sys2Proof.Machine

variable {s : State} {i : LineId} {r : MeasRecord} {c f m d : Nat}

/-! ## The record scored (R76, R77, R83) -/

/-- The quality state after a record of STEADY that was due at `d`, with its interval quality and its score. -/
def Quality.recorded (ladder : List LadderStep) (qi sc d : Nat) (k : Quality) : Quality := { k with
  lastQi := qi, lastS := sc, a := accumulate k.a sc
  lowRun := if accumulate k.a sc / 8 < (ladderStep ladder (k.step.getD 0)).d then min 255 (k.lowRun + 1) else 0
  highRun := if k.step.getD 0 < k.ceiling.getD 0 ∧
      (ladderStep ladder (k.step.getD 0 + 1)).u ≤ accumulate k.a sc / 8 then min 255 (k.highRun + 1) else 0
  nextRecord := some (d + 125) }

def Line.recorded (ladder : List LadderStep) (qi sc d : Nat) (l : Line) : Line :=
  { l with quality := l.quality.recorded ladder qi sc d }

section
variable (l : Line) (ladder : List LadderStep) (qi sc d : Nat)

theorem recorded_step : (l.recorded ladder qi sc d).quality.step = l.quality.step := rfl
theorem recorded_floor : (l.recorded ladder qi sc d).quality.floor = l.quality.floor := rfl
theorem recorded_ceiling : (l.recorded ladder qi sc d).quality.ceiling = l.quality.ceiling := rfl
theorem recorded_rc : (l.recorded ladder qi sc d).quality.rc = l.quality.rc := rfl
theorem recorded_q : (l.recorded ladder qi sc d).quality.q = accumulate l.quality.a sc / 8 := rfl
theorem recorded_profile : (l.recorded ladder qi sc d).profile = l.profile := rfl
theorem recorded_link : (l.recorded ladder qi sc d).link = l.link := rfl

/-- A record that starts a renegotiation: the quality state and the link of its line alone change (R84, R85, R87). -/
theorem recorded_renegotiate (now : Ms) (target : Nat) (cause : RateCause) :
    let m := (l.recorded ladder qi sc d).renegotiate now target cause
    m = { l with quality := m.quality, link := m.link } ∧ m.quality.nextRecord = some (d + 125) ∧
    m.quality.rc = .renegotiating ∧ m.quality.target = some target ∧ m.quality.a = accumulate l.quality.a sc ∧
    m.quality.oldStep = l.quality.step ∧ m.quality.cause = some cause ∧ m.quality.lowRun = 0 ∧ m.quality.highRun = 0 ∧
    m.quality.rateOkWait = some (now + 2000) := by
  dsimp only
  rw [renegotiate_eq]
  exact ⟨rfl, rfl, rfl, rfl, rfl, rfl, rfl, rfl, rfl, rfl⟩

end

section
variable {l : Line} {ladder : List LadderStep} {qi sc : Nat} (hstep : l.quality.step = some c)
include hstep

/-- A record at the ceiling whose Q is high enough breaks both runs. -/
theorem recorded_quiet (hceil : l.quality.ceiling = some c)
    (hd : (ladderStep ladder c).d ≤ accumulate l.quality.a sc / 8) : l.recorded ladder qi sc d = { l with
      quality := { l.quality with
        lastQi := qi, lastS := sc, a := accumulate l.quality.a sc, lowRun := 0, highRun := 0
        nextRecord := some (d + 125) } } := by
  simp [Line.recorded, Quality.recorded, hstep, hceil, Nat.not_lt.2 hd]

theorem recorded_lowRun (hd : accumulate l.quality.a sc / 8 < (ladderStep ladder c).d) :
    (l.recorded ladder qi sc d).quality.lowRun = min 255 (l.quality.lowRun + 1) := by
  simp [Line.recorded, Quality.recorded, hstep, hd]

theorem recorded_lowRun_broken (hd : (ladderStep ladder c).d ≤ accumulate l.quality.a sc / 8) :
    (l.recorded ladder qi sc d).quality.lowRun = 0 := by
  simp [Line.recorded, Quality.recorded, hstep, Nat.not_lt.2 hd]

theorem recorded_highRun (hceil : l.quality.ceiling = some m) (hcm : c < m)
    (hu : (ladderStep ladder (c + 1)).u ≤ accumulate l.quality.a sc / 8) :
    (l.recorded ladder qi sc d).quality.highRun = min 255 (l.quality.highRun + 1) := by
  simp [Line.recorded, Quality.recorded, hstep, hceil, hcm, hu]

end

theorem quality_score_eq (k : Quality) (r : MeasRecord) (penalty : Nat) : k.score r penalty =
    { k with lastQi := intervalQuality r, lastS := score r penalty } := rfl

/-- A record of STEADY scored, and its runs counted with the Q just computed. -/
theorem steadyRecord_eq (l : Line) (ladder : List LadderStep) :
    ({ l with quality.nextRecord := some (d + 125) } : Line).steadyRecord ladder r =
      l.recorded ladder (intervalQuality r) (score r l.profile.impulsePenalty) d := by
  unfold Line.steadyRecord
  dsimp only
  rw [quality_score_eq]
  generalize intervalQuality r = qi
  generalize score r l.profile.impulsePenalty = sc
  rfl

theorem recordDue_data (hst : (s.line i).state = .data) (hnext : (s.line i).quality.nextRecord = some d)
    (hd : d ≤ s.now) : (s.line i).recordDue s.now = true := by
  simp [Line.recordDue, hnext, due_some hd, row_of_state (l := s.line i) (by simp [hst]), hst]

theorem nextInterval_data {l : Line} (now : Ms) (hst : l.state = .data) (hnext : l.quality.nextRecord = some d) :
    l.nextInterval now = { l with quality.nextRecord := some (d + 125) } := by
  simp [Line.nextInterval, row_of_state (l := l) (by simp [hst]), hst, hnext, Config.recordMs]

theorem exec_measurementRecord_early (hnext : (s.line i).quality.nextRecord = some d) (hd : s.now < d) :
    exec (.measurementRecord i r) s = .next s := by
  simp [execMeasurementRecord, Line.recordDue, hnext, due, Nat.not_le.2 hd]

/-- A record that is not valid ends its interval and no more. -/
theorem exec_measurementRecord_invalid (hst : (s.line i).state = .data) (hv : r.valid = false)
    (hnext : (s.line i).quality.nextRecord = some d) (hd : d ≤ s.now) : exec (.measurementRecord i r) s =
      .next (s.modLine i (fun l => { l with quality.nextRecord := some (d + 125) })) := by
  have hline := nextInterval_data s.now hst hnext
  have hrow : ((s.line i).nextInterval s.now).row = .data := by
    rw [hline]
    exact (row_of_state (l := s.line i) (by simp [hst])).trans hst
  simp only [exec_measurementRecord, execMeasurementRecord, recordDue_data hst hnext hd, if_true, hv, line_modLine_same,
    hrow]
  exact congrArg _ (modLine_congr s i hline)

/-- A record in STEADY is scored, and its runs decide (R83). -/
theorem exec_measurementRecord_steady (hst : (s.line i).state = .data) (hrc : (s.line i).quality.rc = .steady)
    (hv : r.valid = true) (hnext : (s.line i).quality.nextRecord = some d) (hd : d ≤ s.now) :
    exec (.measurementRecord i r) s = .next ((s.modLine i (Line.recorded s.dataLadder (intervalQuality r)
      (score r (s.line i).profile.impulsePenalty) d)).decideRate i) := by
  have hline := nextInterval_data s.now hst hnext
  have hrate : ((s.line i).nextInterval s.now).rateIs .steady = true := by
    rw [hline]
    exact rateIs_data (l := s.line i) hst hrc
  simp only [exec_measurementRecord, execMeasurementRecord, recordDue_data hst hnext hd, if_true, hv, line_modLine_same,
    hrate, modLine_modLine, Bool.true_eq_false, if_false]
  refine congrArg (fun t : State => Host.Outcome.next (t.decideRate i)) (modLine_congr s i ?_)
  rw [hline, steadyRecord_eq]

/-! ## The decisions (R84, R85) -/

section
variable (hstep : (s.line i).quality.step = some c)
include hstep

theorem decideRate_fallsBack (hfloor : (s.line i).quality.floor = some f) (hfc : f < c)
    (hlow : (s.line i).profile.fbPersist ≤ (s.line i).quality.lowRun) : s.decideRate i = s.modLine i
      (Line.renegotiate s.now (fallBackTarget s.dataLadder f c (s.line i).quality.q) .quality) := by
  simp [State.decideRate, hstep, hfloor, hfc, hlow]

theorem decideRate_drops (hfloor : (s.line i).quality.floor = some c)
    (hlow : (s.line i).profile.dropPersist ≤ (s.line i).quality.lowRun) : s.decideRate i = s.qualityDrop i := by
  simp [State.decideRate, hstep, hfloor, hlow]

variable (hlow : (s.line i).quality.lowRun = 0) (hfb : 0 < (s.line i).profile.fbPersist)
  (hdrop : 0 < (s.line i).profile.dropPersist)
include hlow hfb hdrop

theorem decideRate_goesUp (hceil : (s.line i).quality.ceiling = some m) (hcm : c < m)
    (hhigh : (s.line i).profile.ffPersist ≤ (s.line i).quality.highRun) :
    s.decideRate i = s.modLine i (Line.renegotiate s.now (c + 1) .quality) := by
  simp [State.decideRate, hstep, hceil, hcm, hlow, hhigh, hfb.ne', hdrop.ne']

theorem decideRate_stands (hceil : (s.line i).quality.ceiling = some c) : s.decideRate i = s := by
  simp [State.decideRate, hstep, hceil, hlow, hfb.ne', hdrop.ne']

end

/-- The line of a quality drop whose END is being sent: no END_OK is awaited (R84). -/
def Line.dropped (l : Line) : Line := { l with link := { l.link with
  dropEnd := true, phase := .closing, drainTimer := none, endOnSteady := false, endOkWait := none, sendQueue := []
  resendWait := [], newWait := [], resendTimer := .stopped, txNow := some .fin } }

theorem recorded_dropped (l : Line) (ladder : List LadderStep) (qi sc d : Nat) :
    let m := (l.recorded ladder qi sc d).dropped
    m = { l with quality := m.quality, link := m.link } ∧ m.quality.nextRecord = some (d + 125) ∧ m.state = l.state :=
  ⟨rfl, rfl, rfl⟩

/-- The END of a quality drop goes at once where the transmitter is free. -/
theorem qualityDrop_sends (hphase : (s.line i).link.phase = .linked) (hdrop : (s.line i).link.dropEnd = false)
    (hfar : (s.line i).link.farEnd = none) (hrc : (s.line i).quality.rc = .steady)
    (htx : (s.line i).link.txNow = none) (hwait : (s.line i).link.rateWait = []) (hend : (s.line i).link.endWait = []) :
    s.qualityDrop i = s.modLine i Line.dropped := by
  have hpart : s.qualityDrop i = s.modLine i (fun l =>
      { ({ l with link.dropEnd := true } : Line).sendEnd s.now with
        link.endOkWait := none }) := by
    simp [State.qualityDrop, hdrop, hfar, hphase]
  rw [hpart]
  refine modLine_congr s i ?_
  simp [Line.sendEnd, Line.kick, Link.choose, Line.dropped, hrc, hwait, hend, htx]

/-- Whatever a record decides, the part of the quality state that outlives the call is that of the record (R74). -/
theorem decideRate_heard (h : (s.line i).state ≠ .loopback) :
    ((s.decideRate i).line i).quality.callEnd = (s.line i).quality.callEnd := by
  unfold State.decideRate
  dsimp only
  split_ifs
  · rw [line_modLine_same, renegotiate_quality]
    rfl
  · unfold State.qualityDrop
    dsimp only
    split_ifs
    · rfl
    · rw [release_quality s i _ h]
      rfl
    · rw [line_modLine_same]
      exact congrArg Quality.callEnd (sendEnd_quality s.now _)
  · rw [line_modLine_same, renegotiate_quality]
    rfl
  · rfl

/-! ## The obligation -/

/-- Settles O37: the record by `exec_measurementRecord_steady`, and what it decides by the rules of `decideRate`. -/
theorem measurementInSteady : Obligations.MeasurementInSteady := by
  unfold Obligations.MeasurementInSteady
  refine ⟨fun s i r c d hst hv hrc hnext hd hstep hceil hfb hdrop hq => ?_,
    fun s i r c f d hst hv hrc hnext hd hstep hfloor hfc hq hlow => ?_,
    fun s i r c m d hst hv hrc hnext hd hstep hceil hcm hfb hdrop hq hu hhigh => ?_,
    fun k ladder c hstep hceil => by simp [Quality.updateRuns, hstep, hceil],
    fun s i r c d hst hv hrc hnext hd hstep hfloor hq hlow hphase hdrop hfar htx hwait hend => ?_,
    fun s i r d hst hv hnext hd => exec_measurementRecord_invalid hst hv hnext hd,
    fun s i r d hnext hd => exec_measurementRecord_early hnext hd⟩
  · rw [exec_measurementRecord_steady hst hrc hv hnext hd, decideRate_stands (c := c)]
    · exact congrArg _ (modLine_congr s i (recorded_quiet hstep hceil hq))
    · rwa [line_modLine_same, recorded_step]
    · rw [line_modLine_same, recorded_lowRun_broken hstep hq]
    · rwa [line_modLine_same, recorded_profile]
    · rwa [line_modLine_same, recorded_profile]
    · rwa [line_modLine_same, recorded_ceiling]
  · rw [exec_measurementRecord_steady hst hrc hv hnext hd, decideRate_fallsBack (c := c) (f := f) ?_ ?_ hfc ?_,
      modLine_modLine, line_modLine_same, recorded_q]
    · refine nextHolds_of_modLine rfl fun t ht hothers hl => ?_
      obtain ⟨hframe, hrecord, hrenegotiating, htarget, ha, hold, hcause, hlowrun, hhighrun, hwait⟩ :=
        recorded_renegotiate (s.line i) s.dataLadder (intervalQuality r)
          (score r (s.line i).profile.impulsePenalty) d s.now (fallBackTarget s.dataLadder f c
            (accumulate (s.line i).quality.a (score r (s.line i).profile.impulsePenalty) / 8)) .quality
      rw [hl]
      exact ⟨ht, hrecord, hframe, hrenegotiating, htarget, ha, hold.trans hstep, hcause, hlowrun, hhighrun, hwait,
        hothers⟩
    · rwa [line_modLine_same, recorded_step]
    · rwa [line_modLine_same, recorded_floor]
    · rw [line_modLine_same, recorded_profile, recorded_lowRun hstep hq]
      exact hlow
  · rw [exec_measurementRecord_steady hst hrc hv hnext hd, decideRate_goesUp (c := c) (m := m) ?_ ?_ ?_ ?_ ?_ hcm ?_,
      modLine_modLine]
    · refine nextHolds_of_modLine rfl fun t ht hothers hl => ?_
      obtain ⟨hframe, hrecord, hrenegotiating, htarget, -, hold, hcause, -⟩ :=
        recorded_renegotiate (s.line i) s.dataLadder (intervalQuality r)
          (score r (s.line i).profile.impulsePenalty) d s.now (c + 1) .quality
      rw [hl]
      exact ⟨ht, hrecord, hframe, hrenegotiating, htarget, hcause, hold.trans hstep, hothers⟩
    · rwa [line_modLine_same, recorded_step]
    · rw [line_modLine_same, recorded_lowRun_broken hstep hq]
    · rwa [line_modLine_same, recorded_profile]
    · rwa [line_modLine_same, recorded_profile]
    · rwa [line_modLine_same, recorded_ceiling]
    · rw [line_modLine_same, recorded_profile, recorded_highRun hstep hceil hcm hu]
      exact hhigh
  · rw [exec_measurementRecord_steady hst hrc hv hnext hd, decideRate_drops (c := c) ?_ ?_ ?_, qualityDrop_sends,
      modLine_modLine]
    · refine nextHolds_of_modLine rfl fun t ht hothers hl => ?_
      obtain ⟨hframe, hrecord, hstate⟩ := recorded_dropped (s.line i) s.dataLadder (intervalQuality r)
        (score r (s.line i).profile.impulsePenalty) d
      rw [hl]
      exact ⟨ht, hrecord, hframe, rfl, rfl, rfl, rfl, rfl, hstate.trans hst, hothers⟩
    iterate 3 rwa [line_modLine_same, recorded_link]
    · rwa [line_modLine_same, recorded_rc]
    iterate 3 rwa [line_modLine_same, recorded_link]
    · rwa [line_modLine_same, recorded_step]
    · rwa [line_modLine_same, recorded_floor]
    · rw [line_modLine_same, recorded_profile, recorded_lowRun hstep hq]
      exact hlow

end Sys2Proof.Machine
end

section
/-! SUPPORT. The tries of a training (R73, R82, R91): their records, the tries that fail, and the one that succeeds. -/

namespace Sys2Proof.Machine

variable {s : State} {i : LineId} {r : MeasRecord} {t0 qt f d : Nat} {locked : Bool}

/-! ## Training records (R73, R82) -/

/-- A valid record of the try in hand gives the try its score. -/
theorem trainRecord_valid (now : Ms) (l : Line) (hv : r.valid = true) : l.trainRecord now r = { l with
    quality := { l.quality with
      lastQi := intervalQuality r, lastS := score r l.profile.impulsePenalty
      tryQt := some (score r l.profile.impulsePenalty), nextTraining := some (now + 125) } } := by
  unfold Line.trainRecord
  rw [if_pos hv]
  dsimp only
  rw [quality_score_eq]
  generalize intervalQuality r = qi, score r l.profile.impulsePenalty = sc
  rfl

theorem exec_trainingRecord_valid (hst : (s.line i).state = .data) (hrc : (s.line i).quality.rc = .retraining)
    (hv : r.valid = true) (hnext : (s.line i).quality.nextTraining = some d) (hd : d ≤ s.now) :
    exec (.trainingRecord i r) s = .next (s.modLine i (fun l => { l with quality := { l.quality with
      lastQi := intervalQuality r, lastS := score r l.profile.impulsePenalty
      tryQt := some (score r l.profile.impulsePenalty), nextTraining := some (s.now + 125) } })) := by
  rw [exec_trainingRecord, execTrainingRecord, rateIs_data hst hrc, hnext, due_some hd]
  exact congrArg _ (modLine_congr s i (trainRecord_valid s.now _ hv))

/-! ## Tries that fail (R82) -/

/-- A try that has not locked in its time, or has locked with too little, is over and has failed. -/
def Quality.tryFails (k : Quality) (ladder : List LadderStep) (now : Ms) (t0 d : Nat) (locked : Bool) : Prop :=
  (k.tryEnd = some d ∧ d ≤ now ∧ locked = false) ∨
    (k.tryEnd = some d ∧ now ≤ d ∧ locked = true ∧ ∀ q ∈ k.tryQt, q < (ladderStep ladder t0).d)

theorem tryEnds_of_fails {k : Quality} {ladder : List LadderStep} {now : Ms} (h : k.tryFails ladder now t0 d locked) :
    k.tryEnds now locked = true := by
  rcases h with ⟨hend, hd, rfl⟩ | ⟨hend, hd, rfl, -⟩ <;> simp [Quality.tryEnds, hend, hd]

theorem trySucceeds_of_fails {k : Quality} {ladder : List LadderStep} {now : Ms} (htarget : k.target = some t0)
    (h : k.tryFails ladder now t0 d locked) : k.trySucceeds ladder locked = none := by
  unfold Quality.trySucceeds
  split
  next qt hqt =>
    refine if_neg fun hsucc => ?_
    rcases h with ⟨-, -, rfl⟩ | ⟨-, -, -, hlow⟩
    · exact Bool.false_ne_true hsucc.1
    · rw [htarget] at hsucc
      exact absurd hsucc.2 (not_le.2 (hlow qt hqt))
  next => rfl

section
variable (hst : (s.line i).state = .data) (hrc : (s.line i).quality.rc = .retraining)
  (htarget : (s.line i).quality.target = some t0)
include hst hrc htarget

theorem exec_trainingOutcome_fails (h : (s.line i).quality.tryFails s.dataLadder s.now t0 d locked) :
    exec (.trainingOutcome i locked) s = .next (s.tryFailed i) := by
  rw [exec_trainingOutcome, execTrainingOutcome, rateIs_data hst hrc, tryEnds_of_fails h,
    trySucceeds_of_fails htarget h]
  rfl

theorem exec_trainingOutcome_succeeds (hqt : (s.line i).quality.tryQt = some qt)
    (hq : (ladderStep s.dataLadder t0).d ≤ qt) (hend : (s.line i).quality.tryEnd = some d) (hd : s.now ≤ d) :
    exec (.trainingOutcome i true) s = .next (s.trySucceeded i qt) := by
  have hends : (s.line i).quality.tryEnds s.now true = true := by simp [Quality.tryEnds, hend, hd]
  have hsucc : (s.line i).quality.trySucceeds s.dataLadder true = some qt := by
    simp [Quality.trySucceeds, hqt, htarget, hq]
  rw [exec_trainingOutcome, execTrainingOutcome, rateIs_data hst hrc, hends, hsucc]
  rfl

end

/-- The first failure of a step is tried again with a full training. -/
theorem tryFailed_again (hrc : (s.line i).quality.rc = .retraining) (htries : (s.line i).quality.tries = 0) :
    s.tryFailed i = s.modLine i (fun l => { l with quality := { l.quality with
      tries := 1, tryKind := .full, tryQt := none, tryEnd := some (s.now + 4000)
      nextTraining := some (s.now + 125) } }) := by
  have hagain : s.tryFailed i = s.modLine i (fun l =>
      { l with quality := { l.quality with tries := l.quality.tries + 1 }.startTry s.now .full }) := by
    simp [State.tryFailed, htries]
  rw [hagain]
  refine modLine_congr s i ?_
  simp [Quality.startTry, TryKind.time, Config.recordMs, htries, hrc]

/-- The second failure of a step above the floor drops a step. -/
theorem tryFailed_drops (hrc : (s.line i).quality.rc = .retraining) (htries : (s.line i).quality.tries = 1)
    (htarget : (s.line i).quality.target = some t0) (hfloor : (s.line i).quality.floor = some f) (hf : f < t0) :
    s.tryFailed i = s.modLine i (fun l => { l with quality := { l.quality with
      target := some (t0 - 1), tries := 0, tryKind := .full, tryQt := none, tryEnd := some (s.now + 4000)
      nextTraining := some (s.now + 125) } }) := by
  have hdrop : s.tryFailed i = s.modLine i (fun l => { l with
      quality := { l.quality with target := some (l.quality.target.getD 0 - 1), tries := 0 }.startTry s.now
        .full }) := by
    simp [State.tryFailed, htries, hfloor, htarget, hf]
  rw [hdrop]
  refine modLine_congr s i ?_
  simp [Quality.startTry, TryKind.time, Config.recordMs, htarget, hrc]

theorem tryFailed_releases (htries : (s.line i).quality.tries = 1) (htarget : (s.line i).quality.target = some t0)
    (hfloor : (s.line i).quality.floor = some f) (hf : t0 ≤ f) : s.tryFailed i = s.release i .trainFail := by
  simp [State.tryFailed, htries, htarget, hfloor, Nat.not_lt.2 hf]

theorem exec_trainingOutcome_early (hend : (s.line i).quality.tryEnd = some d) (hd : s.now < d) :
    exec (.trainingOutcome i false) s = .next s := by
  simp [execTrainingOutcome, Quality.tryEnds, hend, Nat.not_le.2 hd]

/-! ## The try that succeeds (R82, R91, R100) -/

/-- The line after a successful training, with its notice and what the transmitter takes up. -/
def Line.trainedOn (now : Ms) (qt : Nat) (n : Notice) (l : Line) : Line := ((l.trained now qt).notify n).kick now

theorem trySucceeded_undrained (hphase : (s.line i).link.phase ≠ .draining)
    (hend : (s.line i).link.endOnSteady = false) : s.trySucceeded i qt =
      s.modLine i (Line.trainedOn s.now qt (s.trainedNotice (s.line i) qt)) := by
  have hphase' : ((s.line i).trained s.now qt).link.phase ≠ .draining := by
    change (if (s.line i).link.phase = .training then LinkPhase.linked else (s.line i).link.phase) ≠ .draining
    split_ifs
    · decide
    · exact hphase
  unfold State.trySucceeded
  dsimp only
  rw [hend, if_neg Bool.false_ne_true, notifyLine_eq, modLine_modLine, pump_undrained, modLine_modLine]
  · rfl
  · rwa [line_modLine_same, notify_link]

theorem trainedOn_eq (now : Ms) (n : Notice) (l : Line) : l.trainedOn now qt n = { l with
    call := l.call.map (fun c => { c with finalStep := l.quality.target }), quality := l.quality.trained now qt
    link := (l.trainedOn now qt n).link, queue := ((l.trained now qt).notify n).queue } := by
  unfold Line.trainedOn
  rw [kick_eq, notify_eq]
  rfl

theorem trainedOn_phase (now : Ms) (n : Notice) (l : Line) : (l.trainedOn now qt n).link.phase =
    if l.link.phase = .training then .linked else l.link.phase := by
  unfold Line.trainedOn
  rw [kick_phase, notify_link]
  rfl

theorem trainedOn_history (now : Ms) (n : Notice) (l : Line) : (l.trainedOn now qt n).link.history = [] := by
  unfold Line.trainedOn
  rw [kick_history, notify_link]
  rfl

/-- Behind a frame in transmission nothing is taken up. -/
theorem trainedOn_busy {l : Line} {g : LinkFrame} (now : Ms) (n : Notice) (htx : l.link.txNow = some g) :
    l.trainedOn now qt n = (l.trained now qt).notify n := by
  unfold Line.trainedOn
  refine kick_busy (f := g) now ?_
  rw [notify_link]
  exact htx

/-- A later training of a call, behind a frame in transmission, with no other notice waiting (R91). -/
theorem trainedOn_later {l : Line} {c : CallRecord} {g : LinkFrame} {n : Notice} (now : Ms) (hcall : l.call = some c)
    (htarget : l.quality.target = some t0) (hphase : l.link.phase = .linked) (htx : l.link.txNow = some g)
    (hqueue : l.queue.entries = []) (hwants : l.profile.wants n.kind = true) : l.trainedOn now qt n = { l with
      call := some { c with finalStep := some t0 }, queue := { l.queue with entries := [n] }
      quality := { l.quality.trained now qt with step := some t0 }
      link := { l.link with history := [], resendTimer := l.link.resendTimer.thaw now } } := by
  have hoffer : ((l.trained now qt).notify n).queue = { l.queue with entries := [n] } := by
    rw [notify_queue]
    exact (if_pos hwants).trans (offer_alone hqueue n)
  rw [trainedOn_busy now n htx, notify_eq, hoffer]
  simp [Line.trained, Line.modCall, Quality.trained, hcall, htarget, hphase]

/-- Whatever goes out after it, a successful training leaves its quality state. -/
theorem trySucceeded_quality : ((s.trySucceeded i qt).line i).quality = (s.line i).quality.trained s.now qt := by
  have htrained : (((s.modLine i (Line.trained s.now qt)).notifyLine i (s.trainedNotice (s.line i) qt)).line i).quality
      = (s.line i).quality.trained s.now qt := by
    rw [line_notifyLine_same, notify_quality, line_modLine_same]
    rfl
  unfold State.trySucceeded
  dsimp only
  split_ifs
  · rw [line_modLine_same, sendEnd_quality, htrained]
  · rw [pump_quality, htrained]
    rw [htrained]
    rfl

/-! ## The obligation -/

/-- Settles O38: a record by `trainRecord_valid`, the tries that fail by the rules of `tryFailed`, and the one that
succeeds by `trySucceeded_undrained`. -/
theorem trainingTries : Obligations.TrainingTries := by
  unfold Obligations.TrainingTries
  refine ⟨fun s i r d hst hrc hv hnext hd => exec_trainingRecord_valid hst hrc hv hnext hd,
    fun s i t0 qt w d c hst hrc htarget hqt hq hcall hphase hend htry hd hwindow => ?_,
    fun s i k t0 d locked hk hst hrc htarget htries hfails => ?_,
    fun s i k t0 f d locked hk hst hrc htarget htries hfloor hf hfails => ?_,
    fun s i k t0 f d locked hk hst hrc htarget htries hfloor hf hfails => ?_,
    fun s i t0 qt o d why c f hst hrc htarget hqt hq hcall hphase hend htry hd hold hcause htx hqueue hwants => ?_,
    fun s i d htry hd => exec_trainingOutcome_early htry hd⟩
  · have hrun := (exec_trainingOutcome_succeeds hst hrc htarget hqt hq htry hd).trans
      (congrArg _ (trySucceeded_undrained (by simp [hphase]) hend))
    have hnotice : s.trainedNotice (s.line i) qt = .connected (.data t0 (ladderStep s.dataLadder t0).rate w) := by
      simp [State.trainedNotice, hphase, htarget, hwindow]
    rw [hnotice] at hrun
    refine nextHolds_of_modLine hrun fun t ht hothers hl => ?_
    have hphase' := (congrArg (fun l : Line => l.link.phase) hl).trans ((trainedOn_phase _ _ _).trans (if_pos hphase))
    have hhistory := (congrArg (fun l : Line => l.link.history) hl).trans (trainedOn_history _ _ _)
    rw [trainedOn_eq] at hl
    refine ⟨ht, by rw [hl], ?_, ?_, ?_, ?_, ?_, ?_, hphase', ?_, fun hnone => ?_, fun hempty hwants => ?_, hhistory, ?_,
      hothers⟩
    all_goals rw [hl]
    · rfl
    · exact htarget
    · rfl
    · rfl
    · rfl
    · rfl
    · rfl
    · simp [Quality.trained, hnone, Config.recordMs]
    · exact notify_empty (l := (s.line i).trained s.now qt) hwants hempty
    · simp [hcall, htarget]
  · subst hk
    rw [exec_trainingOutcome_fails hst hrc htarget hfails, tryFailed_again hrc htries]
  · subst hk
    rw [exec_trainingOutcome_fails hst hrc htarget hfails, tryFailed_drops hrc htries htarget hfloor hf]
  · subst hk
    rw [exec_trainingOutcome_fails hst hrc htarget hfails, tryFailed_releases htries htarget hfloor hf]
  · have hrun := (exec_trainingOutcome_succeeds hst hrc htarget hqt hq htry hd).trans
      (congrArg _ (trySucceeded_undrained (by simp [hphase]) hend))
    have hnotice : s.trainedNotice (s.line i) qt = .rateChanged o t0 why qt := by
      simp [State.trainedNotice, hphase, htarget, hold, hcause]
    rw [hnotice] at hrun
    refine nextHolds_of_modLine hrun fun t ht hothers hl => ?_
    rw [trainedOn_later (n := .rateChanged o t0 why qt) s.now hcall htarget hphase htx hqueue hwants] at hl
    refine ⟨ht, ?_, fun left hleft => ?_, hothers⟩
    all_goals rw [hl]
    · rfl
    · simp [hleft, ResendTimer.thaw]

end Sys2Proof.Machine
end

section
/-! SUPPORT. The two ends of a fax call outside LOOPBACK (R117, R119): what an end's own record becomes, its END, and
the training of each end (R94, R121, R122). -/

namespace Sys2Proof.Machine

variable {s : State} {i : LineId} {l : Line} {r : FaxRole}

/-! ## The end with a role -/

theorem modFax_of_role (f : Fax → Fax) (h : (s.line i).fax.role = some r) :
    s.modFax i r f = s.modLine i (fun l => { l with fax := f l.fax }) :=
  modLine_congr s i (modHalf_of_role f h)

/-- A notice beside an update of its line changes the queue alone. -/
theorem notifyLine_modLine (f : Line → Line) (n : Notice) : ∃ q, (s.modLine i f).notifyLine i n =
    s.modLine i (fun l => { f l with queue := q }) := by
  refine ⟨((f (s.line i)).notify n).queue, ?_⟩
  rw [notifyLine_eq, modLine_modLine]
  exact modLine_congr s i (notify_eq _ _)

/-- The line whose sender sends END and awaits the release of its call (R136). -/
def Line.faxEnded (why : EndReason) (l : Line) : Line :=
  { l with tone.gen := none, stage := .idle, fax := l.fax.close why }

/-- A sender past its negotiation ends its call by END (R136). -/
theorem endFax_sender (why : EndReason) (hrole : (s.line i).fax.role = some .sender)
    (hphase : (s.line i).fax.phase ≠ .close) (hterms : (s.line i).fax.terms.isSome = true) :
    s.endFax i .sender why = s.modLine i (Line.faxEnded why) := by
  simp only [State.endFax, half_of_role hrole, if_neg hphase, hterms, if_true, modFax_of_role _ hrole, modLine_modLine]
  refine modLine_congr s i ?_
  simp [Line.halfToneOff, Line.halfStageOff, Line.isEcho, Line.faxEnded]

/-! ## Training at the receiver (R94, R122) -/

section
variable (hrole : (s.line i).fax.role = some .receiver)
include hrole

theorem trainBad_eq : s.trainBad i = s.modLine i (fun l => { l with fax := { l.fax with
    checking := false, checkQt := none, lockWait := none, sent := some .trainRetry
    recvWait := some (s.now + 9000) } }) := modFax_of_role _ hrole

/-- The line that answers TRAIN_OK. -/
def Line.trainedWell (now : Ms) (qt : Nat) (l : Line) : Line := { l with
  call := l.call.map (fun c => { c with finalStep := l.fax.step })
  quality := { l.quality with a := 8 * qt, step := l.fax.step }
  fax := { l.fax.trainedPage with
    phase := .page, trained := true, tries := 0, checking := false, checkQt := none, lockWait := none
    sent := some .trainOk, recvWait := some (now + 9000) } }

/-- TRAIN_OK goes with A and the step; CONNECTED, where it is the call's first, changes the queue alone. -/
theorem trainGood_eq (qt : Nat) : ∃ q, s.trainGood i (s.line i).fax qt =
    s.modLine i (fun l => { l.trainedWell s.now qt with queue := q }) := by
  have hecho := isEcho_of_role hrole
  have hline : s.modLine i (fun l => (({ l with
      quality := { l.quality with a := 8 * qt, step := (s.line i).fax.step } } : Line).modCall (fun c => { c with finalStep := (s.line i).fax.step })).modHalf .receiver (fun f =>
        ({ f.trainedPage with phase := .page, trained := true, tries := 0, checking := false, checkQt := none
                              lockWait := none } : Fax).respond s.now .trainOk)) =
      s.modLine i (Line.trainedWell s.now qt) := by
    refine modLine_congr s i ?_
    rw [modHalf_of_role]
    · rfl
    · exact hrole
  unfold State.trainGood
  simp only [hecho, Bool.or_false, Bool.false_eq_true, if_false, hline]
  split_ifs
  · exact ⟨(s.line i).queue, modLine_congr s i rfl⟩
  · exact notifyLine_modLine _ _

theorem exec_faxCheckEnd_good {locked : Bool} {n qt : Nat} (hphase : (s.line i).fax.phase = .train)
    (hcheck : (s.line i).fax.checking = true) (hgood : s.checkGood (s.line i) (s.line i).fax locked n = some qt) :
    exec (.faxCheckEnd i locked n) s = .next (s.trainGood i (s.line i).fax qt) := by
  simp [execFaxCheckEnd, half_of_role hrole, hphase, hcheck, hgood]

theorem exec_faxCheckEnd_bad {locked : Bool} {n : Nat} (hphase : (s.line i).fax.phase = .train)
    (hcheck : (s.line i).fax.checking = true ∨ (s.line i).fax.lockWait.isSome = true)
    (hbad : s.checkGood (s.line i) (s.line i).fax locked n = none) :
    exec (.faxCheckEnd i locked n) s = .next (s.trainBad i) := by
  rcases hcheck with h | h <;> simp [execFaxCheckEnd, half_of_role hrole, hphase, h, hbad]

theorem exec_faxTrainLockTimeout_due {d : Ms} (hphase : (s.line i).fax.phase = .train)
    (hwait : (s.line i).fax.lockWait = some d) (hd : d ≤ s.now) :
    exec (.faxTrainLockTimeout i) s = .next (s.trainBad i) := by
  simp [execFaxTrainLockTimeout, half_of_role hrole, hphase, hwait, due_some hd]

end

section
variable {f : Fax} {k n qt : Nat} {locked : Bool}

theorem checkGood_some (hqt : f.checkQt = some qt) (hstep : f.step = some k) (hk : k < s.faxLadder.length)
    (hceil : k ≤ l.copies.faxCeiling) (hn : n ≤ (ladderStep s.faxLadder k).trainLimit) :
    s.checkGood l f true n = some qt := by
  simp [State.checkGood, State.stepAllowed, hqt, hstep, hk, hceil, hn]

theorem checkGood_unscored (hqt : f.checkQt = none) : s.checkGood l f locked n = none := by
  simp [State.checkGood, hqt]

theorem checkGood_none (hqt : f.checkQt = some qt) (hstep : f.step = some k)
    (hbad : locked = false ∨ s.faxLadder.length ≤ k ∨ l.copies.faxCeiling < k ∨
      (ladderStep s.faxLadder k).trainLimit < n) : s.checkGood l f locked n = none := by
  simp only [State.checkGood, State.stepAllowed, hqt, hstep, Option.getD_some]
  refine if_neg fun hgood => ?_
  simp only [Bool.and_eq_true, decide_eq_true_eq] at hgood
  obtain ⟨⟨hlocked, hlen, hceil⟩, hn⟩ := hgood
  rcases hbad with h | h | h | h
  · simp [h] at hlocked
  all_goals omega

end

/-! ## Training at the sender (R122) -/

/-- The line whose sender has been answered TRAIN_OK. -/
def Line.senderTrained (l : Line) : Line := { l with
  call := l.call.map (fun c => { c with finalStep := l.fax.step }), quality.step := l.fax.step
  fax := { l.fax with tries := 0, trained := true, awaited := none } }

section
variable (hrole : (s.line i).fax.role = some .sender)
include hrole

theorem senderTrained_eq (hst : (s.line i).state ≠ .loopback) : ∃ q, s.senderTrained i (s.line i).fax =
    s.modLine i (fun l => { l.senderTrained with queue := q }) := by
  have hline : s.modLine i (fun l => (if (l.modCall (fun c => { c with finalStep := (s.line i).fax.step })).state =
        .loopback then l.modCall (fun c => { c with finalStep := (s.line i).fax.step })
      else { l.modCall (fun c => { c with finalStep := (s.line i).fax.step }) with
        quality.step := (s.line i).fax.step }).modHalf .sender (fun f =>
          { f with tries := 0, trained := true, awaited := none })) = s.modLine i Line.senderTrained := by
    refine modLine_congr s i ?_
    rw [if_neg (by exact hst), modHalf_of_role]
    · rfl
    · exact hrole
  unfold State.senderTrained
  simp only [hline]
  split_ifs
  · exact ⟨(s.line i).queue, modLine_congr s i rfl⟩
  · exact notifyLine_modLine _ _

/-- A host sender awaits its next page for 5000 ms where the TX area holds nothing (R124). -/
theorem nextPage_host (hsource : (s.line i).fax.source = some .host) (htx : s.txHolds i = false) :
    s.nextPage i = s.modLine i (fun l => { l with fax := { l.fax with
      phase := .page, awaited := none, fill := some (s.now + 5000) } }) := by
  have htx' (f : Line → Line) : (s.modLine i f).txHolds i = false := htx
  simp only [State.nextPage, modFax_of_role _ hrole, line_modLine_same, hsource, htx', Bool.false_eq_true, if_false]
  rw [modFax_of_role, modLine_modLine]
  · rfl
  · rw [line_modLine_same]
    exact hrole

/-- TRAIN_OK to the CHOOSE of a host sender with nothing to send yet: the next page is awaited. -/
theorem exec_faxTrainOkReceived_host {k n u : Nat} {res : Resolution} {bc : Bool} (hst : (s.line i).state = .fax)
    (hphase : (s.line i).fax.phase = .train) (hawaited : (s.line i).fax.awaited = some ⟨.choose k res bc, n, u⟩)
    (hafter : (s.line i).fax.afterTrain = .page) (hsource : (s.line i).fax.source = some .host)
    (htx : s.txHolds i = false) : ∃ q, exec (.faxTrainOkReceived i) s = .next (s.modLine i (fun l =>
      { l.senderTrained with
        queue := q, fax := { l.senderTrained.fax with phase := .page, fill := some (s.now + 5000) } })) := by
  obtain ⟨q, hq⟩ := senderTrained_eq hrole (by rw [hst]; decide)
  refine ⟨q, ?_⟩
  have hawaits : (s.line i).fax.awaits FaxMsg.isChoose = true := by simp [Fax.awaits, hawaited, FaxMsg.isChoose]
  have hrun : exec (.faxTrainOkReceived i) s = .next ((s.senderTrained i (s.line i).fax).nextPage i) := by
    simp [execFaxTrainOkReceived, half_of_role hrole, hphase, hawaits, hafter, State.afterTraining]
  rw [hrun, hq, nextPage_host, modLine_modLine]
  · rfl
  · rw [line_modLine_same]
    exact hrole
  · rw [line_modLine_same]
    exact hsource
  · exact htx

/-- TRAIN_RETRY: the first repeats the step, the second drops one or, at the floor, ends the call (R122). -/
theorem exec_faxTrainRetryReceived_choose {k n u : Nat} {res : Resolution} {bc : Bool}
    (hphase : (s.line i).fax.phase = .train) (hawaited : (s.line i).fax.awaited = some ⟨.choose k res bc, n, u⟩) :
    exec (.faxTrainRetryReceived i) s = .next (s.retryTraining i (s.line i).fax) := by
  have hawaits : (s.line i).fax.awaits FaxMsg.isChoose = true := by simp [Fax.awaits, hawaited, FaxMsg.isChoose]
  simp [execFaxTrainRetryReceived, half_of_role hrole, hphase, hawaits]

theorem retryTraining_again (htries : (s.line i).fax.tries = 0) : s.retryTraining i (s.line i).fax =
    s.modLine i (fun l => { l with
      fax := ({ l.fax with tries := 1 } : Fax).choose s.now ((s.line i).fax.step.getD 0) }) := by
  simp only [State.retryTraining, htries, Nat.zero_add, Nat.lt_add_one, if_true, modFax_of_role _ hrole]
  exact modLine_congr s i (by rw [htries])

theorem retryTraining_drops (htries : 1 ≤ (s.line i).fax.tries)
    (hfloor : (s.line i).copies.faxFloor < (s.line i).fax.step.getD 0) : s.retryTraining i (s.line i).fax =
    s.modLine i (fun l => { l with
      fax := ({ l.fax with tries := 0 } : Fax).choose s.now ((s.line i).fax.step.getD 0 - 1) }) := by
  have hsecond : ¬ (s.line i).fax.tries + 1 < 2 := by omega
  simp only [State.retryTraining, if_neg hsecond, if_pos hfloor, modFax_of_role _ hrole]

theorem retryTraining_ends (htries : 1 ≤ (s.line i).fax.tries) (hphase : (s.line i).fax.phase ≠ .close)
    (hterms : (s.line i).fax.terms.isSome = true)
    (hfloor : (s.line i).fax.step.getD 0 ≤ (s.line i).copies.faxFloor) : s.retryTraining i (s.line i).fax =
    s.modLine i (fun l => ({ l with fax.tries := 2 } : Line).faxEnded .trainFail) := by
  have hsecond : ¬ (s.line i).fax.tries + 1 < 2 := by omega
  simp only [State.retryTraining, if_neg hsecond, if_neg (Nat.not_lt.2 hfloor), modFax_of_role _ hrole]
  rw [endFax_sender, modLine_modLine]
  all_goals rw [line_modLine_same]
  · exact hrole
  · exact hphase
  · exact hterms

end

/-- A CHOOSE carries the step, and the resolution and block correction of the terms. -/
theorem choose_eq_of_terms {f : Fax} {x : FaxTerms} (now : Ms) (step : Nat) (hterms : f.terms = some x) :
    f.choose now step = { f with
      phase := .train, step := some step, fill := none, sent := some (.choose step x.res x.blockCorrection)
      awaited := some ⟨.choose step x.res x.blockCorrection, 1, now + 4500⟩ } := by
  simp [Fax.choose, Fax.await, hterms, FaxMsg.wait]

/-! ## The obligation -/

/-- Settles O47: the receiver's answers by `trainGood_eq` and `trainBad_eq`, the sender's by
`exec_faxTrainOkReceived_host` and the rules of `retryTraining`. -/
theorem faxTraining : Obligations.FaxTraining := by
  unfold Obligations.FaxTraining
  refine ⟨fun s i k qt n c hrole hphase hcheck hqt hstep hk hceil hn hcall => ?_,
    fun s i k qt n locked hrole hphase hcheck hqt hstep hbad => ?_,
    fun s i d hrole hphase hwait hd => ?_,
    fun s i k n u res bc hst hrole hphase hstep hawaited hafter hsource htx => ?_,
    fun s i k k0 n u res bc hrole hphase hstep hterms hawaited => ?_,
    fun s i n locked hrole hphase hcheck hqt => ?_⟩
  · obtain ⟨q, hq⟩ := trainGood_eq hrole qt
    have hgood := checkGood_some hqt hstep hk hceil hn
    refine nextHolds_of_modLine ((exec_faxCheckEnd_good hrole hphase hcheck hgood).trans (congrArg _ hq)) fun t ht hothers hl => ?_
    rw [hl]
    refine ⟨ht, rfl, rfl, rfl, rfl, rfl, rfl, hstep, ?_, hothers⟩
    simp [Line.trainedWell, hcall, hstep]
  · refine nextHolds_of_modLine ((exec_faxCheckEnd_bad hrole hphase (.inl hcheck) (checkGood_none hqt hstep hbad)).trans
      (congrArg _ (trainBad_eq hrole))) fun t ht hothers hl => ?_
    rw [hl]
    exact ⟨ht, rfl, hphase, rfl, rfl, rfl, hothers⟩
  · refine nextHolds_of_modLine ((exec_faxTrainLockTimeout_due hrole hphase hwait hd).trans
      (congrArg _ (trainBad_eq hrole))) fun t ht hothers hl => ?_
    rw [hl]
    exact ⟨ht, rfl, rfl, rfl, rfl, hphase, hothers⟩
  · obtain ⟨q, hrun⟩ := exec_faxTrainOkReceived_host hrole hst hphase hawaited hafter hsource htx
    refine nextHolds_of_modLine hrun fun t ht hothers hl => ?_
    rw [hl]
    exact ⟨ht, rfl, rfl, rfl, rfl, rfl, hstep, rfl, hothers⟩
  · have hrun := exec_faxTrainRetryReceived_choose hrole hphase hawaited
    rcases Nat.eq_zero_or_pos (s.line i).fax.tries with htries | htries
    · rw [retryTraining_again hrole htries, hstep, Option.getD_some] at hrun
      refine nextHolds_of_modLine hrun fun t ht hothers hl => ?_
      rw [hl, choose_eq_of_terms (f := { (s.line i).fax with tries := 1 }) s.now k hterms, if_neg (by omega)]
      refine ⟨ht, rfl, fun _ => ⟨rfl, rfl, rfl⟩, ?_, ?_, hothers⟩ <;> omega
    · by_cases hfloor : (s.line i).copies.faxFloor < k
      · rw [retryTraining_drops hrole htries (by simpa [hstep] using hfloor), hstep, Option.getD_some] at hrun
        refine nextHolds_of_modLine hrun fun t ht hothers hl => ?_
        rw [hl, choose_eq_of_terms (f := { (s.line i).fax with tries := 0 }) s.now (k - 1) hterms, if_neg (by omega)]
        refine ⟨ht, rfl, ?_, fun _ _ => ⟨rfl, rfl, rfl⟩, ?_, hothers⟩ <;> omega
      · rw [retryTraining_ends hrole htries (by simp [hphase]) (by simp [hterms])
          (by simpa [hstep] using hfloor)] at hrun
        refine nextHolds_of_modLine hrun fun t ht hothers hl => ?_
        rw [hl, if_pos ⟨htries, not_lt.1 hfloor⟩]
        refine ⟨ht, rfl, ?_, ?_, fun _ _ => ⟨rfl, rfl⟩, hothers⟩ <;> omega
  · refine nextHolds_of_modLine ((exec_faxCheckEnd_bad hrole hphase hcheck (checkGood_unscored hqt)).trans
      (congrArg _ (trainBad_eq hrole))) fun t ht hothers hl => ?_
    rw [hl]
    refine ⟨ht, ?_, hothers⟩
    rw [← hqt]

end Sys2Proof.Machine
end

section
/-! SUPPORT. The obligation on the quality arithmetic: a record scored in every place that scores one (R73, R76, R77,
R82, R94, R122). -/

namespace Sys2Proof.Machine

variable {s : State} {i : LineId} {r : MeasRecord} {d : Nat}

/-! ## Records at a fax receiver (R73, R94) -/

theorem row_fax {l : Line} (h : l.state = .fax) : l.row = .fax := (row_of_state (by rw [h]; decide)).trans h

/-- A record at a fax receiver, scored: one of a training check gives the check its score, any other moves A. -/
def Line.faxScored (now : Ms) (qi sc : Nat) (l : Line) : Line :=
  if l.fax.phase = .train then { l with
    quality := { l.quality with lastQi := qi, lastS := sc, nextRecord := some (now + 125) }
    fax := { l.fax with checking := true, checkQt := some sc, lockWait := none } }
  else { l with quality := { l.quality with
    lastQi := qi, lastS := sc, a := accumulate l.quality.a sc, nextRecord := some (now + 125) } }

section
variable (l : Line) (now qi sc : Nat)

theorem faxScored_lastQi : (l.faxScored now qi sc).quality.lastQi = qi := by
  unfold Line.faxScored
  split <;> rfl

theorem faxScored_lastS : (l.faxScored now qi sc).quality.lastS = sc := by
  unfold Line.faxScored
  split <;> rfl

theorem faxScored_a : (l.faxScored now qi sc).quality.a =
    if l.fax.phase = .train then l.quality.a else accumulate l.quality.a sc := by
  unfold Line.faxScored
  split <;> rfl

end

theorem faxRecord_eq (now : Ms) {l : Line} (hrole : l.fax.role = some .receiver) :
    (l.recordsFrom now).faxRecord r = l.faxScored now (intervalQuality r) (score r l.profile.impulsePenalty) := by
  have hhalf : (l.recordsFrom now).receiver? = some l.fax := half_of_role (l := l.recordsFrom now) hrole
  unfold Line.faxRecord
  simp only [hhalf, quality_score_eq]
  unfold Line.modReceiver Line.recordsFrom Line.faxScored
  dsimp only
  rw [if_pos hrole]
  generalize intervalQuality r = qi
  generalize score r l.profile.impulsePenalty = sc
  rfl

section
variable (hst : (s.line i).state = .fax) (hrole : (s.line i).fax.role = some .receiver)
  (hmeasured : (s.line i).fax.measured = true) (hv : r.valid = true)
  (hnext : (s.line i).quality.nextRecord = some d) (hd : d ≤ s.now)
include hst hrole hmeasured hv hnext hd

theorem exec_measurementRecord_fax : exec (.measurementRecord i r) s = .next (s.modLine i
    (Line.faxScored s.now (intervalQuality r) (score r (s.line i).profile.impulsePenalty))) := by
  have hrow := row_fax hst
  have hhalf : (s.line i).receiver? = some (s.line i).fax := half_of_role hrole
  have hdue : (s.line i).recordDue s.now = true := by simp [Line.recordDue, hnext, due_some hd, hrow, hhalf, hmeasured]
  have hline : (s.line i).nextInterval s.now = (s.line i).recordsFrom s.now := by simp [Line.nextInterval, hrow]
  have hrow' : ((s.line i).recordsFrom s.now).row = .fax := hrow
  have hrate : ((s.line i).recordsFrom s.now).rateIs .steady = false := by simp [Line.rateIs, hrow']
  simp only [exec_measurementRecord, execMeasurementRecord, hdue, if_true, line_modLine_same, hline, hv, hrow', hrate,
    modLine_modLine, Bool.true_eq_false, Bool.false_eq_true, if_false]
  refine congrArg _ (modLine_congr s i ?_)
  rw [hline, faxRecord_eq s.now hrole]

theorem exec_measurementRecord_fax_heard : nextHolds (exec (.measurementRecord i r) s) (fun t =>
    (t.line i).quality.lastQi = intervalQuality r ∧
    (t.line i).quality.lastS = score r (s.line i).profile.impulsePenalty ∧
    (t.line i).quality.a = if (s.line i).fax.phase = .train then (s.line i).quality.a
      else accumulate (s.line i).quality.a (t.line i).quality.lastS) := by
  have hrun := exec_measurementRecord_fax hst hrole hmeasured hv hnext hd
  generalize intervalQuality r = qi at hrun ⊢
  generalize score r (s.line i).profile.impulsePenalty = sc at hrun ⊢
  refine nextHolds_of_modLine hrun fun t _ _ hl => ?_
  rw [hl, faxScored_lastQi, faxScored_lastS, faxScored_a]
  exact ⟨rfl, rfl, rfl⟩

end

/-! ## Records of a data call (R76, R77, R82) -/

/-- What the end of a call keeps of the quality state. -/
theorem callEnd_inj {k k' : Quality} (h : k.callEnd = k'.callEnd) :
    k.lastQi = k'.lastQi ∧ k.lastS = k'.lastS ∧ k.a = k'.a := by
  simpa [Quality.callEnd] using h

/-- Whatever is decided on a record of STEADY, its score stays and moves A. -/
theorem decideRate_recorded {o : Result} {qi sc : Nat} (hst : (s.line i).state = .data)
    (ho : o = .next ((s.modLine i (Line.recorded s.dataLadder qi sc d)).decideRate i)) :
    nextHolds o (fun t => (t.line i).quality.lastQi = qi ∧ (t.line i).quality.lastS = sc ∧
      (t.line i).quality.a = accumulate (s.line i).quality.a (t.line i).quality.lastS) := by
  have hheard : (((s.modLine i (Line.recorded s.dataLadder qi sc d)).decideRate i).line i).quality.callEnd =
      ((s.line i).recorded s.dataLadder qi sc d).quality.callEnd := by
    rw [decideRate_heard, line_modLine_same]
    rw [line_modLine_same]
    exact fun h => absurd (hst.symm.trans h) (by decide)
  obtain ⟨hqi, hsc, ha⟩ := callEnd_inj hheard
  refine ⟨_, ho, ?_⟩
  beta_reduce
  rw [hqi, hsc, ha]
  exact ⟨rfl, rfl, rfl⟩

/-- A training record, scored: it gives the try its score (R82). -/
def Line.tryScored (now : Ms) (qi sc : Nat) (l : Line) : Line := { l with quality := { l.quality with
  lastQi := qi, lastS := sc, tryQt := some sc, nextTraining := some (now + 125) } }

theorem exec_trainingRecord_scored (hst : (s.line i).state = .data) (hrc : (s.line i).quality.rc = .retraining)
    (hv : r.valid = true) (hnext : (s.line i).quality.nextTraining = some d) (hd : d ≤ s.now) :
    exec (.trainingRecord i r) s = .next (s.modLine i
      (Line.tryScored s.now (intervalQuality r) (score r (s.line i).profile.impulsePenalty))) := by
  rw [exec_trainingRecord_valid hst hrc hv hnext hd]
  refine congrArg _ (modLine_congr s i ?_)
  rw [Line.tryScored]

theorem nextHolds_tryScored {o : Result} {now qi sc : Nat} (ho : o = .next (s.modLine i (Line.tryScored now qi sc))) :
    nextHolds o (fun t => (t.line i).quality.lastQi = qi ∧ (t.line i).quality.lastS = sc ∧
      (t.line i).quality.a = (s.line i).quality.a) := by
  refine nextHolds_of_modLine ho fun t _ _ hl => ?_
  rw [hl]
  exact ⟨rfl, rfl, rfl⟩

/-! ## The obligation -/

theorem intervalQuality_bounds (r : MeasRecord) : intervalQuality r ≤ 160 ∧
    (∀ k, k ≤ 160 → r.ee ^ 40 * 10 ^ k ≤ r.es ^ 40 → k ≤ intervalQuality r) ∧
    (r.ee ≤ r.es → r.ee ^ 40 * 10 ^ intervalQuality r ≤ r.es ^ 40) ∧
    (r.ee = 0 → intervalQuality r = 160) ∧ (r.es < r.ee → intervalQuality r = 0) ∧
    (r.es = r.ee → r.ee ≠ 0 → intervalQuality r = 0) ∧ (10000 * r.ee ≤ r.es → intervalQuality r = 160) := by
  have htop := @intervalQuality_eq_top r
  unfold intervalQuality at *
  exact ⟨qiUpTo_le _ _ _, fun _ hk h => le_qiUpTo hk h, fun h => qiUpTo_allowed h _,
    fun h => htop (by simp [h]), fun h => qiUpTo_eq_zero h.le (Nat.ne_zero_of_lt h) _,
    fun h hee => qiUpTo_eq_zero h.le hee _, fun h => htop (top_of_strong h)⟩

/-- Settles O35: the arithmetic by the facts of `intervalQuality`, `score` and `accumulate`, and each place that scores
a record by the rule of its event. -/
theorem qualityArithmetic : Obligations.QualityArithmetic := by
  unfold Obligations.QualityArithmetic
  refine ⟨intervalQuality_bounds, score_cast, fun a sc ha hsc => ⟨Eq.refl _, accumulate_bounds ha hsc⟩,
    fun k => Eq.refl _,
    fun s i r d hst hrc hv hnext hd => decideRate_recorded hst (exec_measurementRecord_steady hst hrc hv hnext hd),
    fun s i r d hst hrole hphase hbegun hv hnext hd => ?_,
    fun s i r d hst hrc hv hnext hd => nextHolds_tryScored (exec_trainingRecord_scored hst hrc hv hnext hd),
    fun s i r d hst hrole hphase hcheck hv hnext hd => ?_,
    fun s i t0 qt d hst hrc htarget hqt hq hend hd => ?_,
    fun s i k qt n hrole hphase hcheck hqt hstep hk hceil hn => ?_⟩
  · have hmeasured : (s.line i).fax.measured = true := by simp [Fax.measured, hphase, hbegun]
    simpa only [hphase, reduceCtorEq, if_false] using
      exec_measurementRecord_fax_heard hst hrole hmeasured hv hnext hd
  · have hmeasured : (s.line i).fax.measured = true := by simp [Fax.measured, hphase, hcheck]
    simpa only [hphase, if_true] using exec_measurementRecord_fax_heard hst hrole hmeasured hv hnext hd
  · refine ⟨_, exec_trainingOutcome_succeeds hst hrc htarget hqt hq hend hd, ?_⟩
    beta_reduce
    rw [trySucceeded_quality]
    exact ⟨Eq.refl _, Nat.mul_div_cancel_left qt (by decide)⟩
  · obtain ⟨q, hq⟩ := trainGood_eq hrole qt
    have hgood := checkGood_some hqt hstep hk hceil hn
    refine nextHolds_of_modLine ((exec_faxCheckEnd_good hrole hphase hcheck hgood).trans (congrArg _ hq)) fun t _ _ hl => ?_
    rw [hl]
    exact ⟨Eq.refl _, Nat.mul_div_cancel_left qt (by decide)⟩

end Sys2Proof.Machine
end

section
/-! SUPPORT. A verdict at the sender (R125, R128, R136): what is noted of it, the next page of a stored document, the
training, and the end. -/

namespace Sys2Proof.Machine

variable {s t : State} {i : LineId} {v : Verdict} {stop : Bool} {q n u k id : Nat}

/-! ## A stored page begins (R125, R148) -/

theorem emptyStage_area (s : State) (i : LineId) (k : AreaId) : (s.emptyStage i).area k =
    if s.joined i .stage = some k then { s.area k with fifo := [], marks := [], flow := .go } else s.area k := by
  unfold State.emptyStage
  cases hj : s.joined i .stage with
  | none => simp
  | some j =>
    rw [emptyArea_area]
    by_cases hk : k = j
    · subst hk
      simp
    · rw [if_neg hk, if_neg fun h => hk (Option.some.inj h).symm]

/-- What a reader changes: its line's stage and notices, and its STAGE area, which it empties. -/
theorem startReading_effect (pos len : Nat) : let t := s.startReading i id pos len
    t = { s with lines := t.lines, areas := t.areas } ∧ othersSame i s t ∧
    t.line i = { s.line i with queue := (t.line i).queue, stage := .reading id pos (pos + len) } ∧
    (∀ k, s.joined i .stage = some k → t.area k = { s.area k with fifo := [], marks := [], flow := .go }) ∧
    (∀ k, s.joined i .stage ≠ some k → t.area k = s.area k) := by
  have hapart : (s.startReading i id pos len).apart i = s.apart i :=
    (modLine_apart _ i _).trans (emptyStage_apart s i)
  have harea (k : AreaId) : (s.startReading i id pos len).area k = (s.emptyStage i).area k := rfl
  refine ⟨eq_of_apart hapart, othersSame_of_apart hapart, startReading_line id pos len, fun k hk => ?_, fun k hk => ?_⟩
  · rw [harea, emptyStage_area, if_pos hk]
  · rw [harea, emptyStage_area, if_neg hk]

/-- A page of a stored document begins, read from the range of its record. -/
theorem beginStorePage_eq {e : Entry} {p : PageRecord} (hrole : (s.line i).fax.role = some .sender)
    (hsource : (s.line i).fax.source = some (.store id)) (hentry : s.entry? id = some e)
    (hpage : e.pages[(s.line i).fax.docPos]? = some p) : s.beginStorePage i =
    (s.modLine i (fun l => { l with fax := l.fax.beginPage })).startReading i id p.start p.length := by
  have hid : e.id = id := by simpa using List.find?_some hentry
  have hget : e.pages.getD (s.line i).fax.docPos ⟨0, 0, .good, false⟩ = p := by simp [List.getD, hpage]
  simp only [State.beginStorePage, State.document, hsource, hentry, hget, hid, modFax_of_role _ hrole]

theorem nextPage_store {e : Entry} {p : PageRecord} (hrole : (s.line i).fax.role = some .sender)
    (hsource : (s.line i).fax.source = some (.store id)) (hentry : s.entry? id = some e)
    (hpage : e.pages[(s.line i).fax.docPos]? = some p) : s.nextPage i = (s.modLine i (fun l => { l with
      fax := ({ l.fax with phase := .page, awaited := none } : Fax).beginPage })).startReading i id p.start
        p.length := by
  simp only [State.nextPage, modFax_of_role _ hrole, line_modLine_same, hsource]
  have hentry' (f : Line → Line) : (s.modLine i f).entry? id = some e := hentry
  rw [beginStorePage_eq (hentry := hentry' _), modLine_modLine]
  all_goals rw [line_modLine_same]
  · exact hrole
  · exact hsource
  · exact hpage

/-! ## The verdict noted (R128) -/

/-- The line once its sender has noted a verdict: Q, the pages count and the stop flag. -/
def Line.verdictNoted (v : Verdict) (stop : Bool) (q : Nat) (l : Line) : Line := { l with
  quality := { l.quality with a := 8 * q }
  fax := { l.fax with
    pages := if v = .bad then l.fax.pages else up255 l.fax.pages, begun := false, awaited := none
    stop := l.fax.stop || stop } }

theorem noteVerdict_eq (hst : (s.line i).state = .fax) (hrole : (s.line i).fax.role = some .sender) :
    ∃ w, s.noteVerdict i (s.line i).fax v stop q =
      s.modLine i (fun l => { l.verdictNoted v stop q with queue := w }) := by
  have hscored : s.modLine i (fun l => if l.state = .loopback then l else { l with quality.a := 8 * q }) =
      s.modLine i (fun l => { l with quality.a := 8 * q }) := modLine_congr s i (by simp [hst])
  obtain ⟨w, hw⟩ := notifyLine_modLine (s := s) (i := i) (fun l => { l with quality.a := 8 * q })
    (.pageDone (s.line i).fax.pageNo v (s.line i).fax.tally.lines none none)
  refine ⟨w, ?_⟩
  unfold State.noteVerdict
  dsimp only
  rw [hscored, hw, modFax_of_role, modLine_modLine]
  · rfl
  · rw [line_modLine_same]
    exact hrole

theorem noted_lastToSend (w : NoticeQueue) :
    (s.modLine i (fun l => { l.verdictNoted v stop q with queue := w })).lastToSend i v = s.lastToSend i v := by
  simp only [State.lastToSend, line_modLine_same]
  rfl

/-- The sender of a stored document as its next page begins on a verdict. -/
def Line.storedPage (q : Nat) (l : Line) : Fax := ({ (l.verdictNoted .good false q).fax with
  docPos := l.fax.docPos + 1, docResends := 0, phase := .page, awaited := none } : Fax).beginPage

/-! ## What it makes the sender do (R125, R136) -/

theorem lastToSend_more (hended : (s.line i).fax.ended = some .more) : s.lastToSend i v = false := by
  unfold State.lastToSend
  dsimp only
  split <;> simp [hended]

theorem lastToSend_resend (hsource : (s.line i).fax.source = some (.store id)) (hn : (s.line i).fax.docResends < 2) :
    s.lastToSend i .bad = false := by
  simp [State.lastToSend, hsource, hn]

theorem lastToSend_last (hended : (s.line i).fax.ended = some .last) (hsource : (s.line i).fax.source = some .host ∨
    (s.line i).fax.source = some (.store id) ∧ (v = .bad → 2 ≤ (s.line i).fax.docResends)) :
    s.lastToSend i v = true := by
  rcases hsource with hsource | ⟨hsource, hn⟩
  · simp [State.lastToSend, hsource, hended]
  · have hno : ¬ (v = .bad ∧ (s.line i).fax.docResends < 2) := fun ⟨hv, hlt⟩ => absurd (hn hv) (Nat.not_le.2 hlt)
    simpa [State.lastToSend, hsource, hended, or_iff_not_imp_left] using hno

theorem afterVerdict_host {f : Fax} (h : f.source = some .host) : f.afterVerdict v = f := by
  simp [Fax.afterVerdict, h]

theorem afterVerdict_again {f : Fax} (h : f.source = some (.store id)) (hn : f.docResends < 2) :
    f.afterVerdict .bad = { f with docResends := f.docResends + 1 } := by
  simp [Fax.afterVerdict, h, hn]

theorem afterVerdict_onward {f : Fax} (h : f.source = some (.store id)) (hn : v = .bad → 2 ≤ f.docResends) :
    f.afterVerdict v = { f with docPos := f.docPos + 1, docResends := 0 } := by
  have hno : ¬ (v = .bad ∧ f.docResends < 2) := fun ⟨hv, hlt⟩ => absurd (hn hv) (Nat.not_le.2 hlt)
  simp only [Fax.afterVerdict, h, if_neg hno]

theorem afterVerdict_step (f : Fax) : (f.afterVerdict v).step = f.step := by
  unfold Fax.afterVerdict
  split
  · split_ifs <;> rfl
  · rfl

theorem afterVerdict_role (f : Fax) : (f.afterVerdict v).role = f.role := by
  unfold Fax.afterVerdict
  split
  · split_ifs <;> rfl
  · rfl

section
variable (hrole : (s.line i).fax.role = some .sender)
include hrole

theorem actOnVerdict_ends (hphase : (s.line i).fax.phase ≠ .close) (hterms : (s.line i).fax.terms.isSome = true)
    (hlast : s.lastToSend i v = true ∨ stop = true) : s.actOnVerdict i v stop q =
    s.modLine i (Line.faxEnded (if s.lastToSend i v = true then .done else .remote)) := by
  unfold State.actOnVerdict
  rcases Bool.eq_false_or_eq_true (s.lastToSend i v) with h | h
  · rw [if_pos h, if_pos h, endFax_sender _ hrole hphase hterms]
  · have hstop : stop = true := by simpa [h] using hlast
    rw [if_neg (by simp [h]), if_pos hstop, if_neg (by simp [h]), endFax_sender _ hrole hphase hterms]

/-- The training a verdict asks for, at the retrain target (R94). -/
theorem actOnVerdict_retrains (hlast : s.lastToSend i v = false) (hv : v ≠ .good)
    (hstep : (s.line i).fax.step = some k) : s.actOnVerdict i v false q = s.modLine i (fun l => { l with
      fax := (l.fax.afterVerdict v).train s.now (bestStep s.faxLadder l.copies.faxFloor q (k + 1)) .page }) := by
  have hline : (s.modLine i (fun l => { l with fax := l.fax.afterVerdict v })).line i =
      { s.line i with fax := (s.line i).fax.afterVerdict v } := line_modLine_same s i _
  simp only [State.actOnVerdict, hlast, Bool.false_eq_true, if_false, if_neg hv, modFax_of_role _ hrole,
    State.retrainFax, hline, afterVerdict_step, hstep, Option.getD_some, retrainTarget]
  rw [modFax_of_role _ (by rw [hline]; exact (afterVerdict_role _).trans hrole), modLine_modLine]
  exact modLine_congr s i rfl

theorem actOnVerdict_goesOn (hlast : s.lastToSend i .good = false) : s.actOnVerdict i .good false q =
    (s.modLine i (fun l => { l with fax := l.fax.afterVerdict .good })).nextPage i := by
  simp only [State.actOnVerdict, hlast, Bool.false_eq_true, if_false, if_true, modFax_of_role _ hrole]

end

/-! ## The verdict received -/

section
variable {m : FaxMsg} (hst : (s.line i).state = .fax) (hrole : (s.line i).fax.role = some .sender)
  (hphase : (s.line i).fax.phase = .afterPage) (hawaited : (s.line i).fax.awaited = some ⟨m, n, u⟩)
  (hm : m.isClose = true)
include hst hrole hphase hawaited hm

theorem exec_faxVerdictReceived_eq : ∃ w, exec (.faxVerdictReceived i v stop q) s =
    .next ((s.modLine i (fun l => { l.verdictNoted v stop q with queue := w })).actOnVerdict i v stop q) := by
  have hawaits : (s.line i).fax.awaits FaxMsg.isClose = true := by simp [Fax.awaits, hawaited, hm]
  obtain ⟨w, hw⟩ := noteVerdict_eq (v := v) (stop := stop) (q := q) hst hrole
  refine ⟨w, ?_⟩
  simp only [exec_faxVerdictReceived, execFaxVerdictReceived, half_of_role hrole, hphase, hawaits, and_self, if_true,
    hw]

theorem verdict_ends (hterms : (s.line i).fax.terms.isSome = true) (hlast : s.lastToSend i v = true ∨ stop = true) :
    ∃ w, exec (.faxVerdictReceived i v stop q) s =
      .next (s.modLine i (fun l => ({ l.verdictNoted v stop q with queue := w } : Line).faxEnded
        (if s.lastToSend i v = true then .done else .remote))) := by
  obtain ⟨w, hw⟩ := exec_faxVerdictReceived_eq (v := v) (stop := stop) (q := q) hst hrole hphase hawaited hm
  have hsame := noted_lastToSend (s := s) (i := i) (v := v) (stop := stop) (q := q) w
  refine ⟨w, ?_⟩
  rw [hw, actOnVerdict_ends, hsame, modLine_modLine]
  · rw [line_modLine_same]
    exact hrole
  · rw [line_modLine_same]
    exact fun h => absurd (hphase.symm.trans h) (by decide)
  · rw [line_modLine_same]
    exact hterms
  · rwa [hsame]

theorem verdict_retrains (hlast : s.lastToSend i v = false) (hv : v ≠ .good) (hstep : (s.line i).fax.step = some k) :
    ∃ w, exec (.faxVerdictReceived i v false q) s =
      .next (s.modLine i (fun l => { ({ l.verdictNoted v false q with queue := w } : Line) with
        fax := ((l.verdictNoted v false q).fax.afterVerdict v).train s.now
          (bestStep s.faxLadder l.copies.faxFloor q (k + 1)) .page })) := by
  obtain ⟨w, hw⟩ := exec_faxVerdictReceived_eq (v := v) (stop := false) (q := q) hst hrole hphase hawaited hm
  refine ⟨w, ?_⟩
  rw [hw, actOnVerdict_retrains (k := k), modLine_modLine]
  · exact congrArg _ (modLine_congr s i rfl)
  · rw [line_modLine_same]
    exact hrole
  · rwa [noted_lastToSend]
  · exact hv
  · rw [line_modLine_same]
    exact hstep

theorem verdict_goesOn (hlast : s.lastToSend i .good = false) : ∃ w, exec (.faxVerdictReceived i .good false q) s =
    .next ((s.modLine i (fun l => { ({ l.verdictNoted .good false q with queue := w } : Line) with
      fax := (l.verdictNoted .good false q).fax.afterVerdict .good })).nextPage i) := by
  obtain ⟨w, hw⟩ := exec_faxVerdictReceived_eq (v := .good) (stop := false) (q := q) hst hrole hphase hawaited hm
  refine ⟨w, ?_⟩
  rw [hw, actOnVerdict_goesOn, modLine_modLine]
  · rw [line_modLine_same]
    exact hrole
  · rwa [noted_lastToSend]

/-- A host sender awaits its next page (R124). -/
theorem verdict_awaitsPage (hsource : (s.line i).fax.source = some .host) (hlast : s.lastToSend i .good = false)
    (htx : s.txHolds i = false) : ∃ w, exec (.faxVerdictReceived i .good false q) s =
    .next (s.modLine i (fun l => { l.verdictNoted .good false q with
      queue := w
      fax := { (l.verdictNoted .good false q).fax with
        phase := .page, awaited := none, fill := some (s.now + 5000) } })) := by
  obtain ⟨w, hw⟩ := verdict_goesOn (q := q) hst hrole hphase hawaited hm hlast
  have hafter := afterVerdict_host (v := .good) (f := ((s.line i).verdictNoted .good false q).fax) hsource
  have htx' (f : Line → Line) : (s.modLine i f).txHolds i = false := htx
  refine ⟨w, ?_⟩
  rw [hw, modLine_congr (g := fun l => { l.verdictNoted .good false q with queue := w }) s i (by rw [hafter]),
    nextPage_host (htx := htx' _), modLine_modLine]
  · rfl
  all_goals rw [line_modLine_same]
  · exact hrole
  · exact hsource

/-- A sender from the store begins its next page at once (R125). -/
theorem verdict_beginsPage {e : Entry} {p : PageRecord} (hsource : (s.line i).fax.source = some (.store id))
    (hlast : s.lastToSend i .good = false) (hentry : s.entry? id = some e)
    (hpage : e.pages[(s.line i).fax.docPos + 1]? = some p) : ∃ w, exec (.faxVerdictReceived i .good false q) s =
    .next ((s.modLine i (fun l => { l.verdictNoted .good false q with
      queue := w, fax := l.storedPage q })).startReading i id p.start p.length) := by
  obtain ⟨w, hw⟩ := verdict_goesOn (q := q) hst hrole hphase hawaited hm hlast
  have hafter := afterVerdict_onward (v := .good) (f := ((s.line i).verdictNoted .good false q).fax) hsource
    (fun h => absurd h (by decide))
  have hentry' (f : Line → Line) : (s.modLine i f).entry? id = some e := hentry
  refine ⟨w, ?_⟩
  rw [hw, modLine_congr (g := fun l => { l.verdictNoted .good false q with
      queue := w
      fax := { (l.verdictNoted .good false q).fax with docPos := l.fax.docPos + 1, docResends := 0 } }) s i
    (by rw [hafter]; rfl),
    nextPage_store (id := id) (e := e) (p := p) (hentry := hentry' _), modLine_modLine]
  · rfl
  all_goals rw [line_modLine_same]
  · exact hrole
  · exact hsource
  · exact hpage

end

/-! ## The obligation -/

theorem isClose_of_mark (m : PageMark) : (if m = .more then FaxMsg.morePages else .lastPage).isClose = true := by
  cases m <;> rfl

/-- Settles O51: each verdict by one of `verdict_goesOn`, `verdict_retrains` and `verdict_ends`, on whether the page was
the last to send. -/
theorem faxVerdictActs : Obligations.FaxVerdictActs := by
  unfold Obligations.FaxVerdictActs
  refine ⟨fun s i q n u hst hrole hphase hawaited hsource hended htx => ?_,
    fun s i q n u k hst hrole hphase hawaited hsource hended hstep => ?_,
    fun s i q n u v x hst hrole hphase hawaited hsource hended hterms => ?_,
    fun s i q n u id e p hst hrole hphase hawaited hsource hended hentry hpage => ?_,
    fun s i q n u id k m hst hrole hphase hawaited hsource hended hn hstep => ?_,
    fun s i q n u id k v hst hrole hphase hawaited hsource hended hv hn hstep => ?_,
    fun s i q n u id v stop x hst hrole hphase hawaited hended hsource hterms => ?_,
    fun s i q n u id v m x hst hrole hphase hawaited hended hcase hterms => ?_⟩
  · obtain ⟨w, hw⟩ := verdict_awaitsPage (q := q) hst hrole hphase hawaited rfl hsource (lastToSend_more hended) htx
    refine nextHolds_of_modLine hw fun t ht hothers hl => ?_
    rw [hl]
    exact ⟨ht, rfl, rfl, rfl, rfl, rfl, rfl, hothers⟩
  · obtain ⟨w, hw⟩ := verdict_retrains (q := q) hst hrole hphase hawaited rfl (lastToSend_more hended)
      (v := .bad) (by decide) hstep
    refine nextHolds_of_modLine hw fun t ht hothers hl => ?_
    rw [hl, afterVerdict_host (by exact hsource)]
    exact ⟨ht, rfl, rfl, rfl, rfl, rfl, hothers⟩
  · have hlast : s.lastToSend i v = true := lastToSend_last (id := 0) hended (.inl hsource)
    obtain ⟨w, hw⟩ := verdict_ends (q := q) (stop := false) hst hrole hphase hawaited rfl (by simp [hterms])
      (.inl hlast)
    rw [if_pos hlast] at hw
    refine nextHolds_of_modLine hw fun t ht hothers hl => ?_
    rw [hl]
    exact ⟨ht, rfl, rfl, rfl, rfl, hothers⟩
  · obtain ⟨w, hw⟩ := verdict_beginsPage (q := q) hst hrole hphase hawaited rfl hsource (lastToSend_more hended) hentry
      hpage
    obtain ⟨hframe, hothers, hline, hempty, hbeside⟩ := startReading_effect (s := s.modLine i (fun l =>
      { l.verdictNoted .good false q with queue := w, fax := l.storedPage q })) (i := i) (id := id) p.start p.length
    rw [line_modLine_same] at hline
    refine ⟨_, hw, hframe, ?_⟩
    rw [hline]
    exact ⟨rfl, rfl, rfl, rfl, rfl, rfl, rfl, fun j hj => congrArg Area.fifo (hempty j hj), hbeside,
      fun j hj => (hothers j hj).trans (line_modLine_ne s i j _ hj)⟩
  · obtain ⟨w, hw⟩ := verdict_retrains (q := q) hst hrole hphase hawaited (isClose_of_mark m)
      (lastToSend_resend hsource hn) (by decide) hstep
    refine nextHolds_of_modLine hw fun t ht hothers hl => ?_
    rw [hl, afterVerdict_again (id := id) (by exact hsource) (by exact hn)]
    exact ⟨ht, rfl, rfl, rfl, rfl, rfl, rfl, rfl, hothers⟩
  · obtain ⟨w, hw⟩ := verdict_retrains (q := q) hst hrole hphase hawaited rfl (lastToSend_more hended) hv hstep
    refine nextHolds_of_modLine hw fun t ht hothers hl => ?_
    rw [hl, afterVerdict_onward (id := id) (by exact hsource) (by exact hn)]
    exact ⟨ht, rfl, rfl, rfl, rfl, rfl, rfl, hothers⟩
  · have hlast : s.lastToSend i v = true := lastToSend_last hended hsource
    obtain ⟨w, hw⟩ := verdict_ends (q := q) (stop := stop) hst hrole hphase hawaited rfl (by simp [hterms])
      (.inl hlast)
    rw [if_pos hlast] at hw
    refine nextHolds_of_modLine hw fun t ht hothers hl => ?_
    rw [hl]
    exact ⟨ht, rfl, rfl, rfl, rfl, hothers⟩
  · have hlast : s.lastToSend i v = false := by
      rcases hcase with hm | ⟨hsource, hv, hn⟩
      · exact lastToSend_more (hended.trans (congrArg some hm))
      · exact hv ▸ lastToSend_resend hsource hn
    obtain ⟨w, hw⟩ := verdict_ends (v := v) (q := q) hst hrole hphase hawaited (isClose_of_mark m) (by simp [hterms])
      (.inr rfl)
    rw [if_neg (by simp [hlast])] at hw
    refine nextHolds_of_modLine hw fun t ht hothers hl => ?_
    rw [hl]
    exact ⟨ht, rfl, rfl, rfl, rfl, Bool.or_true _, hothers⟩

end Sys2Proof.Machine
end

section
/-! SUPPORT. RATE_REQUEST and QUALITY_READ (R92, R93), FAX_DOCUMENT (R137) and LINE_STATUS (R181). -/

namespace Sys2Proof.Machine

variable {s t : State} {d : Directive} {i : LineId} {k : AreaId} {code : Byte} {id n : Nat}

/-! ## Directives on one line -/

theorem lineOf_part {b : Byte} (h : b = 0x0E ∨ b = 0x0F) : lineOf? b = none := by
  rcases h with rfl | rfl <;> rfl

/-- No directive on one line takes the values that name the part or all lines (R175). -/
theorem onLine_unknown {α : Type} {p : Arg α} {f : LineId → Option α → State → Answer} (hs : s.takes)
    (hl : lineOf? d.line = none) (hcode : resets code .refusedUnknown = false) :
    s.directive code d (onLine p f) = s.reply ⟨code, d.tag, .refusedUnknown, []⟩ :=
  directive_refused hs (by simp [onLine, hl]) hcode

/-- A directive that changes its line alone. -/
theorem repliesWith_modLine {run : Directive → State → Answer} {f : Line → Line} {st : Status} {res : List Byte}
    {p : State → Prop} (h : s.takes) (hrun : run d (s.inHand code d) = ((s.modLine i f).inHand code d).answer st res)
    (hcode : resets code st = false)
    (hp : ∀ t : State, t = { s with lines := t.lines } → othersSame i s t → t.line i = f (s.line i) → p t) :
    repliesWith (.next (s.directive code d run)) s ⟨code, d.tag, st, res⟩ p :=
  repliesWith_exact h hrun rfl rfl hcode
    (hp _ (eq_of_without (modLine_without s i f)) (othersSame_of_without (modLine_without s i f))
      (line_modLine_same s i f))

/-! ## RATE_REQUEST (R92) -/

theorem renegotiate_beside (now : Ms) (target : Nat) (cause : RateCause) (l : Line) : l.renegotiate now target cause =
    { l with
      quality := (l.renegotiate now target cause).quality, link := (l.renegotiate now target cause).link } := by
  rw [renegotiate_quality]
  exact renegotiate_eq now target cause l

section
variable (hl : lineOf? d.line = some i) (hst : (s.line i).state = .data) (hrc : (s.line i).quality.rc = .steady)
include hl hst hrc

theorem runRateRequest_begins (ha : argPair.read d.args = .good (n, 0)) : runRateRequest d s =
    (s.modLine i (Line.renegotiate s.now ((s.line i).quality.clampToBounds n) .host)).answer .started
      [byte ((s.line i).quality.clampToBounds n)] := by
  have hsteady : (s.line i).steadyData = true := rateIs_data hst hrc
  unfold runRateRequest
  rw [onLine_good hl ha]
  simp [bool?, hsteady]

theorem runRateRequest_trial (ha : argPair.read d.args = .good (n, 1)) : runRateRequest d s =
    s.answer .ok [byte ((s.line i).quality.clampToBounds n), byte (fallBackTarget s.dataLadder
      ((s.line i).quality.floor.getD 0) ((s.line i).quality.step.getD 0) (s.line i).quality.q)] := by
  have hsteady : (s.line i).steadyData = true := rateIs_data hst hrc
  unfold runRateRequest
  rw [onLine_good hl ha]
  simp [bool?, hsteady]

end

/-! ## LINE_STATUS (R181) -/

/-- The line whose status was read: the change flags are cleared, and a notice of them has nothing left to say. -/
def Line.statusRead (l : Line) : Line := { l with
  signals := l.signals.clear
  queue := { l.queue with entries := l.queue.entries.filter (fun n => decide (n.kind ≠ .signals)) } }

theorem runLineStatus_eq (hl : lineOf? d.line = some i) (ha : d.args = []) : runLineStatus d s =
    (s.modLine i Line.statusRead).answer .ok
      ([byte (s.line i).state.place, byte (s.line i).job.place, byte (s.line i).direction.place] ++
        encByteOpt (s.line i).quality.step ++ [byte (s.line i).quality.q] ++ encSigned (s.line i).tone.nf ++
        encOpt (encNum 2) (s.occupancy? i .tx) ++ encOpt (encNum 2) (s.occupancy? i .rx) ++
        encOpt (encNum 2) (s.occupancy? i .stage) ++ (s.line i).signals.encode) := by
  have hread : (Arg.pure ()).read d.args = .good () := by rw [ha, read_none]
  exact onLine_good hl hread

/-! ## FAX_DOCUMENT (R137) -/

theorem sendable_iff : s.sendable id = true ↔
    ∃ e, s.entry? id = some e ∧ e.kind = .fax ∧ (e.state = .new ∨ e.state = .kept) := by
  have hstate (m : MsgState) : m ≠ .opened ↔ m = .new ∨ m = .kept := by cases m <;> decide
  unfold State.sendable
  cases s.entry? id with
  | none => simp
  | some e => simp [hstate]

/-- The line whose sender takes a stored document. -/
def Line.documentTaken (id : Nat) (l : Line) : Line := { l with
  faxSource := some (.store id)
  fax := { l.fax with source := some (.store id), docPos := 0, docResends := 0, fill := none } }

/-- The part once a sender has taken a stored document, which it will read through the area `k`. -/
def State.documentTaken (s : State) (i : LineId) (id : Nat) (k : AreaId) : State :=
  ((s.modLine i (Line.documentTaken id)).markFaxing id i).modArea k (fun a => { a with inUse := some i })

section
variable (s i id k)

theorem documentTaken_line : (s.documentTaken i id k).line i = (s.line i).documentTaken id := line_modLine_same s i _

theorem documentTaken_othersSame : othersSame i s (s.documentTaken i id k) := fun j hj => line_modLine_ne s i j _ hj

theorem documentTaken_entry : (s.documentTaken i id k).entry? id =
    (s.entry? id).map (fun e => { e with faxing := e.faxing.filter (· != i) ++ [i] }) :=
  entry_modEntry_same _ _ _ fun _ => rfl

theorem documentTaken_area : (s.documentTaken i id k).area k = { s.area k with inUse := some i } :=
  area_modArea_same ..

theorem documentTaken_area_ne {j : AreaId} (h : j ≠ k) : (s.documentTaken i id k).area j = s.area j :=
  area_modArea_ne _ _ _ _ h

theorem documentTaken_joined (p : Purpose) : (s.documentTaken i id k).joined i p = s.joined i p := by
  have hjoin (j : AreaId) : ((s.documentTaken i id k).area j).join = (s.area j).join := by
    by_cases hj : j = k
    · rw [hj, documentTaken_area]
    · rw [documentTaken_area_ne _ _ _ _ hj]
  simp only [State.joined, hjoin]

end

theorem takeDocument_eq (hk : s.joined i .stage = some k) : s.takeDocument i id =
    if (s.line i).fax.phase = .page then (s.documentTaken i id k).beginStorePage i else s.documentTaken i id k := by
  have huse : State.useArea .page i ((s.modLine i (Line.documentTaken id)).markFaxing id i) .stage =
      s.documentTaken i id k := by
    have hk' : ((s.modLine i (Line.documentTaken id)).markFaxing id i).joined i .stage = some k := hk
    simp only [State.useArea, hk']
    rfl
  have hphase : ((s.documentTaken i id k).line i).fax.phase = (s.line i).fax.phase := by
    rw [documentTaken_line]
    rfl
  unfold State.takeDocument
  rw [← hphase, ← huse]
  rfl

@[simp] theorem inHand_startReading (pos len : Nat) :
    (s.inHand code d).startReading i id pos len = (s.startReading i id pos len).inHand code d := by
  simp [State.startReading]

@[simp] theorem inHand_beginStorePage :
    (s.inHand code d).beginStorePage i = (s.beginStorePage i).inHand code d := by
  have hmod (r : FaxRole) (f : Fax → Fax) : (s.inHand code d).modFax i r f = (s.modFax i r f).inHand code d := rfl
  have hdoc (f : Fax) : (s.inHand code d).document f = s.document f := rfl
  unfold State.beginStorePage
  simp only [inHand_line, hmod, hdoc, inHand_startReading]
  split <;> rfl

theorem inHand_takeDocument (hk : s.joined i .stage = some k) :
    (s.inHand code d).takeDocument i id = (s.takeDocument i id).inHand code d := by
  have htaken : (s.inHand code d).documentTaken i id k = (s.documentTaken i id k).inHand code d := rfl
  rw [takeDocument_eq (s := s.inHand code d) (by simpa using hk), takeDocument_eq hk, htaken, inHand_line,
    inHand_beginStorePage, ite_inHand]

/-- FAX_DOCUMENT's checks, in the order of R137. -/
theorem runFaxDocument_eq (hl : lineOf? d.line = some i) (ha : (argNum 2).read d.args = .good id) :
    runFaxDocument d s =
      if (s.line i).hostSender = false then s.refuse .refusedState
      else if (s.line i).fax.begun ∨ (s.line i).fax.phase = .close then s.refuse .refusedBusy
      else if s.store.formatted = false then s.refuse .refusedStore
      else if s.sendable id = false then s.refuse .refusedNotFound
      else if s.hasArea i .stage = false then s.refuse .refusedArea
      else (s.takeDocument i id).answer .ok [] := onLine_good hl ha

section
variable (hs : s.takes) (hl : lineOf? d.line = some i) (ha : (argNum 2).read d.args = .good id)
  (hsender : (s.line i).hostSender = true) (hbegun : (s.line i).fax.begun = false)
  (hclose : (s.line i).fax.phase ≠ .close) (hfor : s.store.formatted = true)
include hl ha

theorem runFaxDocument_state (h : (s.line i).hostSender = false) : runFaxDocument d s = s.refuse .refusedState := by
  rw [runFaxDocument_eq hl ha, if_pos h]

include hsender

theorem runFaxDocument_busy (h : (s.line i).fax.begun = true ∨ (s.line i).fax.phase = .close) :
    runFaxDocument d s = s.refuse .refusedBusy := by
  rw [runFaxDocument_eq hl ha, if_neg (by simp [hsender]), if_pos h]

include hbegun hclose

theorem runFaxDocument_free : runFaxDocument d s =
    if s.store.formatted = false then s.refuse .refusedStore
    else if s.sendable id = false then s.refuse .refusedNotFound
    else if s.hasArea i .stage = false then s.refuse .refusedArea
    else (s.takeDocument i id).answer .ok [] := by
  rw [runFaxDocument_eq hl ha, if_neg (by simp [hsender]), if_neg (by simp [hbegun, hclose])]

include hfor

theorem runFaxDocument_notFound (h : s.sendable id = false) : runFaxDocument d s = s.refuse .refusedNotFound := by
  rw [runFaxDocument_free hl ha hsender hbegun hclose, if_neg (by simp [hfor]), if_pos h]

theorem runFaxDocument_noArea (hsend : s.sendable id = true) (h : s.hasArea i .stage = false) :
    runFaxDocument d s = s.refuse .refusedArea := by
  rw [runFaxDocument_free hl ha hsender hbegun hclose, if_neg (by simp [hfor]), if_neg (by simp [hsend]), if_pos h]

theorem runFaxDocument_takes (hsend : s.sendable id = true) (hk : s.joined i .stage = some k) :
    runFaxDocument d s = (s.takeDocument i id).answer .ok [] := by
  rw [runFaxDocument_free hl ha hsender hbegun hclose, if_neg (by simp [hfor]), if_neg (by simp [hsend]),
    if_neg (by simp [State.hasArea, hk])]

end

/-- What a sender leaves as it takes a stored document outside PAGE. -/
theorem takeDocument_between (hk : s.joined i .stage = some k) (hphase : (s.line i).fax.phase ≠ .page) :
    s.takeDocument i id = s.documentTaken i id k := by
  rw [takeDocument_eq hk, if_neg hphase]

/-- In PAGE a sender that takes a stored document begins its first page at once. -/
theorem takeDocument_inPage {e : Entry} {p : PageRecord} (hk : s.joined i .stage = some k)
    (hphase : (s.line i).fax.phase = .page) (hrole : (s.line i).fax.role = some .sender) (hentry : s.entry? id = some e)
    (hpage : e.pages[0]? = some p) : s.takeDocument i id = ((s.documentTaken i id k).modLine i
      (fun l => { l with fax := l.fax.beginPage })).startReading i id p.start p.length := by
  rw [takeDocument_eq hk, if_pos hphase]
  refine beginStorePage_eq (e := { e with faxing := e.faxing.filter (· != i) ++ [i] }) ?_ ?_ ?_ ?_
  · rw [documentTaken_line]
    exact hrole
  · rw [documentTaken_line]
    rfl
  · rw [documentTaken_entry, hentry]
    rfl
  · rw [documentTaken_line]
    exact hpage

/-- The part as that page begins: the document is marked, and its range is read through the area, which is emptied. -/
theorem takeDocument_firstPage {e : Entry} {p : PageRecord} (hk : s.joined i .stage = some k)
    (hphase : (s.line i).fax.phase = .page) (hrole : (s.line i).fax.role = some .sender) (hentry : s.entry? id = some e)
    (hpage : e.pages[0]? = some p) : let t := s.takeDocument i id
    t = { s with lines := t.lines, areas := t.areas, store := { s.store with dir := t.store.dir } } ∧
    t.line i = { (s.line i).documentTaken id with
      fax := ((s.line i).documentTaken id).fax.beginPage, queue := (t.line i).queue
      stage := .reading id p.start (p.start + p.length) } ∧
    t.area k = { s.area k with inUse := some i, fifo := [], marks := [], flow := .go } ∧
    (∀ j, j ≠ k → t.area j = s.area j) ∧
    t.entry? id = some { e with faxing := e.faxing.filter (· != i) ++ [i] } ∧ othersSame i s t := by
  dsimp only
  rw [takeDocument_inPage hk hphase hrole hentry hpage]
  obtain ⟨hframe, hothers, hline, hemptied, hbeside⟩ := startReading_effect (i := i) (id := id)
    (s := (s.documentTaken i id k).modLine i (fun l => { l with fax := l.fax.beginPage })) p.start p.length
  have hjoined : ((s.documentTaken i id k).modLine i (fun l => { l with fax := l.fax.beginPage })).joined i .stage =
      some k := (documentTaken_joined s i k id .stage).trans hk
  refine ⟨?_, ?_, ?_, fun j hj => ?_, ?_, fun j hj => ?_⟩
  · rw [startReading_store]
    exact hframe
  · rw [line_modLine_same, documentTaken_line] at hline
    exact hline
  · exact (hemptied k hjoined).trans
      (congrArg (fun a : Area => { a with fifo := [], marks := [], flow := .go }) (documentTaken_area s i k id))
  · have hne : some k ≠ some j := fun h => hj (Option.some.inj h).symm
    exact (hbeside j (hjoined ▸ hne)).trans (documentTaken_area_ne s i k id hj)
  · rw [State.entry?, startReading_store]
    exact (documentTaken_entry s i k id).trans (congrArg _ hentry)
  · exact (hothers j hj).trans ((line_modLine_ne _ i j _ hj).trans (documentTaken_othersSame s i k id j hj))

theorem repliesWith_document {p : State → Prop} (hs : s.takes) (hk : s.joined i .stage = some k)
    (hrun : runFaxDocument d (s.inHand 0x50 d) = ((s.inHand 0x50 d).takeDocument i id).answer .ok [])
    (hframe : s.takeDocument i id = { s with
      lines := (s.takeDocument i id).lines, areas := (s.takeDocument i id).areas
      store := (s.takeDocument i id).store }) (hp : p (s.takeDocument i id)) :
    repliesWith (exec (.faxDocument d) s) s ⟨0x50, d.tag, .ok, []⟩ p := by
  rw [inHand_takeDocument hk] at hrun
  exact repliesWith_exact hs hrun (congrArg State.decoder hframe :) (congrArg State.replies hframe :) rfl hp

theorem hostSender_role {l : Line} (h : l.hostSender = true) : l.fax.role = some .sender := by
  simp only [Line.hostSender, Bool.and_eq_true, decide_eq_true_eq] at h
  exact h.1.2

/-! ## The obligation -/

/-- Settles O31: each directive by what its block does with it in hand, and the first page of a document by
`startReading_effect`. -/
theorem rateAndStatusDirectives : Obligations.RateAndStatusDirectives := by
  unfold Obligations.RateAndStatusDirectives
  refine ⟨fun s i d n hs hl ha hst hrc htx hwait => ?_, fun s i d n hs hl ha hst hrc => ?_,
    fun s i d hs hl ha => ?_, fun s i d hs hl ha => ?_,
    fun s i d id hs hl ha hsender hbegun hclose hphase hfor hsend harea => ?_,
    fun s i d id hs hl ha hsender hbegun => ?_,
    fun s i d id e p k hs hl ha hsender hbegun hphase hfor hsend hentry hpage hk => ?_,
    fun s i d id hs hl ha hsender => ?_, fun s i d id hs hl ha hsender hclose => ?_,
    fun s i d id hs hl ha hsender hbegun hclose hfor => ?_,
    fun s i d id hs hl ha hsender hbegun hclose hfor hsend => ?_,
    fun s i d id hs hl ha hsender hbegun hclose hfor hsend harea => ?_,
    fun s d hs hl => ?_, fun s id => sendable_iff⟩
  · have hrun := runRateRequest_begins (s := s.inHand 0x41 d) hl hst hrc ha
    refine repliesWith_modLine hs hrun rfl fun t ht hothers hline => ?_
    have hquality : (t.line i).quality =
        (s.line i).quality.renegotiated s.now ((s.line i).quality.clampToBounds n) .host :=
      (congrArg Line.quality hline).trans (renegotiate_quality _ _ _ _)
    have htxNow : (t.line i).link.txNow = some (.rate ((s.line i).quality.clampToBounds n)) :=
      congrArg Link.txNow ((congrArg Line.link hline).trans (renegotiate_link _ _ _ htx hwait))
    have hbeside : t.line i = { s.line i with quality := (t.line i).quality, link := (t.line i).link } := by
      rw [hline]
      exact renegotiate_beside _ _ _ _
    refine ⟨ht, hbeside, ?_, ?_, ?_, ?_, ?_, htxNow, hothers⟩
    all_goals rw [hquality]; rfl
  · exact congrArg _ (directive_reports hs (runRateRequest_trial (s := s.inHand 0x41 d) hl hst hrc ha) rfl)
  · have hread : (Arg.pure ()).read d.args = .good () := by rw [ha, read_none]
    exact congrArg _ (directive_reports hs (onLine_good hl hread) rfl)
  · refine repliesWith_modLine hs (runLineStatus_eq (s := s.inHand 0x02 d) hl ha) rfl fun t ht hothers hline => ?_
    rw [hline]
    exact ⟨ht, rfl, rfl, rfl, hothers⟩
  · obtain ⟨k, hk⟩ := Option.isSome_iff_exists.1 harea
    have hrun := runFaxDocument_takes (s := s.inHand 0x50 d) hl ha hsender hbegun hclose hfor hsend hk
    have htake := takeDocument_between (id := id) hk hphase
    refine repliesWith_document hs hk hrun ?_ ?_
    all_goals rw [htake]
    · rfl
    · have hline := documentTaken_line s i k id
      rw [hline]
      refine ⟨rfl, rfl, rfl, rfl, rfl, rfl, fun e he => ?_, documentTaken_othersSame s i k id⟩
      rw [documentTaken_entry] at he
      obtain ⟨e', -, rfl⟩ := Option.map_eq_some_iff.1 he
      simp
  · exact congrArg _ (directive_refused hs (runFaxDocument_busy (s := s.inHand 0x50 d) hl ha hsender (.inl hbegun)) rfl)
  · have hrun := runFaxDocument_takes (s := s.inHand 0x50 d) hl ha hsender hbegun (by simp [hphase]) hfor hsend hk
    obtain ⟨hframe, hline, harea, hbeside, hentry', hothers⟩ :=
      takeDocument_firstPage hk hphase (hostSender_role hsender) hentry hpage
    have hpart : s.takeDocument i id = { s with
        lines := (s.takeDocument i id).lines, areas := (s.takeDocument i id).areas
        store := (s.takeDocument i id).store } := by
      rw [congrArg State.store hframe]
      exact hframe
    refine repliesWith_document hs hk hrun hpart ?_
    rw [hline, harea]
    exact ⟨hframe, rfl, rfl, rfl, hphase, rfl, rfl, rfl, rfl, rfl, hbeside, hentry', hothers⟩
  · exact congrArg _ (directive_refused hs (runFaxDocument_state (s := s.inHand 0x50 d) hl ha hsender) rfl)
  · exact congrArg _ (directive_refused hs (runFaxDocument_busy (s := s.inHand 0x50 d) hl ha hsender (.inr hclose)) rfl)
  · refine congrArg _ (directive_refused hs ?_ rfl)
    exact (runFaxDocument_free (s := s.inHand 0x50 d) hl ha hsender hbegun hclose).trans (if_pos hfor)
  · exact congrArg _ (directive_refused hs
      (runFaxDocument_notFound (s := s.inHand 0x50 d) hl ha hsender hbegun hclose hfor hsend) rfl)
  · exact congrArg _ (directive_refused hs
      (runFaxDocument_noArea (s := s.inHand 0x50 d) hl ha hsender hbegun hclose hfor hsend harea) rfl)
  · have hnone := lineOf_part hl
    exact ⟨congrArg _ (onLine_unknown hs hnone rfl), congrArg _ (onLine_unknown hs hnone rfl)⟩

end Sys2Proof.Machine
end

section
/-! SUPPORT. The transmitter of a data call (R102): the frame it chooses, list by list in their order, and the line once
it has taken one; the end of a link and the frames cut from the TX area (R103, R113, R114). -/

namespace Sys2Proof.Machine

/-! ## The choice (R102) -/

section
variable {k : Link} {f : LinkFrame} {q : Nat} {bs : List Byte}

theorem Link.choose_rate {rest : List LinkFrame} (steady : Bool) (h : k.rateWait = f :: rest) :
    k.choose steady = some (f, { k with rateWait := rest }) := by simp [Link.choose, h]

theorem Link.choose_unsteady (hrate : k.rateWait = []) : k.choose false = none := by simp [Link.choose, hrate]

variable (hrate : k.rateWait = [])
include hrate

theorem Link.choose_end {rest : List LinkFrame} (h : k.endWait = f :: rest) :
    k.choose true = some (f, { k with endWait := rest }) := by simp [Link.choose, hrate, h]

variable (hend : k.endWait = [])
include hend

theorem Link.choose_pause {rest : List LinkFrame} (h : k.pauseWait = f :: rest) :
    k.choose true = some (f, { k with pauseWait := rest }) := by simp [Link.choose, hrate, hend, h]

variable (hpause : k.pauseWait = [])
include hpause

theorem Link.choose_ack (h : k.ackWait = true) : k.choose true = some (.ack k.e, { k with ackWait := false }) := by
  simp [Link.choose, hrate, hend, hpause, h]

variable (hack : k.ackWait = false)
include hack

theorem Link.choose_request {rest : List Nat} (h : k.requestWait = q :: rest) :
    k.choose true = some (.resend q, { k with requestWait := rest }) := by
  simp [Link.choose, hrate, hend, hpause, hack, h]

variable (hrequest : k.requestWait = [])
include hrequest

theorem Link.choose_held (h : k.sendsData = false) : k.choose true = none := by
  simp [Link.choose, hrate, hend, hpause, hack, hrequest, h]

variable (hdata : k.sendsData = true)
include hdata

theorem Link.choose_resent {rest : List (Nat × List Byte)} (h : k.resendWait = (q, bs) :: rest) :
    k.choose true = some (.data q k.e bs, { k with resendWait := rest }) := by
  simp [Link.choose, hrate, hend, hpause, hack, hrequest, hdata, h]

theorem Link.choose_new {rest : List (Nat × List Byte)} (hresend : k.resendWait = [])
    (h : k.newWait = (q, bs) :: rest) : k.choose true = some (.data q k.e bs, { k with newWait := rest }) := by
  simp [Link.choose, hrate, hend, hpause, hack, hrequest, hdata, hresend, h]

end

theorem Link.sendsData_iff {k : Link} :
    k.sendsData = true ↔ k.peerPaused = false ∧ k.phase ≠ .closing ∧ k.farEnd = none := by
  simp [Link.sendsData, and_assoc]

/-! ## The frame taken (R102) -/

variable {s : State} {i : LineId} {l : Line}

@[simp] theorem noteData_txNow (now : Ms) (seq : Nat) (l : Line) : (l.noteData now seq).link.txNow = l.link.txNow := by
  rw [noteData_link_eq]

/-- The free transmitter takes the frame it chooses. -/
theorem kick_txNow {f : LinkFrame} {k : Link} (now : Ms) (htx : l.link.txNow = none)
    (hc : l.link.choose (decide (l.quality.rc = .steady)) = some (f, k)) : (l.kick now).link.txNow = some f := by
  unfold Line.kick
  rw [if_neg (by simp [htx]), hc]
  dsimp only
  split
  · exact noteData_txNow _ _ _
  · rfl

/-- A frame without data taken in STEADY leaves the link as the choice leaves it. -/
theorem kick_taken {f : LinkFrame} {k : Link} (now : Ms) (hrc : l.quality.rc = .steady) (htx : l.link.txNow = none)
    (hc : l.link.choose true = some (f, k)) (hf : ∀ seq ack bs, f ≠ .data seq ack bs) :
    l.kick now = { l with link := { k with txNow := some f } } := by
  unfold Line.kick
  rw [if_neg (by simp [htx]), decide_eq_true hrc, hc]
  dsimp only
  split
  · exact absurd rfl (hf _ _ _)
  · rfl

/-- A frame of the link's end goes to the free transmitter in STEADY behind RATE and RATE_OK alone. -/
theorem kick_endWait {f : LinkFrame} (now : Ms) (hrc : l.quality.rc = .steady) (htx : l.link.txNow = none)
    (hrate : l.link.rateWait = []) (hend : l.link.endWait = [f]) (hf : ∀ seq ack bs, f ≠ .data seq ack bs) :
    l.kick now = { l with link := { l.link with endWait := [], txNow := some f } } :=
  kick_taken now hrc htx (Link.choose_end hrate hend) hf

/-- An acknowledgement made ready goes to the free transmitter in STEADY behind RATE, END and PAUSE. -/
theorem kick_ackWait (now : Ms) (hrc : l.quality.rc = .steady) (htx : l.link.txNow = none)
    (hrate : l.link.rateWait = []) (hend : l.link.endWait = []) (hpause : l.link.pauseWait = [])
    (hack : l.link.ackWait = true) :
    l.kick now = { l with link := { l.link with ackWait := false, txNow := some (.ack l.link.e) } } :=
  kick_taken now hrc htx (Link.choose_ack hrate hend hpause hack) (by simp)

/-- The end of a link with END at once on its way. -/
theorem sendEnd_taken (now : Ms) (hrc : l.quality.rc = .steady) (htx : l.link.txNow = none)
    (hrate : l.link.rateWait = []) (hend : l.link.endWait = []) : l.sendEnd now = { l with link := { l.link with
      phase := .closing, drainTimer := none, endOnSteady := false, endOkWait := some (now + 2000), sendQueue := []
      resendWait := [], newWait := [], resendTimer := .stopped, txNow := some .fin } } := by
  unfold Line.sendEnd
  rw [kick_endWait (f := .fin)]
  · simp [hend]
  · exact hrc
  · exact htx
  · exact hrate
  · simp [hend]
  · simp

theorem endDrain_steady (now : Ms) (hrc : l.quality.rc = .steady) : l.endDrain now = l.sendEnd now := by
  rw [Line.endDrain, if_neg (by simp [hrc]), abandonRate_idle now (by simp [hrc])]

/-- The transmitter is free again, outside a drain wait. -/
theorem exec_linkFrameTransmitted_ack {n : Nat} (htx : (s.line i).link.txNow = some (.ack n))
    (hphase : (s.line i).link.phase = .linked) : exec (.linkFrameTransmitted i) s =
      .next (s.modLine i (fun l => ({ l with link.txNow := none } : Line).kick s.now)) := by
  have hpump : (s.modLine i (fun l => { l with link.txNow := none })).pump i =
      s.modLine i (fun l => ({ l with link.txNow := none } : Line).kick s.now) := by
    rw [pump_undrained (by simp [hphase]), modLine_modLine]
    rfl
  simp [execLinkFrameTransmitted, htx, hpump]

theorem exec_linkFrameTransmitted_finOk {why : EndReason} (htx : (s.line i).link.txNow = some .finOk)
    (hfar : (s.line i).link.farEnd = some why) : exec (.linkFrameTransmitted i) s =
      .next ((s.modLine i (fun l => { l with link.txNow := none })).release i why) := by
  simp [execLinkFrameTransmitted, htx, hfar]

/-! ## A frame formed (R103) -/

/-- The line with a frame cut from its TX area. -/
def Line.formed (bs : List Byte) (l : Line) : Line := { l with link := { l.link with
  sendQueue := l.link.sendQueue ++ [{ seq := l.link.n, payload := bs }]
  newWait := l.link.newWait ++ [(l.link.n, bs)], n := (l.link.n + 1) % 64 } }

/-- With a frame in transmission the frame formed waits. -/
theorem formFrame_busy {k : AreaId} {f : LinkFrame} (hk : s.joined i .tx = some k)
    (hphase : (s.line i).link.phase ≠ .draining) (htx : (s.line i).link.txNow = some f) :
    s.formFrame i = (s.remove k 128).2.modLine i (Line.formed (s.remove k 128).1) := by
  have hlink : ((s.remove k 128).2.line i).link = (s.line i).link := (congrArg Line.link (remove_silent s i k 128) :)
  simp only [State.formFrame, hk]
  refine pump_busy (f := f) ?_ ?_
  · simpa [hlink] using hphase
  · simpa [hlink] using htx

theorem exec_linkFrameFormed_ready (hform : (s.line i).mayForm = true) (hready : s.txReady i = true) :
    exec (.linkFrameFormed i) s = .next (s.formFrame i) := by
  simp [execLinkFrameFormed, hform, hready]

theorem mayForm_linked {w : Nat} (hphase : l.link.phase = .linked) (hfar : l.link.farEnd = none)
    (hend : l.link.endOnSteady = false) (hw : l.link.window = some w) (hroom : l.link.sendQueue.length < w)
    (hpause : l.link.peerPaused = false) (hrc : l.quality.rc = .steady) (hresend : l.link.resendWait = []) :
    l.mayForm = true := by
  simp [Line.mayForm, hphase, hfar, hend, hw, hroom, hpause, hrc, hresend]

theorem txReady_full {k : AreaId} (hk : s.joined i .tx = some k) (hfull : 128 ≤ (s.area k).fifo.length) :
    s.txReady i = true := by
  simp [State.txReady, hk, Area.occupancy, hfull]

/-- Settles O44: each choice by the lemma of its list, the frame taken by `kick_txNow`, the frame formed by
`formFrame_busy`. -/
theorem linkTransmitter : Obligations.LinkTransmitter := by
  unfold Obligations.LinkTransmitter
  refine ⟨fun s i k f w hphase hfar hend hw hroom hpause hrc hresend htx hk hfull hmarks => ?_,
    fun s i n htx hphase => exec_linkFrameTransmitted_ack htx hphase,
    fun s i why htx hfar => exec_linkFrameTransmitted_finOk htx hfar,
    fun l now htx => ?_,
    fun l now f k htx hc => kick_txNow now htx hc,
    fun k steady f rest h => Link.choose_rate steady h,
    fun k hrate => Link.choose_unsteady hrate,
    fun k f rest hrate h => Link.choose_end hrate h,
    fun k f rest hrate hend h => Link.choose_pause hrate hend h,
    fun k hrate hend hpause h => Link.choose_ack hrate hend hpause h,
    fun k q rest hrate hend hpause hack h => Link.choose_request hrate hend hpause hack h,
    fun k hrate hend hpause hack hrequest hheld => ?_,
    fun k q bs rest hrate hend hpause hack hrequest hpaused hphase hfar => ?_⟩
  · have hexec := (exec_linkFrameFormed_ready (mayForm_linked hphase hfar hend hw hroom hpause hrc hresend)
      (txReady_full hk hfull)).trans (congrArg Host.Outcome.next (formFrame_busy hk (by simp [hphase]) htx))
    have hcut : (s.area k).removable 128 = 128 := removable_eq (by simp [hmarks]) hfull
    have hapart := (modLine_apart (s.remove k 128).2 i (Line.formed (s.remove k 128).1)).trans
      (remove_apart (joined_join hk) 128)
    have hothers := othersSame_of_apart hapart
    have hline := eq_of_silent (remove_silent s i k 128)
    obtain ⟨hfifo, -, -, hbytes⟩ := remove_area s k 128
    rw [hcut] at hfifo hbytes
    refine ⟨_, hexec, eq_of_apart hapart, ?_⟩
    rw [line_modLine_same, hline, ← hbytes]
    exact ⟨rfl, rfl, rfl, rfl, hfifo, fun j hj => remove_area_ne s k j 128 hj, hothers⟩
  · obtain ⟨f, hf⟩ := Option.isSome_iff_exists.1 htx
    exact kick_busy now hf
  · refine Link.choose_held hrate hend hpause hack hrequest ?_
    rcases hheld with h | h <;> simp [Link.sendsData, h]
  · have hdata : k.sendsData = true := Link.sendsData_iff.2 ⟨hpaused, hphase, hfar⟩
    exact ⟨Link.choose_resent hrate hend hpause hack hrequest hdata,
      Link.choose_new hrate hend hpause hack hrequest hdata⟩

end Sys2Proof.Machine
end

section
/-! SUPPORT. The frames a data call receives and its timers (R104 to R116): acknowledgements, DATA delivered, held and
discarded, resends, and the carrier of the call. -/

namespace Sys2Proof.Machine

variable {s : State} {i : LineId} {l : Line}

theorem takesLink_steady (hphase : l.link.phase = .linked) (hrc : l.quality.rc = .steady) : l.takesLink = true :=
  takesLink_linked hphase (by simp [hrc])

/-- A busy transmitter outside a drain wait: an update that leaves both so is all there is. -/
theorem pump_modLine_busy {g : Line → Line} {f : LinkFrame} (hphase : (g (s.line i)).link.phase ≠ .draining)
    (hbusy : (g (s.line i)).link.txNow = some f) : (s.modLine i g).pump i = s.modLine i g :=
  pump_busy (f := f) (by simpa using hphase) (by simpa using hbusy)

/-! ## Acknowledgements (R104, R107) -/

/-- With nothing sent there is nothing to acknowledge. -/
theorem acknowledge_empty (now : Ms) (n : Nat) (hqueue : l.link.sendQueue = []) : l.acknowledge now n = l := by
  unfold Line.acknowledge
  dsimp only
  refine if_pos ?_
  rw [hqueue, List.length_nil]
  omega

theorem aim_link_eq (now : Ms) (l : Line) :
    (l.aim now).link = { l.link with resendTimer := (l.aim now).link.resendTimer } := rfl

/-- With a frame in transmission a renegotiation begun leaves RATE waiting. -/
theorem renegotiate_busy {f : LinkFrame} (now : Ms) (target : Nat) (cause : RateCause)
    (htx : l.link.txNow = some f) : (l.renegotiate now target cause).link = { l.link with
      rateWait := l.link.rateWait ++ [.rate target], resendTimer := l.link.resendTimer.freeze now } := by
  unfold Line.renegotiate
  rw [kick_busy (f := f)]
  exact htx

/-- With a frame in transmission an outcome changes the history, RATE waiting and the resend timer alone. -/
theorem enterOutcome_busy {f : LinkFrame} (now : Ms) (o : TryOutcome) (htx : l.link.txNow = some f) :
    (l.enterOutcome now o).link = { l.link with
      history := (l.enterOutcome now o).link.history, rateWait := (l.enterOutcome now o).link.rateWait
      resendTimer := (l.enterOutcome now o).link.resendTimer } := by
  unfold Line.enterOutcome
  dsimp only
  split_ifs
  · rw [renegotiate_busy (f := f)]
    exact htx
  · rfl
  · rfl

/-- A first try acknowledged enters the history, where too few resends stand for a renegotiation. -/
theorem enterOutcome_firstTry (now : Ms) (hlen : l.link.history.length < 16)
    (herr : l.link.history.count .retransmitted < l.profile.errLimit) : l.enterOutcome now .firstTry =
      { l with link.history := l.link.history ++ [.firstTry] } := by
  have hpush : pushOutcome .firstTry l.link.history = l.link.history ++ [.firstTry] := by
    simp [pushOutcome, Nat.not_le.2 hlen]
  have hfew : (l.link.history ++ [TryOutcome.firstTry]).count .retransmitted < l.profile.errLimit := by simpa using herr
  unfold Line.enterOutcome
  rw [hpush]
  exact if_neg fun h => absurd h.2 (Nat.not_le.2 hfew)

/-- An ACK of the head alone, with a frame in transmission: nothing is sent for it. -/
theorem exec_linkAckReceived_busy {x : SendEntry} {rest : List SendEntry} {n : Fin 64} {f : LinkFrame}
    (hphase : (s.line i).link.phase = .linked) (hrc : (s.line i).quality.rc = .steady)
    (hqueue : (s.line i).link.sendQueue = x :: rest) (hn : n.val = (x.seq + 1) % 64)
    (htx : (s.line i).link.txNow = some f) : exec (.linkAckReceived i n) s = .next (s.modLine i (fun l =>
      (({ l with link.sendQueue := rest } : Line).enterOutcome s.now
        (if x.retx then .retransmitted else .firstTry)).aim s.now)) := by
  have hack := modLine_congr s i (f := Line.acknowledge s.now n.val)
    (g := fun l => (({ l with link.sendQueue := rest } : Line).enterOutcome s.now
      (if x.retx then .retransmitted else .firstTry)).aim s.now) (acknowledge_head s.now hqueue hn)
  have hlink := enterOutcome_busy (l := { s.line i with link.sendQueue := rest }) s.now
    (if x.retx then .retransmitted else .firstTry) htx
  rw [exec_linkAckReceived, execLinkAckReceived, if_pos (takesLink_steady hphase hrc), hack,
    pump_modLine_busy (f := f)]
  · rw [aim_link_eq, hlink]
    simp [hphase]
  · rw [aim_link_eq, hlink]
    exact htx

/-! ## DATA received (R108 to R111) -/

theorem seqDistance_lt (base n : Nat) : seqDistance base n < 64 := Nat.mod_lt _ (by decide)

theorem seqDistance_reaches {base n : Nat} (hn : n < 64) : (base + seqDistance base n) % 64 = n := by
  unfold seqDistance
  omega

theorem seqDistance_add {base c : Nat} (hc : c < 64) : seqDistance base ((base + c) % 64) = c := by
  unfold seqDistance
  omega

theorem seqDistance_self (n : Nat) : seqDistance n n = 0 := by
  unfold seqDistance
  omega

/-- A DATA frame that finds nothing to acknowledge is judged by its seq. -/
theorem exec_linkDataReceived_judged {q a : Fin 64} {bs : List Byte} (hphase : (s.line i).link.phase = .linked)
    (hrc : (s.line i).quality.rc = .steady) (hqueue : (s.line i).link.sendQueue = []) :
    exec (.linkDataReceived i q a bs) s = .next ((s.receiveData i q.val bs).pump i) := by
  have hack : s.modLine i (Line.acknowledge s.now a.val) = s := modLine_same s i (acknowledge_empty s.now a.val hqueue)
  rw [exec_linkDataReceived, execLinkDataReceived, if_pos (takesLink_steady hphase hrc), hack]

theorem rxRoom_joined {k : AreaId} (hk : s.joined i .rx = some k) : s.rxRoom i = (s.area k).room := by
  simp only [State.rxRoom, hk]

/-- In turn, with nothing held: the frame is delivered. -/
theorem receiveData_inTurn {k : AreaId} {q : Nat} {bs : List Byte} (he : (s.line i).link.e = q)
    (hhold : (s.line i).link.hold = []) (hk : s.joined i .rx = some k) (hroom : bs.length ≤ (s.area k).room) :
    s.receiveData i q bs = s.deliver i bs := by
  simp [State.receiveData, he, seqDistance_self, rxRoom_joined hk, hroom, hhold, deliverHeld]

theorem receiveData_noRoom {k : AreaId} {q : Nat} {bs : List Byte} (he : (s.line i).link.e = q)
    (hk : s.joined i .rx = some k) (hroom : (s.area k).room < bs.length) :
    s.receiveData i q bs = s.modLine i Line.pausePeer := by
  simp [State.receiveData, he, seqDistance_self, rxRoom_joined hk, Nat.not_le.2 hroom]

theorem receiveData_ahead {q w : Nat} {bs : List Byte} (hw : (s.line i).link.window = some w)
    (hpos : 0 < seqDistance (s.line i).link.e q) (hin : seqDistance (s.line i).link.e q < w) :
    s.receiveData i q bs = s.modLine i (Line.holdFrame q bs) := by
  simp [State.receiveData, hpos.ne', hw, hin]

theorem receiveData_outside {q w : Nat} {bs : List Byte} (hw : (s.line i).link.window = some w)
    (hpos : 0 < seqDistance (s.line i).link.e q) (hout : w ≤ seqDistance (s.line i).link.e q) :
    s.receiveData i q bs = s.modLine i (Line.makeAckDue s.now) := by
  simp [State.receiveData, hpos.ne', hw, Nat.not_lt.2 hout]

/-! ### A frame ahead of its turn (R109) -/

theorem insertHeld_eq (e q : Nat) (bs : List Byte) : ∀ hold : List (Nat × List Byte), insertHeld e q bs hold =
    hold.takeWhile (fun h => seqDistance e h.1 ≤ seqDistance e q) ++
      (q, bs) :: hold.dropWhile (fun h => seqDistance e h.1 ≤ seqDistance e q)
  | [] => rfl
  | h :: rest => by
    rw [insertHeld]
    split_ifs with hlt
    · simp [Nat.not_le.2 hlt]
    · simp [Nat.not_lt.1 hlt, insertHeld_eq e q bs rest]

/-- The seqs a frame held at distance `d` finds neither held nor requested; none during the line's own pause. -/
def Link.asked (d : Nat) (k : Link) : List Nat :=
  if k.localPaused then []
  else ((List.range d).map (fun c => (k.e + c) % 64)).filter
    (fun x => x ∉ k.hold.map Prod.fst ∧ x ∉ k.requested)

theorem mem_insertHeld (e q x : Nat) (bs : List Byte) (hold : List (Nat × List Byte)) :
    x ∈ (insertHeld e q bs hold).map Prod.fst ↔ x = q ∨ x ∈ hold.map Prod.fst := by
  induction hold with
  | nil => simp [insertHeld]
  | cons h rest ih =>
    rw [insertHeld]
    split_ifs
    · simp
    · simp only [List.map_cons, List.mem_cons, ih]
      tauto

/-- The frame itself stands at none of the distances before its own. -/
theorem missing_insertHeld (k : Link) (q : Nat) (bs : List Byte) :
    ({ k with hold := insertHeld k.e q bs k.hold } : Link).missing q =
      ((List.range (seqDistance k.e q)).map (fun c => (k.e + c) % 64)).filter
        (fun x => x ∉ k.hold.map Prod.fst ∧ x ∉ k.requested) := by
  refine List.filter_congr fun x hx => ?_
  obtain ⟨c, hc, rfl⟩ := List.mem_map.1 hx
  have hcq : c < seqDistance k.e q := List.mem_range.1 hc
  have hne : (k.e + c) % 64 ≠ q := by
    rintro rfl
    rw [seqDistance_add (hcq.trans (seqDistance_lt _ _))] at hcq
    exact lt_irrefl c hcq
  have hheld := mem_insertHeld k.e q ((k.e + c) % 64) bs k.hold
  have hany : (insertHeld k.e q bs k.hold).any (fun h => h.1 == (k.e + c) % 64) =
      decide ((k.e + c) % 64 ∈ k.hold.map Prod.fst) := by
    rw [Bool.eq_iff_iff, decide_eq_true_iff, ← (hheld.trans (or_iff_right hne))]
    simp
  simp [hany]

theorem holdFrame_eq {q : Nat} {bs : List Byte} (hnew : ∀ h ∈ l.link.hold, h.1 ≠ q) :
    l.holdFrame q bs = { l with link := { l.link with
      hold := l.link.hold.takeWhile (fun h => seqDistance l.link.e h.1 ≤ seqDistance l.link.e q) ++
        (q, bs) :: l.link.hold.dropWhile (fun h => seqDistance l.link.e h.1 ≤ seqDistance l.link.e q)
      requested := l.link.requested ++ l.link.asked (seqDistance l.link.e q)
      requestWait := l.link.requestWait ++ l.link.asked (seqDistance l.link.e q) } } := by
  have hnot : ¬ l.link.hold.any (fun h => h.1 == q) = true := fun hany => by
    obtain ⟨h, hmem, heq⟩ := List.any_eq_true.1 hany
    exact hnew h hmem (beq_iff_eq.1 heq)
  unfold Line.holdFrame Link.asked
  rw [if_neg hnot, ← insertHeld_eq]
  dsimp only
  split_ifs
  · simp
  · rw [missing_insertHeld]

/-! ### A frame delivered (R108, R110) -/

theorem append_apart {k : AreaId} {p : Purpose} (hjoin : (s.area k).join = some (i, p)) (bs : List Byte) :
    (s.append k bs).1.apart i = s.apart i := by
  unfold State.append
  dsimp only
  split_ifs
  · rfl
  · exact setFlow_apart (fun j p' hj => by simp [hjoin] at hj; exact hj.1.symm) _

@[simp] theorem append_silent (s : State) (i : LineId) (k : AreaId) (bs : List Byte) :
    ((s.append k bs).1.line i).silent = (s.line i).silent := by
  unfold State.append
  dsimp only
  split_ifs <;> simp

/-- The line once a frame in turn has been delivered, the acknowledgement ready to go. -/
def Line.delivered (now : Ms) (l : Line) : Line := { l with link := { l.link with
  e := (l.link.e + 1) % 64, requested := l.link.requested.filter (· != l.link.e)
  ackWait := true, ackSpacing := some (now + 50) } }

/-- A delivery with no acknowledgement sent in the last 50 ms. -/
theorem deliver_eq {k : AreaId} {bs : List Byte} (hk : s.joined i .rx = some k)
    (hspacing : (s.line i).link.ackSpacing = none) :
    s.deliver i bs = (s.append k bs).1.modLine i (Line.delivered s.now) := by
  have hlink : ((s.append k bs).1.line i).link = (s.line i).link := (congrArg Line.link (append_silent s i k bs) :)
  unfold State.deliver
  simp only [State.appendRx, hk]
  refine modLine_congr _ i ?_
  simp [Line.makeAckDue, Line.delivered, hlink, hspacing]

/-- DATA in turn: the frame is delivered and the transmitter looks for its next. -/
theorem exec_linkDataReceived_inTurn {q a : Fin 64} {bs : List Byte} {k : AreaId}
    (hphase : (s.line i).link.phase = .linked) (hrc : (s.line i).quality.rc = .steady)
    (hqueue : (s.line i).link.sendQueue = []) (he : (s.line i).link.e = q.val) (hhold : (s.line i).link.hold = [])
    (hk : s.joined i .rx = some k) (hroom : bs.length ≤ (s.area k).room)
    (hspacing : (s.line i).link.ackSpacing = none) : exec (.linkDataReceived i q a bs) s =
      .next ((s.append k bs).1.modLine i (fun l => (l.delivered s.now).kick s.now)) := by
  have hlink : ((s.append k bs).1.line i).link = (s.line i).link := (congrArg Line.link (append_silent s i k bs) :)
  rw [exec_linkDataReceived_judged hphase hrc hqueue, receiveData_inTurn he hhold hk hroom, deliver_eq hk hspacing,
    pump_undrained, modLine_modLine, modLine_now, now_of_around (append_around s i k bs)]
  rw [line_modLine_same]
  simp [Line.delivered, hlink, hphase]

/-! ## Resends (R105, R106, R112) -/

/-- The line with one entry sent raised and waiting to be sent again. -/
def Line.resentOnly (x : SendEntry) (l : Line) : Line := { l with link := { l.link with
  sendQueue := [{ x with retries := x.retries + 1, retx := true }], resendWait := [(x.seq, x.payload)] } }

theorem resend_only {x : SendEntry} (hqueue : l.link.sendQueue = [x]) (hresend : l.link.resendWait = []) :
    l.resend x = l.resentOnly x := by
  simp [Line.resend, Line.resentOnly, Link.raise, Link.resendWaits, SendEntry.raise, hqueue, hresend]

theorem overLimit_within {raised : List Nat} {limit : Nat} {k : Link} (h : ∀ x ∈ k.sendQueue, x.retries ≤ limit) :
    k.overLimit raised limit = false := by
  rw [Link.overLimit, List.any_eq_false]
  intro x hx
  simp [h x hx]

/-- Within the limit and with a frame in transmission, the line is as its counts have been raised. -/
theorem afterRaise_busy {raised : List Nat} {f : LinkFrame}
    (h : ∀ x ∈ l.link.sendQueue, x.retries ≤ l.profile.retryLimit) (htx : l.link.txNow = some f) :
    s.afterRaise i raised l = s.setLine i l := by
  rw [State.afterRaise, overLimit_within h, kick_busy s.now htx]
  rfl

theorem afterRaise_over {raised : List Nat} (hover : l.link.overLimit raised l.profile.retryLimit = true)
    (hending : l.link.ending = none) : s.afterRaise i raised l = (s.setLine i l).release i .linkFail := by
  simp [State.afterRaise, hover, hending]

/-- A RESEND of the one entry sent. -/
theorem exec_linkResendReceived_only {x : SendEntry} {q : Fin 64} (hphase : (s.line i).link.phase = .linked)
    (hrc : (s.line i).quality.rc = .steady) (hqueue : (s.line i).link.sendQueue = [x]) (hq : x.seq = q.val)
    (hresend : (s.line i).link.resendWait = []) (hpaused : (s.line i).link.peerPaused = false) :
    exec (.linkResendReceived i q) s = .next (s.afterRaise i [q.val] ((s.line i).resentOnly x)) := by
  simp [execLinkResendReceived, hqueue, hq, takesLink_steady hphase hrc, Link.resendWaits, hresend, hpaused,
    resend_only hqueue hresend]

/-- An outcome that puts another line in its place is an update of that line. -/
theorem setLine_eq_modLine (m : Line) : s.setLine i m = s.modLine i (fun _ => m) := rfl

/-! ### The release of a call above the limit (R18, R19, R72) -/

theorem signalCarrier_area (s : State) (i : LineId) (v : Bool) (k : AreaId) :
    (s.signalCarrier i v).area k = s.area k := setSignals_area s i _ _ _ _ _ k

theorem releaseAreas_fifo (s : State) (i : LineId) (k : AreaId) :
    ((s.releaseAreas i).area k).fifo = (s.area k).fifo := by
  simp only [State.releaseAreas, State.area, Fin.getElem_fin, Vector.getElem_map]
  split_ifs <;> rfl

/-- The end of a call with no fax role and no voice activity keeps the bytes of every area. -/
theorem release_fifo (why : EndReason) (hst : (s.line i).state ≠ .loopback) (hfax : (s.line i).fax.role = none)
    (hvoice : (s.line i).voice.activity = .none) (k : AreaId) :
    ((s.release i why).area k).fifo = (s.area k).fifo := by
  rw [release_eq why hst, enterRelease_eq, modLine_area, pass_area]
  unfold State.callEnd
  dsimp only
  rw [stopEngine_quiet _ (by simpa [Line.modCall] using hfax) (by simpa [Line.modCall] using hvoice), modLine_area,
    reportEnd_area, releaseAreas_fifo]
  exact congrArg Area.fifo (signalCarrier_area _ i false k)

/-- A call released LINK_FAIL from a line whose link alone has changed. -/
theorem release_of_link {k : Link} (why : EndReason) (hst : (s.line i).state = .data) (hfax : (s.line i).fax = {})
    (hvoice : (s.line i).voice = {}) : let t := (s.setLine i { s.line i with link := k }).release i why
    t = { s with lines := t.lines, areas := t.areas, store := t.store, dram := t.dram } ∧
    (t.line i).state = .release ∧ (t.line i).call = none ∧ (t.line i).guard = some (s.now + 1500) ∧
    (∀ j, (t.area j).fifo = (s.area j).fifo) ∧ ((s.line i).stage.isWriting = false → t.dram = s.dram) := by
  have hst' : ((s.setLine i { s.line i with link := k }).line i).state ≠ .loopback := by simp [hst]
  have haround := (release_around (s.setLine i { s.line i with link := k }) i why).trans
    (setLine_around s i (l := { s.line i with link := k }) rfl)
  obtain ⟨hstate, -, hguard, -, -, hcall, -⟩ := release_line why hst'
  refine ⟨eq_of_around haround, hstate, hcall, hguard, fun j => ?_, fun hw => ?_⟩
  · exact release_fifo why hst' (by simp [hfax]) (by simp [hvoice]) j
  · exact release_dram (.inr (by simpa using hw))

/-- Settles O42: DATA in turn by `deliver_eq`, ahead of its turn by `holdFrame_eq`, outside the window by
`receiveData_outside`; an ACK by `exec_linkAckReceived_busy`, a RESEND by `afterRaise_busy` and `release_of_link`. -/
theorem linkDataAckResend : Obligations.LinkDataAckResend := by
  unfold Obligations.LinkDataAckResend
  refine ⟨fun s i q a bs k hst hphase hrc hqueue he hhold hk hroom hspacing htx hrate hend hpause => ?_,
    fun s i x rest n f hst hphase hrc hqueue hx hn hretx hlen herr htx => ?_,
    fun s i x q f hst hphase hrc hqueue hq hresend hpaused htx hlimit => ?_,
    fun s i x q hst hphase hrc hqueue hq hresend hpaused hlimit hending hfax hvoice => ?_,
    fun s i q a bs f w d hst hphase hrc hqueue ha htx hw hd hpos hin hnew => ?_,
    fun s i q a bs f w d hst hphase hrc hqueue ha htx hw hd hpos hout hspacing => ?_,
    fun base n _ hn => ⟨seqDistance_lt base n, seqDistance_reaches hn⟩,
    fun s i x rest n f r hst hphase hrc hqueue hx hn hresend hr htx => ?_⟩
  · have hexec := exec_linkDataReceived_inTurn (a := a) hphase hrc hqueue he hhold hk hroom hspacing
    have hline := eq_of_silent (append_silent s i k bs)
    have hapart := (modLine_apart (s.append k bs).1 i (fun l => (l.delivered s.now).kick s.now)).trans
      (append_apart (joined_join hk) bs)
    obtain ⟨hfifo, -, -⟩ := append_area s k bs
    rw [List.take_of_length_le hroom] at hfifo
    have hkick : (({ s.line i with queue := ((s.append k bs).1.line i).queue } : Line).delivered s.now).kick s.now =
        _ := kick_ackWait s.now hrc htx hrate hend hpause rfl
    refine ⟨_, hexec, eq_of_apart hapart, ?_⟩
    rw [line_modLine_same, hline, hkick, ← he]
    exact ⟨rfl, hfifo, rfl, rfl, rfl, fun j hj => append_area_ne s k j bs hj, othersSame_of_apart hapart⟩
  · have hexec := exec_linkAckReceived_busy hphase hrc hqueue hn htx
    have houtcome := enterOutcome_firstTry (l := { s.line i with link.sendQueue := rest }) s.now hlen herr
    refine nextHolds_of_modLine hexec fun t ht hothers hl => ?_
    rw [hl, hretx]
    simp only [Bool.false_eq_true, if_false]
    rw [houtcome]
    exact ⟨ht, rfl, rfl, rfl, rfl, (congrArg State.areas ht :), hothers⟩
  · have hexec := (exec_linkResendReceived_only hphase hrc hqueue hq hresend hpaused).trans (congrArg _
      (afterRaise_busy (s := s) (i := i) (l := (s.line i).resentOnly x) (f := f)
        (by simpa [Line.resentOnly] using hlimit) htx))
    refine nextHolds_of_modLine (hexec.trans (congrArg _ (setLine_eq_modLine _))) fun t ht hothers hl => ?_
    rw [hl, ← hq]
    exact ⟨ht, rfl, rfl, rfl, (congrArg State.areas ht :), hothers⟩
  · have hover : ((s.line i).resentOnly x).link.overLimit [q.val] (s.line i).profile.retryLimit = true := by
      simp [Link.overLimit, Line.resentOnly, hq, hlimit]
    have hexec := (exec_linkResendReceived_only hphase hrc hqueue hq hresend hpaused).trans (congrArg _
      (afterRaise_over (s := s) (i := i) hover hending))
    exact ⟨_, hexec, release_of_link .linkFail hst hfax hvoice⟩
  · subst hd
    rw [exec_linkDataReceived_judged hphase hrc hqueue, receiveData_ahead hw hpos hin]
    have heq := holdFrame_eq (l := s.line i) (bs := bs) hnew
    rw [pump_modLine_busy (f := f)]
    · exact congrArg _ (modLine_congr s i heq)
    · rw [heq]
      simp [hphase]
    · rw [heq]
      exact htx
  · subst hd
    have hdue : (s.line i).makeAckDue s.now = { s.line i with link := { (s.line i).link with
        ackWait := true, ackSpacing := some (s.now + 50) } } := by simp [Line.makeAckDue, hspacing]
    rw [exec_linkDataReceived_judged hphase hrc hqueue, receiveData_outside hw hpos hout, pump_modLine_busy (f := f)]
    · exact congrArg _ (modLine_congr s i hdue)
    · rw [hdue]
      simp [hphase]
    · rw [hdue]
      exact htx
  · have hexec := exec_linkAckReceived_busy hphase hrc hqueue hn htx
    have hlink := enterOutcome_busy (l := { s.line i with link.sendQueue := rest }) s.now
      (if x.retx then .retransmitted else .firstTry) htx
    refine nextHolds_of_modLine hexec fun t ht hothers hl => ?_
    rw [hl, aim_link_eq, hlink]
    exact ⟨rfl, hresend⟩

end Sys2Proof.Machine
end

section
/-! SUPPORT. The carrier of a data call, its pauses, its ends and its timers (R106, R110 to R116). -/

namespace Sys2Proof.Machine

variable {s : State} {i : LineId} {l : Line}

/-! ## The carrier (R20, R115) -/

theorem row_data (h : l.state = .data) : l.row = .data := (row_of_state (by simp [h])).trans h

/-- The carrier flag of a data call changes: the signal record follows, and the carrier-loss timing. -/
theorem exec_carrierChange_data {on : Bool} (hst : (s.line i).state = .data) (hne : (s.line i).carrier ≠ on) :
    exec (.carrierChange i on) s = .next (((s.modLine i (fun l => { l with carrier := on })).signalCarrier i on).modLine
      i (Line.dataCarrier s.now on)) := by
  have hpump : (s.line i).datapump = true := by simp [Line.datapump, row_data hst]
  simp [execCarrierChange, hpump, hne, row_data hst]

/-- The signal record takes a carrier value, and its flag where the value is another (R20). -/
theorem signalCarrier_line (s : State) (i : LineId) (v : Bool) : ∃ r w,
    (s.signalCarrier i v).line i = { s.line i with signals := r, queue := w } ∧ r.carrier = v ∧
    r.fCarrier = ((s.line i).signals.fCarrier || ((s.line i).signals.carrier != v)) := by
  refine ⟨_, _, setSignals_line_eq s i _ _ _ _ _, (setSignals_values s i _ _ _ _ _).2.2.1, ?_⟩
  rw [setSignals_line_signals]
  split_ifs with hsame
  · have hcar : (s.line i).signals.carrier = v := by simpa [Signals.same] using hsame
    simp [hcar]
  · rfl

/-- What such a change leaves of the part and of the line. -/
theorem exec_carrierChange_effect {on : Bool} (hst : (s.line i).state = .data) (hne : (s.line i).carrier ≠ on) :
    ∃ t r w, exec (.carrierChange i on) s = .next t ∧ t = { s with lines := t.lines } ∧ othersSame i s t ∧
      t.line i = ({ s.line i with carrier := on, signals := r, queue := w } : Line).dataCarrier s.now on ∧
      r.carrier = on ∧ r.fCarrier = ((s.line i).signals.fCarrier || ((s.line i).signals.carrier != on)) := by
  have hwithout : (((s.modLine i (fun l => { l with carrier := on })).signalCarrier i on).modLine i
      (Line.dataCarrier s.now on)).without i = s.without i := by simp
  obtain ⟨r, w, hline, hcar, hflag⟩ := signalCarrier_line (s.modLine i (fun l => { l with carrier := on })) i on
  simp only [line_modLine_same] at hline hflag
  refine ⟨_, r, w, exec_carrierChange_data hst hne, eq_of_without hwithout, othersSame_of_without hwithout, ?_,
    hcar, hflag⟩
  rw [line_modLine_same, hline]

/-- Settles O40: the flag by `exec_carrierChange_effect`, the timer by the release of its call. -/
theorem carrierLossReleases : Obligations.CarrierLossReleases := by
  unfold Obligations.CarrierLossReleases
  refine ⟨fun s i hst hcar hsig hseen => ?_, fun s i hst hcar => ?_, fun s i d hst hloss hd => ?_⟩
  · obtain ⟨t, r, w, hexec, ht, hothers, hl, hr, hflag⟩ := exec_carrierChange_effect (on := false) hst (by simp [hcar])
    refine ⟨t, hexec, ht, ?_⟩
    rw [hl]
    refine ⟨rfl, rfl, hr, ?_, ?_, hst, hothers⟩
    · simpa [Line.dataCarrier, hsig] using hflag
    · simp [Line.dataCarrier, hseen]
  · obtain ⟨t, r, w, hexec, ht, hothers, hl, hr, -⟩ := exec_carrierChange_effect (on := true) hst (by simp [hcar])
    refine ⟨t, hexec, ht, ?_⟩
    rw [hl]
    refine ⟨rfl, rfl, hr, ?_, ?_, hst, hothers⟩
    · simp [Line.dataCarrier]
    · simp [Line.dataCarrier]
  · simp [execCarrierLossExpiry, row_data hst, hloss, due_some hd]

/-! ## Pauses (R111, R112) -/

/-- A RESUME with a frame in transmission: every entry within its limit waits to be sent again. -/
theorem exec_linkResumeReceived_busy {f : LinkFrame} (hphase : (s.line i).link.phase = .linked)
    (hrc : (s.line i).quality.rc = .steady) (hpaused : (s.line i).link.peerPaused = true)
    (htx : (s.line i).link.txNow = some f)
    (hlimit : ∀ x ∈ (s.line i).link.sendQueue, x.retries < (s.line i).profile.retryLimit) :
    exec (.linkResumeReceived i) s = .next (s.modLine i Line.resume) := by
  have hwithin : ∀ x ∈ (s.line i).resume.link.sendQueue, x.retries ≤ (s.line i).resume.profile.retryLimit := by
    intro x hx
    obtain ⟨y, hy, rfl⟩ := List.mem_map.1 hx
    exact hlimit y hy
  have hraise := afterRaise_busy (s := s) (i := i) (raised := (s.line i).link.sendQueue.map SendEntry.seq) hwithin htx
  simp [execLinkResumeReceived, takesLink_steady hphase hrc, hpaused, hraise, State.modLine]

theorem pausePeer_eq (l : Line) : l.pausePeer = { l with link := { l.link with
    localPaused := true
    pauseWait := if l.link.localPaused then l.link.pauseWait else l.link.pauseWait ++ [.pause] } } := by
  unfold Line.pausePeer
  split_ifs with h
  · rw [← h]
  · rfl

/-- The line's own pause ends at its low mark, and RESUME waits behind the frame in transmission. -/
theorem checkResume_busy {k : AreaId} {f : LinkFrame} (hpaused : (s.line i).link.localPaused = true)
    (hk : s.joined i .rx = some k) (htx : (s.line i).link.txNow = some f) :
    s.checkResume i = if (s.area k).occupancy ≤ (s.area k).low then s.modLine i Line.resumed else s := by
  split_ifs with hlow
  · rw [checkResume_resumes hk hpaused hlow]
    exact modLine_congr s i (kick_busy (l := (s.line i).resumed) s.now htx)
  · exact checkResume_stays hk (.inr (Nat.lt_of_not_le hlow))

/-! ## Ends (R114) -/

/-- The line that has taken the far end's END, END_OK on its way. -/
def Line.farClosed (why : EndReason) (l : Line) : Line := { l with link := { l.link with
  drainTimer := none, farEnd := some why, txNow := some .finOk } }

theorem farCloses_linked (now : Ms) (hphase : l.link.phase = .linked) (hrc : l.quality.rc = .steady)
    (htx : l.link.txNow = none) (hrate : l.link.rateWait = []) (hend : l.link.endWait = []) :
    l.farCloses now = l.farClosed .remote := by
  unfold Line.farCloses
  rw [abandonRate_idle now (by simp [hrc])]
  dsimp only
  rw [kick_endWait (f := .finOk)]
  · simp [Line.farClosed, hphase, hend]
  · exact hrc
  · exact htx
  · exact hrate
  · simp [hend]
  · simp

/-- Settles O43: RESUME by `exec_linkResumeReceived_busy`, END by `farCloses_linked`, a frame without room by
`pausePeer_eq`, the end of the line's own pause by `checkResume_busy`. -/
theorem linkPauseResumeEnd : Obligations.LinkPauseResumeEnd := by
  unfold Obligations.LinkPauseResumeEnd
  refine ⟨fun s i hst hphase hrc hpaused => ?_, fun s i f hst hphase hrc hpaused htx hlimit => ?_,
    fun s i hst hphase hrc hfar hdrop htx hrate hend => ?_, fun s i hst hphase hrc hdrop => ?_,
    fun s i q a bs k f hst hphase hrc hqueue ha htx he hk hroom => ?_,
    fun s i k f hpaused hk htx => checkResume_busy hpaused hk htx⟩
  · simp [execLinkPauseReceived, takesLink_steady hphase hrc, hpaused, State.start]
  · refine nextHolds_of_modLine (exec_linkResumeReceived_busy hphase hrc hpaused htx hlimit) fun t ht hothers hl => ?_
    rw [hl]
    exact ⟨ht, rfl, rfl, rfl, rfl, rfl, hothers⟩
  · have hexec : exec (.linkEndReceived i) s = .next (s.modLine i (Line.farCloses s.now)) := by
      simp [execLinkEndReceived, takesLink_steady hphase hrc, hfar, hdrop]
    refine nextHolds_of_modLine hexec fun t ht hothers hl => ?_
    rw [hl, farCloses_linked s.now hphase hrc htx hrate hend]
    exact ⟨ht, rfl, rfl, rfl, hst, hothers⟩
  · have htakes : (s.line i).takesLink = true := by simp [Line.takesLink, hphase, hrc]
    simp [execLinkEndOkReceived, htakes, hphase, hdrop]
  · rw [exec_linkDataReceived_judged hphase hrc hqueue, receiveData_noRoom he hk hroom, pump_modLine_busy (f := f)]
    · exact congrArg _ (modLine_congr s i (pausePeer_eq _))
    · rw [pausePeer_eq]
      simp [hphase]
    · rw [pausePeer_eq]
      exact htx

/-! ## Timers (R106, R110, R112 to R114) -/

/-- The resend timer resends the one entry sent, behind the frame in transmission. -/
theorem exec_resendTimerExpiry_only {d : Ms} {x : SendEntry} {f : LinkFrame}
    (htimer : (s.line i).link.resendTimer = .running d) (hd : d ≤ s.now) (hqueue : (s.line i).link.sendQueue = [x])
    (hresend : (s.line i).link.resendWait = []) (htx : (s.line i).link.txNow = some f)
    (hlimit : x.retries < (s.line i).profile.retryLimit) : exec (.resendTimerExpiry i) s =
      .next (s.modLine i (fun l => ({ l with link.resendTimer := .stopped } : Line).resentOnly x)) := by
  have honly := resend_only (l := { s.line i with link.resendTimer := .stopped }) hqueue hresend
  have hraise := afterRaise_busy (s := s) (i := i) (raised := [x.seq]) (f := f)
    (l := ({ s.line i with link.resendTimer := .stopped } : Line).resentOnly x)
    (by simpa [Line.resentOnly] using hlimit) htx
  have hexec : exec (.resendTimerExpiry i) s =
      .next (s.afterRaise i [x.seq] (({ s.line i with link.resendTimer := .stopped } : Line).resend x)) := by
    simp [execResendTimerExpiry, htimer, hqueue, hd]
  rw [hexec, honly, hraise]
  rfl

/-- The end of the spacing with an acknowledgement due: the ACK goes to the free transmitter. -/
theorem spaced_kick (now : Ms) (hdue : l.link.ackDue = true) (hrc : l.quality.rc = .steady)
    (htx : l.link.txNow = none) (hrate : l.link.rateWait = []) (hend : l.link.endWait = [])
    (hpause : l.link.pauseWait = []) : ({ l with link := l.link.spaced now } : Line).kick now =
      { l with link := { l.link with
        ackDue := false, ackWait := false, ackSpacing := some (now + 50), txNow := some (.ack l.link.e) } } := by
  have hspaced : l.link.spaced now =
      { l.link with ackDue := false, ackWait := true, ackSpacing := some (now + 50) } := if_pos hdue
  rw [hspaced, kick_ackWait]
  · exact hrc
  · exact htx
  · exact hrate
  · exact hend
  · exact hpause
  · rfl

/-- Settles O45: the resend timer by `exec_resendTimerExpiry_only`, the spacing by `spaced_kick`, the drain limit by
`sendEnd_taken`; the other timers release the call. -/
theorem linkTimers : Obligations.LinkTimers := by
  unfold Obligations.LinkTimers
  refine ⟨fun s i d x f htimer hd hqueue hresend htx hlimit => ?_, fun s i d hpaused htimer hd hending => ?_,
    fun s i d hspacing hd hdue hrc htx hrate hend hpause => ?_,
    fun s i d hphase htimer hd hrc htx hrate hend => ?_, fun s i d hphase hwait hd => ?_, fun s i hending => ?_⟩
  · refine nextHolds_of_modLine (exec_resendTimerExpiry_only htimer hd hqueue hresend htx hlimit)
      fun t ht hothers hl => ?_
    rw [hl]
    exact ⟨ht, rfl, rfl, rfl, (congrArg State.areas ht :), hothers⟩
  · simp [execPauseTimerExpiry, hpaused, htimer, due_some hd, hending]
  · have hexec : exec (.ackSpacingExpiry i) s =
        .next (s.modLine i (fun l => ({ l with link := l.link.spaced s.now } : Line).kick s.now)) := by
      simp [execAckSpacingExpiry, hspacing, due_some hd]
    refine nextHolds_of_modLine hexec fun t ht hothers hl => ?_
    rw [hl, spaced_kick s.now hdue hrc htx hrate hend hpause]
    exact ⟨ht, rfl, rfl, rfl, rfl, hothers⟩
  · have hexec : exec (.drainTimerExpiry i) s = .next (s.modLine i (Line.endDrain s.now)) := by
      simp [execDrainTimerExpiry, hphase, htimer, due_some hd]
    refine nextHolds_of_modLine hexec fun t ht hothers hl => ?_
    rw [hl, endDrain_steady s.now hrc, sendEnd_taken s.now hrc htx hrate hend]
    exact ⟨ht, rfl, rfl, rfl, rfl, rfl, hothers⟩
  · simp [execEndOkWaitExpiry, hphase, hwait, due_some hd]
  · simp [execPauseTimerExpiry, hending]

end Sys2Proof.Machine
end
